-- ==== Sys2Proof/Word.lean ====
section
/-! DEFINITION. The word types of the model: a byte, a string of bytes, and the sparse map every table of the
state is kept in (a list of key and value pairs in one canonical form; see Machine/SMap.lean). -/
namespace Sys2Proof

/-- One byte. -/
abbrev Byte := BitVec 8

/-- A string of bytes, the first at the lowest address. -/
abbrev Bytes := List Byte

/-- Sparse data by key: keys strictly rising, no entry equal to what an unlisted key reads as. -/
abbrev SMap (α : Type) := List (Nat × α)

end Sys2Proof
end

