-- ==== Sys2Proof/Syntax.lean ====
section
/-! DEFINITION. The commands of the block: one constructor of `Instr` for each row of the spec's table of commands,
with the data types of their operands. -/
namespace Sys2Proof

/-! ### Shared operands -/

/-- A host route (R464): 0 BAR0, 1 data port, 2 USDO, 3 UDP. -/
abbrev Route := Fin 4

/-- The commit record of R478 without its target, which the command names: tag, counter, key ID and the bits of `RSVD`. -/
structure CommitRec where
  tag : BitVec 128
  counter : BitVec 64
  keyId : BitVec 8
  rsvd : BitVec 32
deriving DecidableEq, Repr

/-! ### Boot, power, Dome -/

/-- What the boot ROM meets at a release (R490, R491): the `BOOT_MODE` pin, and whether the fuse read, the PUF
reconstruction and the TRNG start-up test pass and the flash answers. -/
structure BootEnv where
  hostBoot : Bool
  fuseOk : Bool
  pufOk : Bool
  trngOk : Bool
  flashOk : Bool
deriving DecidableEq, Repr

/-- How the PCIe function is reset (R429). -/
inductive PcieResetKind where
  | hotReset | functionLevel | linkDown
deriving DecidableEq, Repr

/-- An instruction of the JTAG port (R500, R501). -/
inductive JtagInstr where
  | idcode | bypass | samplePreload | domeauth | extest | intest | clamp | highz
  | otherPins | other1149 | debug
deriving DecidableEq, Repr

/-! ### Dictionary transports -/

/-- A UDP request with its source (R470). -/
structure UdpReq where
  srcIp : BitVec 32
  srcPort : BitVec 16
  magic : BitVec 16
  version : BitVec 8
  txn : BitVec 32
  index : BitVec 16
  sub : BitVec 8
  lenField : BitVec 16
  payload : Bytes
deriving DecidableEq, Repr

/-! ### Memory and host -/

/-- Where a device access goes and which way (R291, R435): a write carries its bytes, a read its length. -/
inductive AccessKind where
  | read (n : Nat)
  | write (data : Bytes)
deriving DecidableEq, Repr

/-- A flit of a Col link (R443): its header fields, payload and check result. -/
structure Flit where
  crcOk : Bool
  seqNo : BitVec 16
  poison : Bool
  typ : BitVec 8
  agent : BitVec 16
  srcRid : Fin 8
  dstRid : Fin 8
  tag : BitVec 16
  addr : BitVec 48
  payload : Bytes
deriving DecidableEq, Repr

/-- One record read from the host replay ring (R517, R518). -/
structure LbRec where
  time : Nat
  tclk : Nat
  src : Nat
  rtype : Nat
  rseq : Nat
  payload : Bytes
deriving DecidableEq, Repr

/-! ### Meridian and network time -/

/-- The PTP messages that IEEE 802.1AS uses (R563). -/
inductive PtpType where
  | sync | followUp | pdelayReq | pdelayResp | pdelayRespFollowUp | announce
deriving DecidableEq, Repr

/-- The contents of a PTP message (R563): header fields, its time stamp (seconds, nanoseconds), and the Announce fields.
`correction` is the correctionField, in 2^−16 ns; `short` says that the frame is shorter than its type requires.
[DEDUCED, log entry 10] -/
structure PtpMsg where
  short : Bool
  version : Nat
  domain : Nat
  seqId : Nat
  twoStep : Bool
  logInterval : Int
  correction : Int
  tsSec : Nat
  tsNs : Nat
  source : Nat
  gm : Nat
  prio1 : Nat
  clockClass : Nat
  accuracy : Nat
  variance : Nat
  prio2 : Nat
  steps : Nat
  utcOffset : Int
deriving DecidableEq, Repr

/-- Which of a `TIO` pin's timing entries a write names (R65). -/
inductive TioField where
  | start | period | width
deriving DecidableEq, Repr

/-- The CW parameters that have no row of their own (R58, R71, R84, R419): `RX_LAT`, `TX_LAT` of a port, `PPS_LAT` of an
input, `DESER_LAT` of a slot, `FLIP_ADDR` of a class. -/
inductive CwParam where
  | rxLat (p : Fin 16)
  | txLat (p : Fin 16)
  | ppsLat (n : Fin 4)
  | deserLat (s : Fin 96)
  | flipAddr (c : Fin 12)
deriving DecidableEq, Repr

/-! ### Sensor ingress -/

/-- How the ECC check of a CSI-2 packet header comes out (R73). -/
inductive HdrEcc where
  | ok | corrected | bad
deriving DecidableEq, Repr

/-- A port setting that takes effect when the port next retrains or goes idle (R85). -/
inductive PortRef where
  | csi (p : Fin 32)
  | eth (p : Fin 16)
  | can (c : Fin 4)
  | spi (m : Fin 4)
  | uart (u : Fin 2)
deriving DecidableEq, Repr

/-! ### The deep layer -/

/-- The pipes of a spur (R171). -/
inductive Pipe where
  | matrix | vector | move | gather | control
deriving DecidableEq, Repr

/-- Who issues a cairn operation: a spur by its instruction word, or another agent (R345, R350). -/
inductive CairnSrc where
  | spur (n : Fin 128)
  | other (agent : BitVec 16)
deriving DecidableEq, Repr

/-- Where a set buffer of the image lies: buckets, header, octree levels, its ready and release cairns and the release
target (R107, R120, R126 to R130). -/
structure SetBuf where
  base : Nat
  header : Nat
  oct : Nat
  ready : Nat
  release : Nat
  target : Nat
deriving DecidableEq, Repr

/-- The contents of the image sections whose arrangement in bytes the spec does not give (R285): the values of RO
entries (index, sub, value), templates by number, camera buffers by slot
(address, size), allocations (base, size, `WRITABLE`), descriptors, copies, rulebook specs, set buffers, Astrograph
specs and heads, Theodolite templates and programs, measurement rings by slot, share maps.
[DEDUCED, log entry 10] -/
structure ImageExtra where
  presets : List (Nat × Nat × Nat)
  tpls : List (Nat × Bytes)
  cams : List (Nat × List (Nat × Nat))
  allocs : List (Nat × Nat × Bool)
  descs : List Bytes
  copies : List Bytes
  rulebooks : List Nat
  setBufs : List SetBuf
  specs : List Bytes
  heads : List Bytes
  theoTpls : List Bytes
  theoProgs : List Bytes
  rings : List (Nat × Nat)
  maps : List Bytes
deriving DecidableEq, Repr

/-- A stream of another device of the Range in a deep result, as the Col links brought it (R276): Range ID, slot, kind,
status, frame number and contribution time (2^−16 ns). -/
structure PeerStream where
  rid : Fin 8
  slot : Fin 96
  kind : Fin 8
  status : Fin 8
  frame : BitVec 32
  t : Option Nat
deriving DecidableEq, Repr

/-! ### The commands -/

/-- The commands the KF9680 takes (one row of the table each). -/
inductive Instr where
  /-- `PORST_N_RELEASE` (R491). -/
  | porstNRelease (env : BootEnv)
  /-- `PORST_N_ASSERT` (R536). -/
  | porstNAssert (lowNs : Nat)
  /-- `SYSRST_N_ASSERT` (R536). -/
  | sysrstNAssert (lowNs : Nat) (env : BootEnv)
  /-- `SW_RESET` (R535). -/
  | swReset (r : Route) (cr : CommitRec) (env : BootEnv)
  /-- `PLL_LOCK` (R533). -/
  | pllLock (clk : Fin 8)
  /-- `KEEPER_START` (R526). -/
  | keeperStart (testBlockOk : Bool) (trained : Bool)
  /-- `INIT_PASS_COMPLETE` (R406). -/
  | initPassComplete (store : Fin 169) (readBackOk : Bool)
  /-- `BOOT_GO` (R494). -/
  | bootGo (r : Route)
  /-- `PD_ON` (R527). -/
  | pdOn (r : Route) (mask other : BitVec 32)
  /-- `PD_OFF` (R527). -/
  | pdOff (r : Route) (mask other : BitVec 32)
  /-- `DOMAIN_SWITCH_DONE` (R527). -/
  | domainSwitchDone (pd : Fin 32)
  /-- `CLOCK_OUT_OF_RANGE` (R534). -/
  | clockOutOfRange (clk : Fin 7)
  /-- `XTAL25_FAULT` (R534). -/
  | xtal25Fault
  /-- `TJ_WARN_EXCEEDED` (R552). -/
  | tjWarnExceeded (temp : Int)
  /-- `OVER_TEMPERATURE` (R534). -/
  | overTemperature (temp : Int)
  /-- `SUPPLY_OUT_OF_WINDOW` (R531). -/
  | supplyOutOfWindow (rail : Fin 8)
  /-- `VMON_FLT_CLEAR` (R531). -/
  | vmonFltClear (rail : Fin 8)
  /-- `ENV_HOLD_END` (R534). -/
  | envHoldEnd
  /-- `KEEPER_LOCKSTEP_MISMATCH` (R512). -/
  | keeperLockstepMismatch
  /-- `KEEPER_WATCHDOG` (R512). -/
  | keeperWatchdog
  /-- `KEEPER_MACHINE_CHECK` (R512). -/
  | keeperMachineCheck
  /-- `KEEPER_RESTART` (R512). -/
  | keeperRestart (digestOk : Bool)
  /-- `DRAM_STACK_FAILURE` (R513). -/
  | dramStackFailure (stack : Fin 2)
  /-- `TRNG_HEALTH_FAIL` (R490). -/
  | trngHealthFail
  /-- `RATE_ADJ_WRITE` (R44). -/
  | rateAdjWrite (r : Route) (v : BitVec 32)
  /-- `SERVO_EN_WRITE` (R44). -/
  | servoEnWrite (r : Route) (v : Bool)
  /-- `SRC_SEL_WRITE` (R46). -/
  | srcSelWrite (r : Route) (v : BitVec 8)
  /-- `SYNC` (R563). -/
  | sync (p : Fin 16) (m : PtpMsg)
  /-- `FOLLOW_UP` (R49). -/
  | followUp (p : Fin 16) (m : PtpMsg)
  /-- `PDELAY_REQ` (R48). -/
  | pdelayReq (p : Fin 16) (m : PtpMsg)
  /-- `PDELAY_RESP` (R48). -/
  | pdelayResp (p : Fin 16) (m : PtpMsg)
  /-- `PDELAY_RESP_FOLLOW_UP` (R49). -/
  | pdelayRespFollowUp (p : Fin 16) (m : PtpMsg)
  /-- `ANNOUNCE` (R564). -/
  | announce (p : Fin 16) (m : PtpMsg)
  /-- `ANNOUNCE_RECEIPT_TIMEOUT` (R48). -/
  | announceReceiptTimeout (p : Fin 16)
  /-- `ANNOUNCE_TX` (R48). -/
  | announceTx (p : Fin 16)
  /-- `SYNC_TX` (R48). -/
  | syncTx (p : Fin 16)
  /-- `PDELAY_REQ_TX` (R564). -/
  | pdelayReqTx (p : Fin 16)
  /-- `SOURCE_LOSS` (R51). -/
  | sourceLoss
  /-- `PPS_EDGE` (R47). -/
  | ppsEdge (n : Fin 4) (rising : Bool) (hold : Nat)
  /-- `RESTEP` (R54). -/
  | restep (r : Route) (cr : CommitRec)
  /-- `ASYM` (R56). -/
  | asym (r : Route) (p : Fin 16) (cr : CommitRec)
  /-- `CW_PARAM_COMMIT` (R480). -/
  | cwParamCommit (r : Route) (t : CwParam) (cr : CommitRec)
  /-- `LOCKOUT_END` (R482). -/
  | lockoutEnd
  /-- `LAUNCH_FRAME_SUBMIT` (R62). -/
  | launchFrameSubmit (p : Fin 16) (launch : BitVec 128) (data : Bytes) (stamp : Option (BitVec 16))
  /-- `LAUNCH_TIME_REACHED` (R63). -/
  | launchTimeReached (p : Fin 16) (busy : Bool)
  /-- `FRAME_TRANSMIT` (R59). -/
  | frameTransmit (p : Fin 16) (data : Bytes) (stamp : Option (BitVec 16))
  /-- `TS_POP` (R59). -/
  | tsPop (r : Route) (p : Fin 16)
  /-- `TIO_START_WRITE` (R65). -/
  | tioStartWrite (r : Route) (n : Fin 16) (which : TioField) (data : Bytes)
  /-- `TIO_PULSE` (R64). -/
  | tioPulse (n : Fin 16)
  /-- `TIO_PULSE_END` (R64). -/
  | tioPulseEnd (n : Fin 16)
  /-- `TIO_EDGE` (R78). -/
  | tioEdge (n : Fin 16) (rising : Bool) (hold : Nat) (pairToo : Bool)
  /-- `CSI2_FRAME_START` (R73). -/
  | csi2FrameStart (p : Fin 32) (vc : Fin 4) (hdr : HdrEcc) (num : BitVec 16)
  /-- `CSI2_LONG_PACKET` (R73). -/
  | csi2LongPacket (p : Fin 32) (vc : Fin 4) (hdr : HdrEcc) (dt : BitVec 6) (crcOk : Bool) (data : Bytes)
  /-- `CSI2_FRAME_END` (R95). -/
  | csi2FrameEnd (p : Fin 32) (vc : Fin 4) (hdr : HdrEcc) (num : BitVec 16)
  /-- `ETH_FRAME_RX` (R74). -/
  | ethFrameRx (p : Fin 16) (fcsOk : Bool) (frame : Bytes)
  /-- `CAN_FRAME_RX` (R75). -/
  | canFrameRx (c : Fin 4) (id : BitVec 29) (data : Bytes)
  /-- `SPI_DATA_READY` (R76). -/
  | spiDataReady (m : Fin 4) (hold : Nat)
  /-- `SPI_TRANSFER_DONE` (R76). -/
  | spiTransferDone (m : Fin 4) (data : Bytes)
  /-- `UART_SENTENCE` (R77). -/
  | uartSentence (u : Fin 2) (startNs : Nat) (text : Bytes) (framingOk : Bool)
  /-- `ENCODER_SAMPLE` (R79). -/
  | encoderSample (slot : Fin 96)
  /-- `SLOT_EN` (R83). -/
  | slotEn (r : Route) (slot : Fin 96) (v : Bool)
  /-- `STALE` (R100). -/
  | stale (slot : Fin 96)
  /-- `DEAD` (R100). -/
  | dead (slot : Fin 96)
  /-- `PORT_SETTING_APPLY` (R85). -/
  | portSettingApply (port : PortRef)
  /-- `ETH_LINK_DOWN` (R513). -/
  | ethLinkDown (p : Fin 16)
  /-- `CAN_BUS_OFF` (R513). -/
  | canBusOff (c : Fin 4)
  /-- `TALUS_POINT_TAKE` (R107). -/
  | talusPointTake
  /-- `SET_CLOSE` (R126). -/
  | setClose
  /-- `OCTREE_BUILD_DONE` (R126). -/
  | octreeBuildDone
  /-- `RULEBOOK_TILE_DONE` (R230). -/
  | rulebookTileDone
  /-- `RULEBOOK_BUILD_DONE` (R230). -/
  | rulebookBuildDone
  /-- `SET_RELEASE` (R130). -/
  | setRelease (buf : Fin 3)
  /-- `POSE_RING_WRITE` (R112). -/
  | poseRingWrite (e : BitVec 1024)
  /-- `SENTINEL_POINT_TAKE` (R141). -/
  | sentinelPointTake
  /-- `SLICE_CLOSE` (R148). -/
  | sliceClose
  /-- `SLICE_RESULT` (R154). -/
  | sliceResult
  /-- `EXCHANGE_FRAME_RX` (R162). -/
  | exchangeFrameRx (rid : Fin 8) (slice : BitVec 64) (hostLive failed : Bool) (map : Fin 8) (recs : List (BitVec 64))
  /-- `PEER_UNREACHABLE` (R163). -/
  | peerUnreachable (rid : Fin 8)
  /-- `EVIDENCE_EXPIRY` (R136). -/
  | evidenceExpiry (group : Fin 262144)
  /-- `PLATE_CLEAR_DONE` (R144). -/
  | plateClearDone
  /-- `COR_COMMIT` (R146). -/
  | corCommit (r : Route)
  /-- `CORRIDOR_CURRENT` (R146). -/
  | corridorCurrent
  /-- `CORRIDOR_STALE` (R148). -/
  | corridorStale
  /-- `SUSPECT_MASK_CLEAR` (R149). -/
  | suspectMaskClear (r : Route) (mask : BitVec 96)
  /-- `COMPARATOR_MISMATCH` (R157). -/
  | comparatorMismatch
  /-- `SNCLK_OUT_OF_RANGE` (R157). -/
  | snclkOutOfRange
  /-- `RESULT_MISSING` (R157). -/
  | resultMissing
  /-- `FIXED_EMITTER_RESULT` (R158). -/
  | fixedEmitterResult
  /-- `SNT_RESTART` (R158). -/
  | sntRestart (r : Route) (cr : CommitRec)
  /-- `SELF_TEST_DONE` (R165). -/
  | selfTestDone (ok : Bool)
  /-- `SNT_HB` (R160). -/
  | sntHb
  /-- `SAFE_HOLD_EXPIRY` (R159). -/
  | safeHoldExpiry
  /-- `HAZARD_FRAME_WINDOW` (R161). -/
  | hazardFrameWindow (busy : Bool)
  /-- `HAZARD_FRAME_WITHDRAW` (R161). -/
  | hazardFrameWithdraw
  /-- `ILLEGAL_CLASS` (R192). -/
  | illegalClass (n : Fin 128) (w : BitVec 64)
  /-- `ILLEGAL_OP` (R192). -/
  | illegalOp (n : Fin 128) (w : BitVec 64)
  /-- `NOP` (R190). -/
  | nop (n : Fin 128) (f : BitVec 54)
  /-- `JMP` (R190). -/
  | jmp (n : Fin 128) (f : BitVec 54)
  /-- `LOOP` (R190). -/
  | loop (n : Fin 128) (f : BitVec 54)
  /-- `SETL` (R190). -/
  | setl (n : Fin 128) (f : BitVec 54)
  /-- `SETA` (R190). -/
  | seta (n : Fin 128) (f : BitVec 54)
  /-- `EOT` (R190). -/
  | eot (n : Fin 128) (f : BitVec 54)
  /-- `TRAP` (R190). -/
  | trap (n : Fin 128) (f : BitVec 54)
  /-- `WLD` (R176). -/
  | wld (n : Fin 128) (f : BitVec 54) (far : Option Bytes)
  /-- `WLDT` (R176). -/
  | wldt (n : Fin 128) (f : BitVec 54) (far : Option Bytes)
  /-- `MAC` (R177). -/
  | mac (n : Fin 128) (f : BitVec 54) (far : Option Bytes)
  /-- `FADD` (R190). -/
  | fadd (n : Fin 128) (f : BitVec 54)
  /-- `FSUB` (R190). -/
  | fsub (n : Fin 128) (f : BitVec 54)
  /-- `FMUL` (R190). -/
  | fmul (n : Fin 128) (f : BitVec 54)
  /-- `FMA` (R190). -/
  | fma (n : Fin 128) (f : BitVec 54)
  /-- `FMIN` (R190). -/
  | fmin (n : Fin 128) (f : BitVec 54)
  /-- `FMAX` (R190). -/
  | fmax (n : Fin 128) (f : BitVec 54)
  /-- `FABS` (R190). -/
  | fabs (n : Fin 128) (f : BitVec 54)
  /-- `FNEG` (R190). -/
  | fneg (n : Fin 128) (f : BitVec 54)
  /-- `FCMP` (R190). -/
  | fcmp (n : Fin 128) (f : BitVec 54)
  /-- `SEL` (R190). -/
  | sel (n : Fin 128) (f : BitVec 54)
  /-- `RCP` (R181). -/
  | rcp (n : Fin 128) (f : BitVec 54)
  /-- `RSQ` (R181). -/
  | rsq (n : Fin 128) (f : BitVec 54)
  /-- `EXP2` (R181). -/
  | exp2 (n : Fin 128) (f : BitVec 54)
  /-- `LOG2` (R181). -/
  | log2 (n : Fin 128) (f : BitVec 54)
  /-- `CVT` (R182). -/
  | cvt (n : Fin 128) (f : BitVec 54)
  /-- `QMX` (R183). -/
  | qmx (n : Fin 128) (f : BitVec 54)
  /-- `ITOF` (R190). -/
  | itof (n : Fin 128) (f : BitVec 54)
  /-- `FIMM` (R190). -/
  | fimm (n : Fin 128) (f : BitVec 54)
  /-- `IADD` (R190). -/
  | iadd (n : Fin 128) (f : BitVec 54)
  /-- `ISUB` (R190). -/
  | isub (n : Fin 128) (f : BitVec 54)
  /-- `IMUL` (R190). -/
  | imul (n : Fin 128) (f : BitVec 54)
  /-- `ISATADD` (R190). -/
  | isatadd (n : Fin 128) (f : BitVec 54)
  /-- `AND` (R190). -/
  | andOp (n : Fin 128) (f : BitVec 54)
  /-- `OR` (R190). -/
  | orOp (n : Fin 128) (f : BitVec 54)
  /-- `XOR` (R190). -/
  | xorOp (n : Fin 128) (f : BitVec 54)
  /-- `SHL` (R190). -/
  | shl (n : Fin 128) (f : BitVec 54)
  /-- `SHR` (R190). -/
  | shr (n : Fin 128) (f : BitVec 54)
  /-- `ICMP` (R190). -/
  | icmp (n : Fin 128) (f : BitVec 54)
  /-- `LDV` (R190). -/
  | ldv (n : Fin 128) (f : BitVec 54) (far : Option Bytes)
  /-- `STV` (R190). -/
  | stv (n : Fin 128) (f : BitVec 54)
  /-- `LDP` (R190). -/
  | ldp (n : Fin 128) (f : BitVec 54) (far : Option Bytes)
  /-- `STP` (R190). -/
  | stp (n : Fin 128) (f : BitVec 54)
  /-- `ACCRD` (R190). -/
  | accrd (n : Fin 128) (f : BitVec 54)
  /-- `ACCWR` (R190). -/
  | accwr (n : Fin 128) (f : BitVec 54)
  /-- `ADDA` (R190). -/
  | adda (n : Fin 128) (f : BitVec 54)
  /-- `STSC` (R190). -/
  | stsc (n : Fin 128) (f : BitVec 54)
  /-- `MOVA` (R190). -/
  | mova (n : Fin 128) (f : BitVec 54)
  /-- `GATH` (R213). -/
  | gath (n : Fin 128) (f : BitVec 54) (far : Option Bytes)
  /-- `SCAT` (R214). -/
  | scat (n : Fin 128) (f : BitVec 54) (far : Option Bytes)
  /-- `SCATA` (R214). -/
  | scata (n : Fin 128) (f : BitVec 54) (far : Option Bytes)
  /-- `FENCE` (R191). -/
  | fence (n : Fin 128) (f : BitVec 54)
  /-- `FENCE_COMPLETE` (R191). -/
  | fenceComplete (n : Fin 128)
  /-- `PIPE_COMPLETE` (R171). -/
  | pipeComplete (n : Fin 128) (p : Pipe)
  /-- `SR_RESEED` (R186). -/
  | srReseed (n : Fin 128)
  /-- `SIGADD` (R347). -/
  | sigadd (src : CairnSrc) (f : BitVec 54)
  /-- `SIGSET` (R347). -/
  | sigset (src : CairnSrc) (f : BitVec 54)
  /-- `WAITGE` (R349). -/
  | waitge (src : CairnSrc) (f : BitVec 54) (tmoUs : Nat)
  /-- `WAITEQ` (R349). -/
  | waiteq (src : CairnSrc) (f : BitVec 54) (tmoUs : Nat)
  /-- `WAITBIT` (R349). -/
  | waitbit (src : CairnSrc) (f : BitVec 54) (tmoUs : Nat)
  /-- `WAITER_WAKE` (R353). -/
  | waiterWake (agent : BitVec 16)
  /-- `WAIT_TIMEOUT` (R354). -/
  | waitTimeout (w : Fin 8192)
  /-- `ARM` (R363). -/
  | arm (agent : BitVec 16) (c : Fin 16384) (v : BitVec 32) (whole : Bool)
  /-- `NOTIFY_WRITE` (R366). -/
  | notifyWrite (c : Fin 16384) (v : BitVec 64) (whole : Bool)
  /-- `CLAIM` (R364). -/
  | claim (r : Route) (c : BitVec 16)
  /-- `UNCLAIM` (R364). -/
  | unclaim (r : Route) (c : BitVec 16)
  /-- `HW_REQ` (R367). -/
  | hwReq (r : Route) (data : Bytes)
  /-- `HW_CANCEL` (R367). -/
  | hwCancel (r : Route) (v : Bool)
  /-- `CAIRN_RECORD_ERROR` (R362). -/
  | cairnRecordError (c : Fin 16384)
  /-- `WAITER_RECORD_PARITY` (R362). -/
  | waiterRecordParity (w : Fin 8192)
  /-- `Q_PUSH` (R383). -/
  | qPush (q : Fin 256) (agent : BitVec 16) (data : Bytes) (poison : Bool)
  /-- `Q_POP` (R390). -/
  | qPop (q : Fin 256) (agent : BitVec 16) (words : Fin 257)
  /-- `POP_RESUME` (R385). -/
  | popResume (q : Fin 256)
  /-- `QEMPTY_TO` (R390). -/
  | qemptyTo (q : Fin 256)
  /-- `Q_COMMIT` (R387). -/
  | qCommit (q : Fin 256) (agent : BitVec 16) (v : Bool)
  /-- `Q_ABORT` (R387). -/
  | qAbort (q : Fin 256) (agent : BitVec 16) (v : Bool)
  /-- `Q_MARK` (R388). -/
  | qMark (q : Fin 256) (agent : BitVec 16) (v : Bool)
  /-- `Q_REWIND` (R388). -/
  | qRewind (q : Fin 256) (agent : BitVec 16) (v : Bool)
  /-- `Q_RELEASE` (R388). -/
  | qRelease (q : Fin 256) (agent : BitVec 16) (v : Bool)
  /-- `Q_FLUSH` (R391). -/
  | qFlush (r : Route) (q : Fin 256) (cr : CommitRec)
  /-- `Q_PEAK` (R393). -/
  | qPeak (r : Route) (q : Fin 256)
  /-- `QUEUE_POINTER_MISMATCH` (R382). -/
  | queuePointerMismatch (q : Fin 256)
  /-- `ALLOC_NEW` (R200). -/
  | allocNew (r : Route) (data : Bytes)
  /-- `ALLOC_FREE` (R201). -/
  | allocFree (r : Route) (id : BitVec 16)
  /-- `DESC_NEW` (R209). -/
  | descNew (r : Route) (data : Bytes)
  /-- `DESC_FREE` (R204). -/
  | descFree (r : Route) (h : BitVec 32)
  /-- `COPY_NEW` (R216). -/
  | copyNew (r : Route) (data : Bytes)
  /-- `COPY_FREE` (R215). -/
  | copyFree (r : Route) (id : BitVec 16)
  /-- `IMG_LOAD` (R282). -/
  | imgLoad (r : Route)
  /-- `ADMISSION_COMPLETE` (R286). -/
  | admissionComplete (x : ImageExtra)
  /-- `EPOCH_INSTANT` (R29). -/
  | epochInstant
  /-- `INSTANCE_ORIGIN` (R303). -/
  | instanceOrigin (c : Fin 8)
  /-- `START_MIN` (R303). -/
  | startMin (c : Fin 8) (inst : Nat) (t : BitVec 16)
  /-- `INPUT_RESOLVE` (R305). -/
  | inputResolve (c : Fin 8) (inst : Nat) (t : BitVec 16) (k : Fin 8)
  /-- `IN_DL` (R305). -/
  | inDl (c : Fin 8) (inst : Nat) (t : BitVec 16) (k : Fin 8)
  /-- `TASK_DISPATCH` (R303). -/
  | taskDispatch (c : Fin 8) (inst : Nat) (t : BitVec 16)
  /-- `TASK_COMPLETE` (R303). -/
  | taskComplete (c : Fin 8) (inst : Nat) (t : BitVec 16)
  /-- `TASK_ABORT` (R306). -/
  | taskAbort (c : Fin 8) (inst : Nat) (t : BitVec 16)
  /-- `INSTANCE_EMPTY` (R311). -/
  | instanceEmpty (c : Fin 8) (inst : Nat)
  /-- `DEEP_RESULT` (R278). -/
  | deepResult (peer : List PeerStream)
  /-- `STOPPED_DEEP_RESULT` (R278). -/
  | stoppedDeepResult
  /-- `RESOURCE_ACCESS` (R291). -/
  | resourceAccess (res : BitVec 16) (slot : Fin 1024) (agent : BitVec 16) (addr : BitVec 48) (acc : AccessKind) (poison : Bool)
  /-- `SLOT_TABLE_PARITY` (R294). -/
  | slotTableParity (res : BitVec 16) (slot : Fin 1024)
  /-- `GATE_REWRITE` (R294). -/
  | gateRewrite (res : BitVec 16) (slot : Fin 1024)
  /-- `LIFT_DEPTH` (R260). -/
  | liftDepth (spec : Fin 32)
  /-- `LIFT_ATTN` (R261). -/
  | liftAttn (spec : Fin 32)
  /-- `VOX_POOL` (R262). -/
  | voxPool (spec : Fin 32)
  /-- `WARP` (R270). -/
  | warp (spec : Fin 32)
  /-- `ALMANAC_OBJECT_WRITE` (R251). -/
  | almanacObjectWrite (r : Route) (idx : BitVec 16) (data : Bytes)
  /-- `ALM_CLONE` (R251). -/
  | almClone (r : Route)
  /-- `ALM_SWITCH` (R252). -/
  | almSwitch (r : Route) (cr : CommitRec)
  /-- `ALMANAC_SWITCHED` (R253). -/
  | almanacSwitched
  /-- `LLT` (R318). -/
  | llt (u : Fin 2)
  /-- `LDLT` (R318). -/
  | ldlt (u : Fin 2)
  /-- `HOUSEHOLDER_QR` (R318). -/
  | householderQr (u : Fin 2)
  /-- `LU` (R318). -/
  | lu (u : Fin 2)
  /-- `TRIANGULAR_SOLVE` (R318). -/
  | triangularSolve (u : Fin 2)
  /-- `GAUSS_NEWTON` (R331). -/
  | gaussNewton (u : Fin 2) (iters : Fin 256)
  /-- `LEVENBERG_MARQUARDT` (R331). -/
  | levenbergMarquardt (u : Fin 2) (iters : Fin 256)
  /-- `PCG` (R331). -/
  | pcg (u : Fin 2) (iters : Fin 256)
  /-- `WAVE_COMPLETE` (R319). -/
  | waveComplete (u : Fin 2)
  /-- `T_STOP` (R332). -/
  | tStop (u : Fin 2)
  /-- `PROPAGATOR_SAMPLE` (R337). -/
  | propagatorSample
  /-- `GNSS_ORIGIN_WRITE` (R338). -/
  | gnssOriginWrite (r : Route) (data : Bytes)
  /-- `SCRUBBER_SLOT` (R408). -/
  | scrubberSlot (k : Fin 3) (chan : Fin 16) (upset : BitVec 144)
  /-- `SCRUB_REQ` (R411). -/
  | scrubReq (r : Route) (data : Bytes)
  /-- `SCRUB_PASS_END` (R413). -/
  | scrubPassEnd
  /-- `ERR_POP` (R414). -/
  | errPop (r : Route)
  /-- `WT_CLEAR` (R418). -/
  | wtClear (r : Route) (id : BitVec 16)
  /-- `WT_VERIFY_DONE` (R418). -/
  | wtVerifyDone
  /-- `DEGRADED_END` (R418). -/
  | degradedEnd
  /-- `FLIP_MASK` (R419). -/
  | flipMask (r : Route) (cls : Fin 12) (cr : CommitRec)
  /-- `PCIE_RESET` (R429). -/
  | pcieReset (kind : PcieResetKind)
  /-- `PCIE_TRAINED` (R428). -/
  | pcieTrained (gen : Fin 5) (width : Fin 9)
  /-- `PCIE_UNCORRECTABLE` (R430). -/
  | pcieUncorrectable
  /-- `DP_DATA` (R433). -/
  | dpData (whole : Bool) (acc : AccessKind)
  /-- `BURST_APERTURE` (R434). -/
  | burstAperture (off : Fin 65536) (acc : AccessKind)
  /-- `DP_FENCE` (R357). -/
  | dpFence (r : Route)
  /-- `REMOTE_TIMEOUT` (R448). -/
  | remoteTimeout (tag : BitVec 16)
  /-- `DMA_TAIL` (R440). -/
  | dmaTail (r : Route) (c : Fin 64) (v : BitVec 32)
  /-- `LINEAR_TRANSFER` (R439). -/
  | linearTransfer (c : Fin 64) (hostData : Option Bytes)
  /-- `COPY_OBJECT_TRANSFER` (R218). -/
  | copyObjectTransfer (c : Fin 64)
  /-- `DMA_TRANSFER_COMPLETE` (R438). -/
  | dmaTransferComplete (c : Fin 64)
  /-- `DMA_RESET` (R441). -/
  | dmaReset (r : Route) (c : Fin 64) (v : Bool)
  /-- `MSIX_UNMASK` (R442). -/
  | msixUnmask (v : Fin 256)
  /-- `COL_LINK_TRAINED` (R444). -/
  | colLinkTrained (l : Fin 6) (peer : Fin 8) (image : BitVec 64) (variant : Fin 4)
  /-- `COL_LINK_DOWN` (R447). -/
  | colLinkDown (l : Fin 6)
  /-- `COL_WRITE` (R448). -/
  | colWrite (l : Fin 6) (f : Flit)
  /-- `COL_WRITE_ACK` (R448). -/
  | colWriteAck (l : Fin 6) (f : Flit)
  /-- `COL_READ_REQUEST` (R448). -/
  | colReadRequest (l : Fin 6) (f : Flit)
  /-- `COL_READ_RESPONSE` (R448). -/
  | colReadResponse (l : Fin 6) (f : Flit)
  /-- `COL_CAIRN_OPERATION` (R368). -/
  | colCairnOperation (l : Fin 6) (f : Flit)
  /-- `MAP_SEL` (R451). -/
  | mapSel (r : Route) (cr : CommitRec)
  /-- `MAP_SWITCH` (R451). -/
  | mapSwitch
  /-- `PEER_ADMIT` (R456). -/
  | peerAdmit (r : Route) (cr : CommitRec)
  /-- `PEER_READMISSION` (R456). -/
  | peerReadmission
  /-- `RANGE_ID` (R445). -/
  | rangeId (r : Route) (cr : CommitRec)
  /-- `HOST_HB` (R452). -/
  | hostHb (r : Route)
  /-- `HOST_TMO` (R452). -/
  | hostTmo
  /-- `REGISTER_WRITE` (R461). -/
  | registerWrite (r : Route) (idx : BitVec 16) (sub : BitVec 8) (data : Bytes)
  /-- `CW_SHADOW_WRITE` (R477). -/
  | cwShadowWrite (r : Route) (idx : BitVec 16) (sub : BitVec 8) (data : Bytes)
  /-- `DW_GO_READ` (R473). -/
  | dwGoRead (r : Route)
  /-- `DW_GO_WRITE` (R473). -/
  | dwGoWrite (r : Route)
  /-- `DEFERRED_START` (R475). -/
  | deferredStart
  /-- `DEFERRED_DONE` (R475). -/
  | deferredDone
  /-- `DEF_TIMEOUT` (R475). -/
  | defTimeout
  /-- `USDO_DOWNLOAD` (R469). -/
  | usdoDownload (idx : BitVec 16) (sub : BitVec 8) (data : Bytes) (last : Bool)
  /-- `USDO_UPLOAD` (R469). -/
  | usdoUpload (idx : BitVec 16) (sub : BitVec 8)
  /-- `USDO_SEGMENT` (R469). -/
  | usdoSegment (data : Bytes) (last : Bool)
  /-- `USDO_SESSION_TIMEOUT` (R469). -/
  | usdoSessionTimeout
  /-- `NMT_START` (R469). -/
  | nmtStart
  /-- `NMT_STOP` (R469). -/
  | nmtStop
  /-- `NMT_ENTER_PRE_OPERATIONAL` (R469). -/
  | nmtEnterPreOperational
  /-- `NMT_RESET_COMMUNICATION` (R469). -/
  | nmtResetCommunication
  /-- `HEARTBEAT` (R469). -/
  | heartbeat
  /-- `UDP_READ` (R471). -/
  | udpRead (req : UdpReq)
  /-- `UDP_WRITE` (R471). -/
  | udpWrite (req : UdpReq)
  /-- `RB_ADV` (R495). -/
  | rbAdv (r : Route) (cr : CommitRec)
  /-- `FUSE_BURN_DONE` (R495). -/
  | fuseBurnDone
  /-- `FK_REVOKE` (R488). -/
  | fkRevoke (r : Route) (slot : Fin 4) (cr : CommitRec)
  /-- `MR7_EXTEND` (R496). -/
  | mr7Extend (r : Route) (data : Bytes)
  /-- `ATT_GO` (R497). -/
  | attGo (r : Route)
  /-- `QUOTE_READY` (R497). -/
  | quoteReady
  /-- `KEY_ENV` (R498). -/
  | keyEnv (r : Route) (data : Bytes)
  /-- `KEY_ENVELOPE_DONE` (R499). -/
  | keyEnvelopeDone
  /-- `JTAG_REQ` (R500). -/
  | jtagReq (r : Route) (level : Fin 3)
  /-- `JTAG_RELOCK` (R501). -/
  | jtagRelock (r : Route)
  /-- `JTAG_RESP` (R501). -/
  | jtagResp (r : Route) (data : Bytes)
  /-- `JTAG_CHALLENGE_EXPIRE` (R500). -/
  | jtagChallengeExpire
  /-- `EVT_POP` (R508). -/
  | evtPop (r : Route)
  /-- `EVENT_FRAME_TX` (R509). -/
  | eventFrameTx
  /-- `INJ_REQ` (R514). -/
  | injReq (r : Route) (cr : CommitRec)
  /-- `INJECTION_EXPIRE` (R515). -/
  | injectionExpire
  /-- `LB_EN` (R516). -/
  | lbEn (r : Route) (v : Bool)
  /-- `HOST_RING_WRITE` (R519). -/
  | hostRingWrite
  /-- `TIMEBASE_RECORD` (R516). -/
  | timebaseRecord
  /-- `RP_GO` (R520). -/
  | rpGo (r : Route) (cr : CommitRec)
  /-- `REPLAY_RECORD_APPLY` (R521). -/
  | replayRecordApply
  /-- `RP_STOP` (R522). -/
  | rpStop (r : Route)
  /-- `REPLAY_UNDERRUN` (R522). -/
  | replayUnderrun
  /-- `SLICE_END` (R134). -/
  | sliceEnd
  /-- `START_OF_TRANSMISSION_ERROR` (R513). -/
  | startOfTransmissionError (p : Fin 32)
  /-- `BUS_OFF_RECOVERY` (R513). -/
  | busOffRecovery (c : Fin 4)
  /-- `CAN_BUS_ERROR` (R85). -/
  | canBusError (c : Fin 4) (passive : Bool)
  /-- `ETH_LINK_UP` (R513). -/
  | ethLinkUp (p : Fin 16)
  /-- `BUS_MASTER_ENABLE` (R430). -/
  | busMasterEnable (bme d0 : Bool)
  /-- `CORRECTABLE_AER_ERROR` (R430). -/
  | correctableAerError
  /-- `JTAG_INSTRUCTION_LOAD` (R501). -/
  | jtagInstructionLoad (instr : JtagInstr)
  /-- `REPLAY_RING_READ` (R520). -/
  | replayRingRead (recs : Option (List LbRec))
  /-- `FLASH_WRITE_DONE` (R540). -/
  | flashWriteDone
deriving DecidableEq, Repr

end Sys2Proof
end

