-- ==== Sys2Proof/Decode.lean ====
section
/-! DEFINITION. The decoder over the rows of the table of commands that give bits: no row does. -/
namespace Sys2Proof

/-- The command that a word of `nbits` bits spells: none, since no row of the table of commands gives its command bits.
[DESIGN CHOICE, log entry 2] -/
def decodeTableWord (_nbits _w : Nat) : Option Instr := none

end Sys2Proof
end

