-- ==== Sys2Proof/Config.lean ====
section
/-! DEFINITION. What the spec leaves open, as constants without a body: no proof can see a value of them. -/
namespace Sys2Proof.Config

/-- The `n`-th byte the TRNG delivers (R490, R500, R186): free.
[DESIGN CHOICE, log entry 5] -/
opaque trng : Nat → Byte

/-- The outcome of a code word whose error pattern is wider than R402's guarantees: 0 clean, 1 corrected, 2 poisoned,
3 address mismatch, 4 and above uncorrectable. The code itself is not in the spec: free.
[DESIGN CHOICE, log entry 12] -/
opaque wideClass : Nat → Nat

/-- The correction the decoder applies to such a pattern when it reads as corrected: free.
[DESIGN CHOICE, log entry 12] -/
opaque wideFix : Nat → Nat

/-- The syndrome of an error pattern (R414 reports it): the code is not in the spec: free.
[DESIGN CHOICE, log entry 12] -/
opaque syndrome : Nat → Nat

/-- The 512 bytes of the wrapped key store, as a number (R498, R502): the wrapping format is not in the spec: free.
[DESIGN CHOICE, log entry 56] -/
opaque wrapKeyStore : Nat → Nat

/-- What a host-supplied 512-byte key store unwraps to: key, scope, generation and state of each command key (R494).
[DESIGN CHOICE, log entry 56] -/
opaque unwrapKeyStore : Nat → List (Nat × Nat × Nat × Nat)

/-- The `n`-th free value of `w` bits that a command draws.
[DESIGN CHOICE, log entry 5] -/
opaque freeValue : Nat → Nat

/-- The firmware version string (R474): free.
[DESIGN CHOICE, log entry 50] -/
opaque swVersion : Nat

/-- The fields of the device's own PTP vector that the spec does not give (R564): 0 clockAccuracy, 1
offsetScaledLogVariance, 2 priority2, 3 clockIdentity: free.
[DESIGN CHOICE, log entry 17] -/
opaque ownClock : Nat → Nat

/-- Sentinel's attitude integration (R143): the spec names the inputs (attitude, angular rate, acceleration, interval,
`INT_TAU`), not the discrete formula. Four numbers in units of 2^−62 as 64-bit fields: the new attitude quaternion, free.
[DESIGN CHOICE, log entry 26] -/
opaque integAtt : List Int → Nat

/-- The error of Talus's deskew arithmetic for a coordinate (R117), in units of 2^−128 m before it is held to R117's
bound: a function of the operands, free.
[DESIGN CHOICE, log entry 24] -/
opaque deskewErr : List Int → Int

/-- The port's own MAC address (R74), which no entry gives: free.
[DESIGN CHOICE, log entry 20] -/
opaque portMac : Nat → Nat

/-- A byte that a template's field would take beyond the end of the payload (R87): the spec states no value, free.
[DESIGN CHOICE, log entry 20] -/
opaque beyondPayload : Nat → Byte

/-- The channel table entry of a channel index beyond the table (R88): the spec states none, free.
[DESIGN CHOICE, log entry 20] -/
opaque noChannel : Nat → Nat

/-- The 16-bit draw of a spur's stochastic-rounding generator (R185, R186): a function of the seed and of the number of
draws since.
[DESIGN CHOICE, log entry 30] -/
opaque srDraw : Nat → Nat → Nat

/-- The function unit's result (R181, R194) for an operation (0x0B to 0x0E) and an operand, as FP32 bits: free within the
bound of R194, and free where the spec states no result.
[DESIGN CHOICE, log entry 30] -/
opaque fnUnit : Nat → Nat → Nat

/-- Whether `SHR` brings in copies of the sign bit (R190 says only "INT32"): free.
[DESIGN CHOICE, log entry 30] -/
opaque shrSigned : Bool

/-- Whether `FMIN` and `FMAX` of one NaN give the canonical NaN or the other operand, by operation (R190): free.
[DESIGN CHOICE, log entry 30] -/
opaque minMaxNan : Nat → Bool

/-- Which zero `FMIN` and `FMAX` give for zeros of opposite signs, by operation (R190): free.
[DESIGN CHOICE, log entry 30] -/
opaque minMaxZero : Nat → Bool

/-- The error of a projection in the second pass of R256, for the u or v of a camera and a point, in units of 2^−128 px:
free before it is held to 0.02 px.
[DESIGN CHOICE, log entry 36] -/
opaque projErr : List Int → Int

/-- The error of `LIFT_DEPTH`'s unprojection (R260) for a coordinate, in units of 2^−128 m: the precision of the inverse
table (R249) is not in the spec, free.
[DESIGN CHOICE, log entry 36] -/
opaque unprojErr : List Int → Int

/-- The error with which `VOX_POOL` places a site in the grid frame (R262), in units of 2^−128 m: free.
[DESIGN CHOICE, log entry 36] -/
opaque poolErr : List Int → Int

/-- Element `j` of H (j below n²) or of g (from n² on) as the Assembler builds them (R326) from the words it reads and the
iterate: the residuals of the factor kinds are not in the spec, FP64 bits, free.
[DESIGN CHOICE, log entry 43] -/
opaque assemble : List Nat → Nat → Nat

/-- The cost of an iterate (R326) from the same words: FP64 bits, free.
[DESIGN CHOICE, log entry 43] -/
opaque asmCost : List Nat → Nat

/-- Element `j` of a POSE block after ⊞ (R331), from its six elements and the six of δ: where the rotation stands in the
block, and the order of its operations, are not in the spec, free.
[DESIGN CHOICE, log entry 43] -/
opaque boxPose : List Nat → Nat → Nat

/-- Word `j` of a Householder factorisation (R318, R328) of the given words: R (n × n, row-major) and then the first n rows
of Qᵀ B (n × k): the order of the operations is not in the spec, FP64 bits, free.
[DESIGN CHOICE, log entry 43] -/
opaque qrWord : List Nat → Nat → Nat

/-- Element `j` of PCG's iterate `i` (R331), and at `j` = n k the cost of that iterate, from H, g and the start: the order
of the operations is not in the spec, FP64 bits, free.
[DESIGN CHOICE, log entry 43] -/
opaque pcgWord : List Nat → Nat → Nat → Nat

/-- Word `j` of the propagator's state (R337): position x, y, z and rotation w, x, y, z in FP64, velocity x, y, z in FP32,
from the base or the state before and the samples: the integration formula is not in the spec, free.
[DESIGN CHOICE, log entry 43] -/
opaque propagate : List Nat → Nat → Nat

/-- `POS_SIG` (0) and `ATT_SIG` (1) as FP32 (R337), from the six variances of the base pose, the growth rates and the time
since: which of the six are positions is not in the spec, free.
[DESIGN CHOICE, log entry 43] -/
opaque propSig : List Nat → Nat → Nat

/-- A value of a calibration proposal (R339) from a block's elements and variances: 0 to 6 `QUAT` and `TRANS` in FP64, 7
`T_OFF`, 8 to 10 `SIG_POS`, `SIG_ATT`, `SIG_T` in FP32: the block's arrangement is not in the spec, free.
[DESIGN CHOICE, log entry 43] -/
opaque calValue : List Nat → Nat → Nat

/-- Where in DRAM Keeper places the schedule image of the flash, in 4 KiB pages (R282): free.
[DESIGN CHOICE, log entry 41] -/
opaque flashImagePage : Nat

/-- Where in DRAM stack 0 Keeper reserves the descriptor table, in MiB (R204): free.
[DESIGN CHOICE, log entry 41] -/
opaque descTable : Nat

/-- Whether a peer with no direct link has a route over links that are UP further on (R456): this device does not hold the
other devices' link states, so it is free, a function of the time and of the peer.
[DESIGN CHOICE, log entry 49] -/
opaque remoteRoute : Nat → Nat → Bool

/-- The device address of a word of a small buffer (class 11, R401), which the address map does not give: free, a function of
the buffer.
[DESIGN CHOICE, log entry 12] -/
opaque smallAddr : Nat → Nat

/-- The drivers that hold `SAFE_N` through `SAFE_HOLD` after the last cause has gone (R159 does not say which): free.
[DESIGN CHOICE, log entry 28] -/
opaque holdDrv : Nat

end Sys2Proof.Config
end

