-- ==== Sys2Proof/Machine/Bits.lean ====
section
/-! DEFINITION. Bit fields, two's complement, little-endian bytes (R7) and saturation (R21), over plain numbers. -/
namespace Sys2Proof.Machine

/-- Bits `hi` down to `lo` of `v`. -/
def bitsOf (hi lo v : Nat) : Nat := (v >>> lo) % 2 ^ (hi + 1 - lo)

/-- `v` with bits `hi` down to `lo` replaced by the low bits of `x`. -/
def setBits (hi lo v x : Nat) : Nat :=
  v - (bitsOf hi lo v <<< lo) + ((x % 2 ^ (hi + 1 - lo)) <<< lo)

/-- Bit `i` set in `v`. -/
def setBit (v i : Nat) : Nat := v ||| (1 <<< i)

/-- Bit `i` cleared in `v`. -/
def clearBit (v i : Nat) : Nat := if v.testBit i then v - (1 <<< i) else v

/-- The bits of `m` cleared in `v`. -/
def clearMask (v m : Nat) : Nat := v - (v &&& m)

/-- The `w`-bit pattern `n` read as two's complement. -/
def sgnOf (w n : Nat) : Int :=
  let m := n % 2 ^ w
  if m < 2 ^ (w - 1) then (m : Int) else (m : Int) - (2 ^ w : Nat)

/-- The `w`-bit two's complement pattern of `i`. -/
def ofSgn (w : Nat) (i : Int) : Nat := (i % (2 ^ w : Nat)).toNat

/-- `i` brought into `lo..hi`. -/
def clampInt (lo hi i : Int) : Int := if i < lo then lo else if hi < i then hi else i

/-- The value of a little-endian byte string (R7). -/
def leNat : Bytes → Nat
  | [] => 0
  | b :: bs => b.toNat + 256 * leNat bs

/-- `n` bytes of `v`, little-endian (R7). -/
def toLe : Nat → Nat → Bytes
  | 0, _ => []
  | n + 1, v => BitVec.ofNat 8 v :: toLe n (v / 256)

/-- The value of a big-endian byte string (protocol headers on the wire, R7). -/
def beNat (bs : Bytes) : Nat := bs.foldl (fun a b => a * 256 + b.toNat) 0

/-- Bytes `off` to `off + n - 1` of `bs`. -/
def slice (bs : Bytes) (off n : Nat) : Bytes := (bs.drop off).take n

/-- The little-endian number in bytes `off` to `off + n - 1`. -/
def leAt (bs : Bytes) (off n : Nat) : Nat := leNat (slice bs off n)

/-- `bs` cut or padded with zeros to `n` bytes. -/
def padTo (n : Nat) (bs : Bytes) : Bytes := bs.take n ++ List.replicate (n - bs.length) 0

/-- The largest value of a saturating 32-bit counter (R21). -/
def maxCount : Nat := 2 ^ 32 - 1

/-- A saturating 32-bit counter after `n` more (R21). -/
def satAdd (v n : Nat) : Nat := min (v + n) maxCount

/-- 1 for true. -/
def boolNat (b : Bool) : Nat := if b then 1 else 0

/-- `a / b` rounded up. -/
def ceilDiv (a b : Nat) : Nat := (a + b - 1) / b

/-- The first `n` naturals that satisfy `p`, lowest first. -/
def bitsSet (n m : Nat) : List Nat := (List.range n).filter (fun i => m.testBit i)

/-- Exclusive or of two byte strings. -/
def xorBytes (a b : Bytes) : Bytes := List.zipWith (· ^^^ ·) a b

/-- ASCII bytes of a string. -/
def asciiBytes (s : String) : Bytes := s.toList.map (fun c => BitVec.ofNat 8 c.toNat)

/-- One bit of the reflected CRC-32 of IEEE 802.3. -/
def crc32Bit (c : Nat) : Nat := if c % 2 = 1 then (c / 2) ^^^ 0xEDB88320 else c / 2

/-- One byte of it. -/
def crc32Byte (c : Nat) (b : Byte) : Nat := (List.range 8).foldl (fun a _ => crc32Bit a) (c ^^^ b.toNat)

/-- CRC-32 (IEEE 802.3). -/
def crc32 (bs : Bytes) : Nat := bs.foldl crc32Byte 0xFFFFFFFF ^^^ 0xFFFFFFFF

/-- One byte of CRC-16/CCITT-FALSE. -/
def crc16Byte (c : Nat) (b : Byte) : Nat :=
  (List.range 8).foldl (fun a _ => if 0x8000 ≤ a then (a * 2 % 65536) ^^^ 0x1021 else a * 2) (c ^^^ (b.toNat * 256))

/-- CRC-16/CCITT-FALSE (R161). -/
def crc16 (bs : Bytes) : Nat := bs.foldl crc16Byte 0xFFFF

end Sys2Proof.Machine
end

