-- ==== Sys2Proof/Machine/Entries.lean ====
section
/-! DEFINITION. The entry tables of the spec's chapters as data: for each row its index, how many indices repeat it,
its subindices, type, length, access code, default and range (R8, R459, R460, R475). -/
namespace Sys2Proof.Machine

/-- The types of R460. -/
inductive EType where
  | bool | i8 | i16 | i32 | u8 | u16 | u32 | real32 | str | domain | real64 | i64 | u64
deriving DecidableEq, Repr

/-- The access codes of R8. -/
inductive Access where
  | ro | rw | wo | rc | w1c | cw | const
deriving DecidableEq, Repr

/-- One row of an entry table: indices `idx` to `idx + cnt - 1`, subindices `lo` to `hi`, type, least and greatest length in bytes,
access code, default (bit pattern), range of a written value where the table gives one, window (R461), served by Keeper (R475). -/
structure EntryRow where
  idx : Nat
  cnt : Nat
  lo : Nat
  hi : Nat
  typ : EType
  minLen : Nat
  len : Nat
  acc : Access
  dflt : Nat
  range : Option (Int × Int)
  window : Bool
  deferred : Bool
deriving DecidableEq, Repr

/-- Entries of indices 0x1000 to 0x10FF, part 1. -/
def entryRows10a : List EntryRow := [
  ⟨0x1000, 1, 0x00, 0x00, .u32, 4, 4, .const, 0, none, false, true⟩,  -- DEVICE_TYPE, R485
  ⟨0x1001, 1, 0x00, 0x00, .u8, 1, 1, .ro, 0, none, false, true⟩,  -- ERROR_REG, R485
  ⟨0x1008, 1, 0x00, 0x00, .str, 1, 64, .const, 0, none, false, true⟩,  -- DEVICE_NAME, R485
  ⟨0x1009, 1, 0x00, 0x00, .str, 1, 64, .const, 0x3042, none, false, true⟩,  -- HW_VERSION, R485
  ⟨0x100A, 1, 0x00, 0x00, .str, 1, 64, .ro, 0, none, false, true⟩,  -- SW_VERSION, R485
  ⟨0x1017, 1, 0x00, 0x00, .u16, 2, 2, .rw, 0, some (0, 65535), false, true⟩,  -- HEARTBEAT, R485
  ⟨0x1018, 1, 0x01, 0x04, .u32, 4, 4, .const, 0, none, false, true⟩  -- IDENTITY, R485
]

/-- Entries of indices 0x2000 to 0x20FF, part 1. -/
def entryRows20a : List EntryRow := [
  ⟨0x2000, 1, 0x01, 0x01, .u16, 2, 2, .const, 0x9680, none, false, false⟩,  -- PRODUCT, R485
  ⟨0x2000, 1, 0x02, 0x02, .u8, 1, 1, .const, 0, none, false, false⟩,  -- VARIANT, R485
  ⟨0x2000, 1, 0x03, 0x03, .u8, 1, 1, .const, 0xb0, none, false, false⟩,  -- STEPPING, R485
  ⟨0x2000, 1, 0x04, 0x04, .domain, 16, 16, .const, 0, none, false, false⟩,  -- UID, R485
  ⟨0x2000, 1, 0x05, 0x05, .u8, 1, 1, .ro, 0, none, false, false⟩,  -- DEV_STATE, R485
  ⟨0x2001, 1, 0x01, 0x01, .u32, 4, 4, .rw, 0x2710, some (1000, 1000000), false, false⟩,  -- DEF_TMO, R485
  ⟨0x2001, 1, 0x02, 0x02, .u8, 1, 1, .ro, 0, some (0, 64), false, false⟩,  -- DEF_PEND, R485
  ⟨0x2001, 1, 0x03, 0x03, .u8, 1, 1, .rw, 0x30, some (1, 127), false, false⟩,  -- NODE_ID, R485
  ⟨0x2001, 1, 0x04, 0x04, .u8, 1, 1, .rw, 0, some (0, 3), false, false⟩,  -- USDO_PORT, R485
  ⟨0x2001, 1, 0x05, 0x05, .bool, 1, 1, .rw, 1, some (0, 1), false, false⟩,  -- USDO_EN, R485
  ⟨0x2001, 1, 0x06, 0x06, .bool, 1, 1, .rw, 0, some (0, 1), false, false⟩,  -- UDP_EN, R485
  ⟨0x2001, 1, 0x07, 0x07, .domain, 32, 32, .rw, 0, none, false, false⟩,  -- UDP_ALLOW, R485
  ⟨0x2001, 1, 0x08, 0x08, .u16, 2, 2, .const, 0xbb30, none, false, false⟩,  -- UDP_PORT, R485
  ⟨0x2001, 1, 0x09, 0x09, .u32, 4, 4, .rc, 0, none, false, false⟩,  -- UDP_BAD, R485
  ⟨0x2010, 4, 0x01, 0x01, .u32, 4, 4, .ro, 0, none, false, false⟩,  -- R_ABORT, R485
  ⟨0x2010, 4, 0x02, 0x02, .u16, 2, 2, .ro, 0, none, false, false⟩,  -- R_REASON, R485
  ⟨0x2010, 4, 0x03, 0x03, .u32, 4, 4, .ro, 0, none, false, false⟩,  -- R_ENTRY, R485
  ⟨0x2010, 4, 0x04, 0x04, .u32, 4, 4, .rc, 0, none, false, false⟩,  -- R_ABORTS, R485
  ⟨0x2010, 4, 0x05, 0x05, .u8, 1, 1, .ro, 0, none, false, false⟩,  -- R_PEND, R485
  ⟨0x2010, 4, 0x06, 0x06, .u32, 4, 4, .ro, 0, none, false, false⟩,  -- R_SHADOW, R485
  ⟨0x2010, 4, 0x07, 0x07, .u32, 4, 4, .rw, 0, none, false, false⟩,  -- DW_TARGET, R485
  ⟨0x2010, 4, 0x08, 0x08, .u16, 2, 2, .rw, 0, some (1, 2048), false, false⟩,  -- DW_LEN, R485
  ⟨0x2010, 4, 0x09, 0x09, .u8, 1, 1, .wo, 0, some (1, 2), false, false⟩,  -- DW_GO, R485
  ⟨0x2010, 4, 0x0A, 0x0A, .u32, 4, 4, .rw, 0, none, false, false⟩  -- EI_SEL, R485
]

/-- Entries of indices 0x2000 to 0x20FF, part 2. -/
def entryRows20b : List EntryRow := [
  ⟨0x2010, 4, 0x0B, 0x0B, .u64, 8, 8, .ro, 0, none, false, false⟩,  -- EI_VIEW, R485
  ⟨0x2014, 4, 0x00, 0xFF, .domain, 2048, 2048, .rw, 0, none, true, false⟩  -- DW_BUF, R485
]

/-- Entries of indices 0x2100 to 0x21FF, part 1. -/
def entryRows21a : List EntryRow := [
  ⟨0x2100, 1, 0x01, 0x01, .u8, 1, 1, .ro, 0, none, false, false⟩,  -- MER_STATE, R69
  ⟨0x2100, 1, 0x02, 0x02, .domain, 16, 16, .ro, 0, none, false, false⟩,  -- MER_NOW, R69
  ⟨0x2100, 1, 0x03, 0x03, .u64, 8, 8, .const, 0x200000000, none, false, false⟩,  -- INC_NOM, R69
  ⟨0x2100, 1, 0x04, 0x04, .i32, 4, 4, .rw, 0, some (-4294967, 4294967), false, false⟩,  -- RATE_ADJ, R69
  ⟨0x2100, 1, 0x05, 0x05, .bool, 1, 1, .rw, 1, some (0, 1), false, false⟩,  -- SERVO_EN, R69
  ⟨0x2100, 1, 0x06, 0x06, .u8, 1, 1, .rw, 0, some (0, 3), false, false⟩,  -- SRC_SEL, R69
  ⟨0x2100, 1, 0x07, 0x07, .u32, 4, 4, .rw, 0x64, some (10, 10000), false, false⟩,  -- LOCK_THR, R69
  ⟨0x2100, 1, 0x08, 0x08, .u32, 4, 4, .rw, 0x186a0, some (1000, 400000), false, false⟩,  -- SLEW_MAX, R69
  ⟨0x2100, 1, 0x09, 0x09, .u32, 4, 4, .rw, 0xc8, some (20, 100000), false, false⟩,  -- PD_JUMP_THR, R69
  ⟨0x2100, 1, 0x0A, 0x0A, .u16, 2, 2, .rw, 0x10, some (2, 1024), false, false⟩,  -- PD_STABLE_N, R69
  ⟨0x2100, 1, 0x0B, 0x0B, .u8, 1, 1, .rw, 3, some (2, 16), false, false⟩,  -- SRC_LOSS_N, R69
  ⟨0x2100, 1, 0x0C, 0x0C, .i64, 8, 8, .cw, 0, none, false, false⟩,  -- RESTEP, R69
  ⟨0x2100, 1, 0x0D, 0x0D, .u32, 4, 4, .ro, 0, none, false, false⟩,  -- STEP_COUNT, R69
  ⟨0x2100, 1, 0x0E, 0x0E, .i64, 8, 8, .ro, 0, none, false, false⟩,  -- LAST_STEP, R69
  ⟨0x2100, 1, 0x0F, 0x0F, .i64, 8, 8, .ro, 0, none, false, false⟩,  -- OFFSET, R69
  ⟨0x2100, 1, 0x10, 0x10, .u32, 4, 4, .ro, 0, none, false, false⟩,  -- SRC_PD, R69
  ⟨0x2100, 1, 0x11, 0x11, .i16, 2, 2, .rw, 0x25, none, false, false⟩,  -- UTC_OFFSET, R69
  ⟨0x2100, 1, 0x12, 0x12, .u32, 4, 4, .rc, 0, none, false, false⟩,  -- OFFSET_REJ, R69
  ⟨0x2100, 1, 0x13, 0x13, .bool, 1, 1, .rw, 0, some (0, 1), false, false⟩,  -- GM_ENABLE, R69
  ⟨0x2100, 1, 0x14, 0x14, .u8, 1, 1, .rw, 0, some (0, 127), false, false⟩,  -- DOMAIN_NUM, R69
  ⟨0x2100, 1, 0x15, 0x15, .u8, 1, 1, .rw, 0xf8, some (0, 255), false, false⟩,  -- PRIORITY1, R69
  ⟨0x2100, 1, 0x16, 0x16, .u8, 1, 1, .rw, 4, some (2, 32), false, false⟩,  -- ACQ_N, R69
  ⟨0x2100, 1, 0x17, 0x17, .u8, 1, 1, .rw, 0, some (0, 3), false, false⟩,  -- GNSS_PPS, R69
  ⟨0x2100, 1, 0x18, 0x18, .u8, 1, 1, .rw, 0, some (0, 1), false, false⟩  -- GNSS_UART, R69
]

/-- Entries of indices 0x2100 to 0x21FF, part 2. -/
def entryRows21b : List EntryRow := [
  ⟨0x2110, 16, 0x01, 0x01, .bool, 1, 1, .rw, 0, some (0, 1), false, false⟩,  -- PTP_PORT_EN, R70
  ⟨0x2110, 16, 0x02, 0x02, .u8, 1, 1, .ro, 3, none, false, false⟩,  -- PORT_STATE, R70
  ⟨0x2110, 16, 0x03, 0x03, .i32, 4, 4, .cw, 0, some (-1000000, 1000000), false, false⟩,  -- ASYM, R70
  ⟨0x2110, 16, 0x04, 0x04, .u32, 4, 4, .cw, 0, some (0, 10000), false, false⟩,  -- RX_LAT, R70
  ⟨0x2110, 16, 0x05, 0x05, .u32, 4, 4, .cw, 0, some (0, 10000), false, false⟩,  -- TX_LAT, R70
  ⟨0x2110, 16, 0x06, 0x06, .i8, 1, 1, .rw, 0xfd, some (-5, 0), false, false⟩,  -- LOG_SYNC, R70
  ⟨0x2110, 16, 0x07, 0x07, .i8, 1, 1, .rw, 0, some (-3, 3), false, false⟩,  -- LOG_PDELAY, R70
  ⟨0x2110, 16, 0x08, 0x08, .u32, 4, 4, .ro, 0, none, false, false⟩,  -- MEAN_PD, R70
  ⟨0x2110, 16, 0x09, 0x09, .i32, 4, 4, .ro, 0, none, false, false⟩,  -- NRR, R70
  ⟨0x2110, 16, 0x0A, 0x0A, .domain, 24, 24, .rc, 0, none, false, false⟩,  -- TS_POP, R70
  ⟨0x2110, 16, 0x0B, 0x0B, .u8, 1, 1, .ro, 0, some (0, 16), false, false⟩,  -- TS_COUNT, R70
  ⟨0x2110, 16, 0x0C, 0x0C, .u32, 4, 4, .rc, 0, none, false, false⟩,  -- TS_OVF, R70
  ⟨0x2110, 16, 0x0D, 0x0D, .u32, 4, 4, .rc, 0, none, false, false⟩,  -- LATE_LAUNCH, R70
  ⟨0x2110, 16, 0x0E, 0x0E, .u32, 4, 4, .rc, 0, none, false, false⟩,  -- LAUNCH_SLIP, R70
  ⟨0x2110, 16, 0x0F, 0x0F, .u32, 4, 4, .rc, 0, none, false, false⟩,  -- BAD_MSG, R70
  ⟨0x2120, 16, 0x01, 0x01, .u8, 1, 1, .rw, 0, some (0, 5), false, false⟩,  -- TIO_MODE, R71
  ⟨0x2120, 16, 0x02, 0x02, .domain, 16, 16, .rw, 0, none, false, false⟩,  -- TIO_START, R71
  ⟨0x2120, 16, 0x03, 0x03, .u32, 4, 4, .rw, 0x2faf080, some (1000, 1000000000), false, false⟩,  -- TIO_PERIOD, R71
  ⟨0x2120, 16, 0x04, 0x04, .u32, 4, 4, .rw, 0x2710, some (100, 999999900), false, false⟩,  -- TIO_WIDTH, R71
  ⟨0x2120, 16, 0x05, 0x05, .bool, 1, 1, .rw, 1, some (0, 1), false, false⟩,  -- TIO_POL, R71
  ⟨0x2120, 16, 0x06, 0x06, .u32, 4, 4, .rc, 0, none, false, false⟩,  -- TIO_MISSED, R71
  ⟨0x2120, 16, 0x07, 0x07, .domain, 16, 16, .ro, 0, none, false, false⟩,  -- TIO_LAST, R71
  ⟨0x2120, 16, 0x08, 0x08, .u32, 4, 4, .rc, 0, none, false, false⟩,  -- TIO_REPLAY, R71
  ⟨0x2130, 4, 0x01, 0x01, .u8, 1, 1, .rw, 0, some (0, 1), false, false⟩  -- PPS_EDGE, R71
]

/-- Entries of indices 0x2100 to 0x21FF, part 3. -/
def entryRows21c : List EntryRow := [
  ⟨0x2130, 4, 0x02, 0x02, .u32, 4, 4, .cw, 0, some (0, 100000), false, false⟩,  -- PPS_LAT, R71
  ⟨0x2130, 4, 0x03, 0x03, .domain, 16, 16, .ro, 0, none, false, false⟩,  -- PPS_LAST, R71
  ⟨0x2120, 16, 0x09, 0x09, .u8, 1, 1, .rw, 4, some (0, 255), false, false⟩,  -- TIO_FILT, R85
  ⟨0x2120, 16, 0x0A, 0x0A, .u32, 4, 4, .rc, 0, none, false, false⟩,  -- TIO_GLITCH, R85
  ⟨0x2130, 4, 0x04, 0x04, .u8, 1, 1, .rw, 0x19, some (0, 255), false, false⟩  -- PPS_FILT, R85
]

/-- Entries of indices 0x2200 to 0x22FF, part 1. -/
def entryRows22a : List EntryRow := [
  ⟨0x2200, 96, 0x01, 0x01, .bool, 1, 1, .rw, 0, some (0, 1), false, false⟩,  -- SLOT_EN, R84
  ⟨0x2200, 96, 0x02, 0x02, .u8, 1, 1, .ro, 0, some (0, 7), false, false⟩,  -- SLOT_KIND, R84
  ⟨0x2200, 96, 0x03, 0x03, .u16, 2, 2, .ro, 0, none, false, false⟩,  -- SLOT_PORT, R84
  ⟨0x2200, 96, 0x04, 0x04, .u8, 1, 1, .ro, 0, none, false, false⟩,  -- SLOT_TPL, R84
  ⟨0x2200, 96, 0x05, 0x05, .u32, 4, 4, .ro, 0, none, false, false⟩,  -- C_RATE, R84
  ⟨0x2200, 96, 0x06, 0x06, .u32, 4, 4, .ro, 0, some (1, 16384), false, false⟩,  -- C_BURST, R84
  ⟨0x2200, 96, 0x07, 0x07, .u8, 1, 1, .ro, 0x19, some (0, 100), false, false⟩,  -- KEEP_RES, R84
  ⟨0x2200, 96, 0x08, 0x08, .u32, 4, 4, .ro, 0x186a0, some (1000, 10000000), false, false⟩,  -- STALE_T, R84
  ⟨0x2200, 96, 0x09, 0x09, .u32, 4, 4, .ro, 0xf4240, none, false, false⟩,  -- DEAD_T, R84
  ⟨0x2200, 96, 0x0A, 0x0A, .u32, 4, 4, .ro, 0, none, false, false⟩,  -- SEQ_MOD, R84
  ⟨0x2200, 96, 0x0B, 0x0B, .u8, 1, 1, .ro, 0, none, false, false⟩,  -- SLOT_STATE, R84
  ⟨0x2200, 96, 0x0C, 0x0C, .u32, 4, 4, .cw, 0, some (0, 1000000), false, false⟩,  -- DESER_LAT, R84
  ⟨0x2200, 96, 0x0D, 0x0D, .u32, 4, 4, .rw, 0, some (0, 1000000000), false, false⟩,  -- EXPO_NS, R84
  ⟨0x2200, 96, 0x0E, 0x0E, .u16, 2, 2, .ro, 0, none, false, false⟩,  -- REF_ROW, R84
  ⟨0x2200, 96, 0x0F, 0x0F, .u64, 8, 8, .ro, 0, none, false, false⟩,  -- UNITS, R84
  ⟨0x2200, 96, 0x10, 0x10, .domain, 16, 16, .ro, 0, none, false, false⟩,  -- LAST_UNIT, R84
  ⟨0x2200, 96, 0x11, 0x11, .u32, 4, 4, .rc, 0, none, false, false⟩,  -- DROP_CONTRACT, R84
  ⟨0x2200, 96, 0x12, 0x12, .u32, 4, 4, .rc, 0, none, false, false⟩,  -- DROP_RANGE, R84
  ⟨0x2200, 96, 0x13, 0x13, .u32, 4, 4, .rc, 0, none, false, false⟩,  -- DROP_RATE, R84
  ⟨0x2200, 96, 0x14, 0x14, .u32, 4, 4, .rc, 0, none, false, false⟩,  -- DROP_FORMAT, R84
  ⟨0x2200, 96, 0x15, 0x15, .u32, 4, 4, .rc, 0, none, false, false⟩,  -- DROP_DUP, R84
  ⟨0x2200, 96, 0x16, 0x16, .u32, 4, 4, .rc, 0, none, false, false⟩,  -- SEQ_GAP, R84
  ⟨0x2200, 96, 0x17, 0x17, .u32, 4, 4, .rc, 0, none, false, false⟩,  -- DROP_TIME, R84
  ⟨0x2200, 96, 0x18, 0x18, .u32, 4, 4, .rc, 0, none, false, false⟩  -- DROP_BUF, R84
]

/-- Entries of indices 0x2200 to 0x22FF, part 2. -/
def entryRows22b : List EntryRow := [
  ⟨0x2200, 96, 0x19, 0x19, .u32, 4, 4, .rc, 0, none, false, false⟩,  -- LATE_CNT, R84
  ⟨0x2200, 96, 0x1A, 0x1A, .u32, 4, 4, .rc, 0, none, false, false⟩,  -- LATE_DROP, R84
  ⟨0x2200, 96, 0x1B, 0x1B, .u32, 4, 4, .rc, 0, none, false, false⟩,  -- CAP_DROP, R84
  ⟨0x2260, 1, 0x01, 0x01, .u32, 4, 4, .const, 0x4000, none, false, false⟩,  -- BUF_DEPTH, R85
  ⟨0x2260, 1, 0x02, 0x02, .u32, 4, 4, .rc, 0, none, false, false⟩,  -- BUF_PEAK, R85
  ⟨0x2260, 1, 0x03, 0x03, .u16, 2, 2, .rw, 0xc8, some (0, 5000), false, false⟩,  -- KEEP_MARGIN, R85
  ⟨0x2260, 1, 0x04, 0x04, .u32, 4, 4, .rw, 0xf4240, some (1000, 100000000), false, false⟩,  -- FUTURE_TOL, R85
  ⟨0x2260, 1, 0x05, 0x05, .u32, 4, 4, .ro, 0, none, false, false⟩,  -- SUM_RATE, R85
  ⟨0x2270, 32, 0x01, 0x01, .u8, 1, 1, .rw, 4, some (1, 4), false, false⟩,  -- CSI_LANES, R85
  ⟨0x2270, 32, 0x02, 0x02, .u16, 2, 2, .rw, 0x9c4, some (80, 2500), false, false⟩,  -- CSI_RATE, R85
  ⟨0x2270, 32, 0x03, 0x03, .u32, 4, 4, .rc, 0, none, false, false⟩,  -- ECC_CORR, R85
  ⟨0x2270, 32, 0x04, 0x04, .u32, 4, 4, .rc, 0, none, false, false⟩,  -- ECC_BAD, R85
  ⟨0x2270, 32, 0x05, 0x05, .u32, 4, 4, .rc, 0, none, false, false⟩,  -- CRC_BAD, R85
  ⟨0x2290, 16, 0x01, 0x01, .u8, 1, 1, .rw, 3, some (0, 3), false, false⟩,  -- ETH_SPEED, R85
  ⟨0x2290, 16, 0x02, 0x02, .u32, 4, 4, .rw, 0, none, false, false⟩,  -- ETH_IP, R85
  ⟨0x2290, 16, 0x03, 0x03, .domain, 96, 96, .rw, 0, none, false, false⟩,  -- MC_FILTER, R85
  ⟨0x2290, 16, 0x04, 0x04, .u32, 4, 4, .rc, 0, none, false, false⟩,  -- RX_BAD, R85
  ⟨0x2290, 16, 0x05, 0x05, .u32, 4, 4, .rc, 0, none, false, false⟩,  -- RX_UNMATCHED, R85
  ⟨0x22A0, 4, 0x01, 0x01, .u32, 4, 4, .rw, 0x7a120, some (125000, 1000000), false, false⟩,  -- CAN_NBR, R85
  ⟨0x22A0, 4, 0x02, 0x02, .u32, 4, 4, .rw, 0x1e8480, some (1000000, 8000000), false, false⟩,  -- CAN_DBR, R85
  ⟨0x22A0, 4, 0x03, 0x03, .u32, 4, 4, .rc, 0, none, false, false⟩,  -- CAN_ERR, R85
  ⟨0x22A0, 4, 0x04, 0x04, .u32, 4, 4, .rc, 0, none, false, false⟩,  -- RX_UNMATCHED, R85
  ⟨0x22A4, 4, 0x01, 0x01, .u32, 4, 4, .rw, 0x989680, some (1000000, 50000000), false, false⟩,  -- SPI_HZ, R85
  ⟨0x22A4, 4, 0x02, 0x02, .u8, 1, 1, .rw, 0, some (0, 3), false, false⟩  -- SPI_MODE, R85
]

/-- Entries of indices 0x2200 to 0x22FF, part 3. -/
def entryRows22c : List EntryRow := [
  ⟨0x22A4, 4, 0x03, 0x03, .u8, 1, 1, .rw, 4, some (0, 255), false, false⟩,  -- DRDY_FILT, R85
  ⟨0x22A4, 4, 0x04, 0x04, .u32, 4, 4, .rc, 0, none, false, false⟩,  -- DRDY_OVR, R85
  ⟨0x22A8, 2, 0x01, 0x01, .u32, 4, 4, .rw, 0x1c200, some (4800, 921600), false, false⟩,  -- BAUD, R85
  ⟨0x22A8, 2, 0x02, 0x02, .u32, 4, 4, .rc, 0, none, false, false⟩  -- UART_ERR, R85
]

/-- Entries of indices 0x2400 to 0x24FF, part 1. -/
def entryRows24a : List EntryRow := [
  ⟨0x2400, 1, 0x01, 0x01, .u8, 1, 1, .ro, 6, some (0, 10), false, false⟩,  -- TS_LEN, R131
  ⟨0x2400, 1, 0x02, 0x02, .u8, 1, 1, .ro, 0, some (0, 2), false, false⟩,  -- VOX_SUB, R131
  ⟨0x2400, 1, 0x03, 0x03, .u16, 2, 2, .ro, 0xa, some (5, 40), false, false⟩,  -- VOX_Z, R131
  ⟨0x2400, 1, 0x04, 0x04, .i16, 2, 2, .ro, 0xfed4, some (-1000, 0), false, false⟩,  -- VOX_Z0, R131
  ⟨0x2400, 1, 0x05, 0x05, .u16, 2, 2, .ro, 0x40, some (1, 1024), false, false⟩,  -- VOX_NK, R131
  ⟨0x2400, 1, 0x06, 0x06, .u8, 1, 1, .ro, 8, some (1, 16), false, false⟩,  -- OCT_LEVELS, R131
  ⟨0x2400, 1, 0x07, 0x07, .u32, 4, 4, .ro, 0x1388, some (100, 100000), false, false⟩,  -- PR_GAP_MAX, R131
  ⟨0x2400, 1, 0x08, 0x08, .u32, 4, 4, .rw, 0x30d40, some (1000, 10000000), false, false⟩,  -- POSE_AGE_MAX, R131
  ⟨0x2400, 1, 0x09, 0x09, .u32, 4, 4, .rw, 0x4e20, some (100, 65535), false, false⟩,  -- CAP_RMAX, R131
  ⟨0x2400, 1, 0x0A, 0x0A, .u8, 1, 1, .const, 0x20, none, false, false⟩,  -- PROBE_MAX, R131
  ⟨0x2400, 1, 0x0B, 0x0B, .u32, 4, 4, .ro, 0, none, false, false⟩,  -- VOX_COUNT, R131
  ⟨0x2400, 1, 0x0C, 0x0C, .u64, 8, 8, .ro, 0, none, false, false⟩,  -- IN_PTS, R131
  ⟨0x2400, 1, 0x0D, 0x0D, .u32, 4, 4, .rc, 0, none, false, false⟩,  -- LATE_PTS, R131
  ⟨0x2400, 1, 0x0E, 0x0E, .u32, 4, 4, .rc, 0, none, false, false⟩,  -- LATE_DROP, R131
  ⟨0x2400, 1, 0x0F, 0x0F, .u32, 4, 4, .rc, 0, none, false, false⟩,  -- OUT_GRID, R131
  ⟨0x2400, 1, 0x10, 0x10, .u32, 4, 4, .rc, 0, none, false, false⟩,  -- CAP_DROP_ALL, R131
  ⟨0x2400, 1, 0x11, 0x11, .u32, 4, 4, .rc, 0, none, false, false⟩,  -- PROBE_DROP, R131
  ⟨0x2400, 1, 0x12, 0x12, .u32, 4, 4, .rc, 0, none, false, false⟩,  -- VOX_LOST, R131
  ⟨0x2400, 1, 0x13, 0x13, .u32, 4, 4, .ro, 0, none, false, false⟩,  -- BUILD_NS, R131
  ⟨0x2400, 1, 0x14, 0x14, .u32, 4, 4, .rc, 0, none, false, false⟩,  -- SET_BUSY, R131
  ⟨0x2400, 1, 0x15, 0x15, .u32, 4, 4, .ro, 0, none, false, false⟩,  -- PR_BASE, R131
  ⟨0x2400, 1, 0x16, 0x16, .u64, 8, 8, .ro, 0, none, false, false⟩,  -- PR_HEAD, R131
  ⟨0x2400, 1, 0x17, 0x17, .u32, 4, 4, .rc, 0, none, false, false⟩,  -- PR_REFUSED, R131
  ⟨0x2401, 1, 0x01, 0x60, .u32, 4, 4, .ro, 0, none, false, false⟩  -- SWEEP_T, R131
]

/-- Entries of indices 0x2400 to 0x24FF, part 2. -/
def entryRows24b : List EntryRow := [
  ⟨0x2410, 1, 0x01, 0x01, .u32, 4, 4, .ro, 0x400000, some (65536, 4194304), false, false⟩,  -- SITE_CAP, R244
  ⟨0x2410, 1, 0x02, 0x02, .u16, 2, 2, .const, 0x1000, none, false, false⟩,  -- HALO_MAX, R244
  ⟨0x2410, 1, 0x03, 0x03, .u8, 1, 1, .ro, 0, some (0, 64), false, false⟩,  -- RB_COUNT, R244
  ⟨0x2410, 1, 0x04, 0x04, .u64, 8, 8, .ro, 0, none, false, false⟩,  -- RB_AREA, R244
  ⟨0x2410, 1, 0x05, 0x05, .u64, 8, 8, .ro, 0, none, false, false⟩,  -- RB_AREA_BASE, R244
  ⟨0x2410, 1, 0x06, 0x06, .u32, 4, 4, .rc, 0, none, false, false⟩,  -- RB_FAIL, R244
  ⟨0x2410, 1, 0x07, 0x07, .u32, 4, 4, .rc, 0, none, false, false⟩,  -- DIL_DROP_ALL, R244
  ⟨0x2410, 1, 0x08, 0x08, .u32, 4, 4, .rc, 0, none, false, false⟩,  -- SPLIT_CNT, R244
  ⟨0x2440, 64, 0x01, 0x01, .u64, 8, 8, .ro, 0, none, false, false⟩,  -- RB_OFF, R244
  ⟨0x2440, 64, 0x02, 0x02, .u64, 8, 8, .ro, 0, none, false, false⟩,  -- RB_WC, R244
  ⟨0x2440, 64, 0x03, 0x03, .u32, 4, 4, .ro, 0, none, false, false⟩,  -- RB_TILES, R244
  ⟨0x2440, 64, 0x04, 0x04, .u32, 4, 4, .ro, 0, none, false, false⟩,  -- RB_NS, R244
  ⟨0x2440, 64, 0x05, 0x05, .u32, 4, 4, .ro, 0, none, false, false⟩  -- RB_FLAGS, R244
]

/-- Entries of indices 0x2500 to 0x25FF, part 1. -/
def entryRows25a : List EntryRow := [
  ⟨0x2500, 1, 0x01, 0x01, .u8, 1, 1, .ro, 0, none, false, false⟩,  -- SNT_STATE, R166
  ⟨0x2500, 1, 0x02, 0x02, .u8, 1, 1, .ro, 1, none, false, false⟩,  -- SLICE_LEN, R166
  ⟨0x2500, 1, 0x03, 0x03, .u32, 4, 4, .ro, 0xc8, some (4, 2000), false, false⟩,  -- ADM_LAG, R166
  ⟨0x2500, 1, 0x04, 0x04, .u16, 2, 2, .ro, 0, some (0, 63), false, false⟩,  -- OUT_QUEUE, R166
  ⟨0x2500, 1, 0x05, 0x05, .i16, 2, 2, .rw, 0xffe2, some (-500, 0), false, false⟩,  -- NEG_Z, R166
  ⟨0x2500, 1, 0x06, 0x06, .i16, 2, 2, .rw, 0xf, some (0, 100), false, false⟩,  -- GROUND_Z, R166
  ⟨0x2500, 1, 0x07, 0x07, .i16, 2, 2, .rw, 0x190, some (100, 1000), false, false⟩,  -- OBS_ZMAX, R166
  ⟨0x2500, 1, 0x08, 0x08, .u32, 4, 4, .rw, 0x493e0, some (1000, 1000000), false, false⟩,  -- OCC_HOLD, R166
  ⟨0x2500, 1, 0x09, 0x09, .u32, 4, 4, .rw, 0x30d40, some (1000, 1000000), false, false⟩,  -- OBS_WIN, R166
  ⟨0x2500, 1, 0x0A, 0x0A, .u8, 1, 1, .rw, 3, some (1, 7), false, false⟩,  -- CLEAR_N, R166
  ⟨0x2500, 1, 0x0B, 0x0B, .u32, 4, 4, .rw, 0x186a0, some (1000, 1000000), false, false⟩,  -- EVID_WIN, R166
  ⟨0x2500, 1, 0x0C, 0x0C, .u32, 4, 4, .rw, 0xc350, some (1000, 1000000), false, false⟩,  -- LATE_WIN, R166
  ⟨0x2500, 1, 0x0D, 0x0D, .u32, 4, 4, .rw, 0x3e8, some (1, 1000000), false, false⟩,  -- SUSPECT_N, R166
  ⟨0x2500, 1, 0x0E, 0x0E, .domain, 12, 12, .w1c, 0, none, false, false⟩,  -- SUSPECT_MASK, R166
  ⟨0x2500, 1, 0x0F, 0x0F, .u8, 1, 1, .rw, 0xff, none, false, false⟩,  -- ECHO_USE, R166
  ⟨0x2500, 1, 0x10, 0x10, .u32, 4, 4, .rw, 0x64, some (1, 10000), false, false⟩,  -- POSE_TOL_POS, R166
  ⟨0x2500, 1, 0x11, 0x11, .u32, 4, 4, .rw, 0x14, some (1, 1000), false, false⟩,  -- POSE_TOL_ATT, R166
  ⟨0x2500, 1, 0x12, 0x12, .u32, 4, 4, .rw, 0x1388, some (100, 100000), false, false⟩,  -- PR_STALE, R166
  ⟨0x2500, 1, 0x13, 0x13, .u32, 4, 4, .rw, 0x186a0, some (1000, 1000000), false, false⟩,  -- CMP_WIN, R166
  ⟨0x2500, 1, 0x14, 0x14, .u32, 4, 4, .rw, 0x3e8, some (1, 1000000), false, false⟩,  -- RETURN_N, R166
  ⟨0x2500, 1, 0x15, 0x15, .u32, 4, 4, .rw, 0x7d0, some (100, 100000), false, false⟩,  -- INT_TAU, R166
  ⟨0x2500, 1, 0x16, 0x16, .domain, 5, 5, .ro, 0, none, false, false⟩,  -- INT_SRC, R166
  ⟨0x2500, 1, 0x17, 0x17, .u8, 1, 1, .rw, 0xe, none, false, false⟩,  -- SAFE_MASK, R166
  ⟨0x2500, 1, 0x18, 0x18, .u32, 4, 4, .rw, 0x2710, some (0, 1000000), false, false⟩  -- SAFE_HOLD, R166
]

/-- Entries of indices 0x2500 to 0x25FF, part 2. -/
def entryRows25b : List EntryRow := [
  ⟨0x2500, 1, 0x19, 0x19, .u32, 4, 4, .rw, 0x2000, some (1024, 16384), false, false⟩,  -- SHED_LVL, R166
  ⟨0x2500, 1, 0x1A, 0x1A, .u32, 4, 4, .rc, 0, none, false, false⟩,  -- SHED_CNT, R166
  ⟨0x2500, 1, 0x1B, 0x1B, .u32, 4, 4, .rc, 0, none, false, false⟩,  -- CLR_DROP, R166
  ⟨0x2500, 1, 0x1C, 0x1C, .u32, 4, 4, .rc, 0, none, false, false⟩,  -- FALLBACK_CNT, R166
  ⟨0x2500, 1, 0x1D, 0x1D, .u32, 4, 4, .rc, 0, none, false, false⟩,  -- CONFLICT_CNT, R166
  ⟨0x2500, 1, 0x1E, 0x1E, .u64, 8, 8, .ro, 0, none, false, false⟩,  -- SEQ_NEXT, R166
  ⟨0x2500, 1, 0x1F, 0x1F, .bool, 1, 1, .cw, 0, some (0, 1), false, false⟩,  -- SNT_RESTART, R166
  ⟨0x2510, 1, 0x01, 0x01, .domain, 32, 544, .wo, 0, none, false, false⟩,  -- COR_DATA, R166
  ⟨0x2510, 1, 0x02, 0x02, .bool, 1, 1, .wo, 0, some (0, 1), false, false⟩,  -- COR_COMMIT, R166
  ⟨0x2510, 1, 0x03, 0x03, .u64, 8, 8, .ro, 0, none, false, false⟩,  -- COR_SEQ_CUR, R166
  ⟨0x2510, 1, 0x04, 0x04, .u32, 4, 4, .rw, 0x30d40, some (10000, 5000000), false, false⟩,  -- COR_TMO, R166
  ⟨0x2520, 1, 0x01, 0x01, .u8, 1, 1, .rw, 0, some (0, 3), false, false⟩,  -- HZ_PORT, R166
  ⟨0x2520, 1, 0x02, 0x02, .u16, 2, 2, .rw, 0x10, some (0, 2047), false, false⟩,  -- HZ_ID, R166
  ⟨0x2520, 1, 0x03, 0x03, .u32, 4, 4, .rw, 0x3e8, some (250, 100000), false, false⟩,  -- HZ_PERIOD, R166
  ⟨0x2520, 1, 0x04, 0x04, .u32, 4, 4, .rw, 0, some (0, 99999), false, false⟩,  -- HZ_PHASE, R166
  ⟨0x2520, 1, 0x05, 0x05, .u16, 2, 2, .rw, 0, none, false, false⟩,  -- HZ_DATA_ID, R166
  ⟨0x2520, 1, 0x06, 0x06, .u32, 4, 4, .rc, 0, none, false, false⟩,  -- HZ_SLIP, R166
  ⟨0x2520, 1, 0x07, 0x07, .u32, 4, 4, .rc, 0, none, false, false⟩,  -- HZ_LOST, R166
  ⟨0x2530, 1, 0x01, 0x01, .u16, 2, 2, .ro, 0x100, some (0, 1024), false, false⟩,  -- XCH_MAX, R166
  ⟨0x2530, 1, 0x02, 0x02, .u32, 4, 4, .rw, 0x14, some (4, 1000), false, false⟩,  -- PEER_TMO, R166
  ⟨0x2530, 1, 0x03, 0x03, .u8, 1, 1, .ro, 0, none, false, false⟩,  -- PEER_MASK, R166
  ⟨0x2530, 1, 0x04, 0x04, .u32, 4, 4, .rc, 0, none, false, false⟩,  -- XCH_LATE, R166
  ⟨0x2540, 1, 0x01, 0x60, .u8, 1, 1, .ro, 0, none, false, false⟩  -- MASK_BIT, R166
]

/-- Entries of indices 0x2600 to 0x26FF, part 1. -/
def entryRows26a : List EntryRow := [
  ⟨0x2600, 1, 0x01, 0x01, .u8, 1, 1, .rw, 0, some (0, 1), false, false⟩,  -- SR_MODE, R196
  ⟨0x2600, 1, 0x02, 0x02, .u64, 8, 8, .rw, 0, none, false, false⟩,  -- SR_SEED, R196
  ⟨0x2600, 1, 0x03, 0x03, .u32, 4, 4, .rc, 0, none, false, false⟩,  -- TRAP_CNT, R196
  ⟨0x2600, 1, 0x04, 0x04, .u32, 4, 4, .rc, 0, none, false, false⟩,  -- ISAT_CNT, R196
  ⟨0x2680, 128, 0x01, 0x01, .u8, 1, 1, .ro, 0, none, false, false⟩,  -- SPUR_STATE, R196
  ⟨0x2680, 128, 0x02, 0x02, .u8, 1, 1, .ro, 0, none, false, false⟩,  -- TRAP_CODE, R196
  ⟨0x2680, 128, 0x03, 0x03, .u16, 2, 2, .ro, 0, none, false, false⟩,  -- TRAP_PC, R196
  ⟨0x2680, 128, 0x04, 0x04, .u64, 8, 8, .ro, 0, none, false, false⟩,  -- TRAP_WORD, R196
  ⟨0x2680, 128, 0x05, 0x05, .u64, 8, 8, .ro, 0, none, false, false⟩  -- TASKS, R196
]

/-- Entries of indices 0x2700 to 0x27FF, part 1. -/
def entryRows27a : List EntryRow := [
  ⟨0x2700, 1, 0x01, 0x01, .u8, 1, 1, .ro, 0, none, false, false⟩,  -- AG_STATE, R280
  ⟨0x2700, 1, 0x02, 0x02, .u8, 1, 1, .ro, 0, none, false, false⟩,  -- ALM_ACTIVE, R280
  ⟨0x2700, 1, 0x03, 0x03, .u32, 4, 4, .ro, 0, none, false, false⟩,  -- ALM_GEN, R280
  ⟨0x2700, 1, 0x04, 0x04, .domain, 36, 36, .cw, 0, none, false, false⟩,  -- ALM_SWITCH, R280
  ⟨0x2700, 1, 0x05, 0x05, .u8, 1, 1, .ro, 0, none, false, false⟩,  -- ALM_PEND, R280
  ⟨0x2700, 1, 0x06, 0x06, .u64, 8, 8, .ro, 0, none, false, false⟩,  -- ALM_SW_EPOCH, R280
  ⟨0x2700, 1, 0x07, 0x07, .u8, 1, 1, .ro, 0, none, false, false⟩,  -- ALM_ERR, R280
  ⟨0x2700, 1, 0x08, 0x08, .bool, 1, 1, .wo, 0, some (0, 1), false, true⟩,  -- ALM_CLONE, R280
  ⟨0x2700, 1, 0x09, 0x09, .u16, 2, 2, .ro, 0, none, false, false⟩,  -- DR_QUEUE, R280
  ⟨0x2700, 1, 0x0A, 0x0A, .u8, 1, 1, .ro, 0, none, false, false⟩,  -- DR_EMITTER, R280
  ⟨0x2700, 1, 0x0B, 0x0B, .u64, 8, 8, .ro, 0, none, false, false⟩,  -- DR_SEQ_NEXT, R280
  ⟨0x2700, 1, 0x0C, 0x0C, .real32, 4, 4, .rw, 0x3f000000, none, false, false⟩,  -- DIS_THR, R280
  ⟨0x2700, 1, 0x0D, 0x0D, .u32, 4, 4, .rc, 0, none, false, false⟩,  -- FRAME_SUP, R280
  ⟨0x2700, 1, 0x0E, 0x0E, .u32, 4, 4, .rc, 0, none, false, false⟩,  -- CAM_EXPIRED, R280
  ⟨0x2700, 1, 0x0F, 0x0F, .u32, 4, 4, .rc, 0, none, false, false⟩,  -- MEM_RESETS, R280
  ⟨0x2700, 1, 0x10, 0x10, .u64, 8, 8, .ro, 0, none, false, false⟩,  -- AG_WORK, R280
  ⟨0x2700, 1, 0x11, 0x11, .u32, 4, 4, .rc, 0, none, false, false⟩,  -- OP_FAIL, R280
  ⟨0x2700, 1, 0x12, 0x12, .domain, 128, 128, .ro, 0, none, false, false⟩,  -- MEM_HDR0, R280
  ⟨0x2700, 1, 0x13, 0x13, .domain, 128, 128, .ro, 0, none, false, false⟩  -- MEM_HDR1, R280
]

/-- Entries of indices 0x2800 to 0x28FF, part 1. -/
def entryRows28a : List EntryRow := [
  ⟨0x2800, 1, 0x01, 0x01, .u64, 8, 8, .rw, 0, none, false, false⟩,  -- IMG_ADDR, R313
  ⟨0x2800, 1, 0x02, 0x02, .bool, 1, 1, .wo, 0, some (0, 1), false, true⟩,  -- IMG_LOAD, R313
  ⟨0x2800, 1, 0x03, 0x03, .u8, 1, 1, .ro, 0, none, false, false⟩,  -- IMG_STATUS, R313
  ⟨0x2800, 1, 0x04, 0x04, .u16, 2, 2, .ro, 0, none, false, false⟩,  -- IMG_ERR, R313
  ⟨0x2800, 1, 0x05, 0x05, .u16, 2, 2, .ro, 0, none, false, false⟩,  -- IMG_ERR_SEC, R313
  ⟨0x2800, 1, 0x06, 0x06, .u32, 4, 4, .ro, 0, none, false, false⟩,  -- IMG_ERR_ITEM, R313
  ⟨0x2800, 1, 0x07, 0x07, .u64, 8, 8, .ro, 0, none, false, false⟩,  -- IMAGE_ID, R313
  ⟨0x2800, 1, 0x08, 0x08, .domain, 32, 32, .const, 0, none, false, false⟩,  -- CAP_DEV, R313
  ⟨0x2800, 1, 0x09, 0x09, .u32, 4, 4, .const, 0x10000, none, false, false⟩,  -- AM_VER_DEV, R313
  ⟨0x2800, 1, 0x0A, 0x0A, .u32, 4, 4, .ro, 0, none, false, false⟩,  -- EPOCH_P, R313
  ⟨0x2800, 1, 0x0B, 0x0B, .domain, 16, 16, .ro, 0, none, false, false⟩,  -- EPOCH_ORIGIN, R313
  ⟨0x2800, 1, 0x0C, 0x0C, .u64, 8, 8, .ro, 0, none, false, false⟩,  -- EPOCH_CUR, R313
  ⟨0x2800, 1, 0x0D, 0x0D, .u32, 4, 4, .rw, 0, none, false, false⟩,  -- SB_SEL, R313
  ⟨0x2800, 1, 0x0E, 0x0E, .domain, 16, 16, .ro, 0, none, false, false⟩,  -- SB_VIEW, R313
  ⟨0x2800, 1, 0x0F, 0x0F, .u32, 4, 4, .rc, 0, none, false, false⟩,  -- SLOT_VIOL, R313
  ⟨0x2800, 1, 0x10, 0x10, .u32, 4, 4, .rc, 0, none, false, false⟩,  -- ABORT_CNT, R313
  ⟨0x2800, 1, 0x11, 0x11, .u32, 4, 4, .rc, 0, none, false, false⟩,  -- FB_COUNT, R313
  ⟨0x2800, 1, 0x12, 0x12, .u32, 4, 4, .rc, 0, none, false, false⟩,  -- FAIL_CNT, R313
  ⟨0x2800, 1, 0x13, 0x13, .u64, 8, 8, .ro, 0, none, false, false⟩  -- TASKS_DONE, R313
]

/-- Entries of indices 0x2900 to 0x29FF, part 1. -/
def entryRows29a : List EntryRow := [
  ⟨0x2900, 1, 0x01, 0x01, .u8, 1, 1, .ro, 0, none, false, false⟩,  -- PR_WRITER, R342
  ⟨0x2900, 1, 0x02, 0x02, .u8, 1, 1, .ro, 0, none, false, false⟩,  -- PROP_SLOT, R342
  ⟨0x2900, 1, 0x03, 0x03, .u32, 4, 4, .rw, 0x3e8, some (100, 5000), false, false⟩,  -- PROP_DT, R342
  ⟨0x2900, 1, 0x04, 0x04, .domain, 24, 24, .rw, 0, none, false, false⟩,  -- GNSS_ORIGIN, R342
  ⟨0x2900, 1, 0x05, 0x05, .u32, 4, 4, .rw, 5, some (1, 1000), false, false⟩,  -- CAL_SIG_POS, R342
  ⟨0x2900, 1, 0x06, 0x06, .u32, 4, 4, .rw, 0x1f4, some (10, 100000), false, false⟩,  -- CAL_SIG_ATT, R342
  ⟨0x2900, 1, 0x07, 0x07, .u32, 4, 4, .rw, 0xc8, some (10, 1000000), false, false⟩,  -- CAL_SIG_T, R342
  ⟨0x2900, 1, 0x08, 0x08, .real32, 4, 4, .rw, 0x3c23d70a, none, false, false⟩,  -- PROP_QP, R342
  ⟨0x2900, 1, 0x09, 0x09, .real32, 4, 4, .rw, 0x38d1b717, none, false, false⟩,  -- PROP_QA, R342
  ⟨0x2900, 1, 0x0A, 0x0A, .u32, 4, 4, .rc, 0, none, false, false⟩,  -- WARM_REJ, R342
  ⟨0x2900, 1, 0x0B, 0x0B, .u32, 4, 4, .rc, 0, none, false, false⟩,  -- CLAMP_CNT, R342
  ⟨0x2900, 1, 0x0C, 0x0C, .u32, 4, 4, .rc, 0, none, false, false⟩,  -- OVF_CNT, R342
  ⟨0x2900, 1, 0x0D, 0x0D, .u32, 4, 4, .rc, 0, none, false, false⟩,  -- DL_CNT, R342
  ⟨0x2900, 1, 0x0E, 0x0E, .u32, 4, 4, .rc, 0, none, false, false⟩,  -- MEAS_OVR, R342
  ⟨0x2900, 1, 0x0F, 0x0F, .u32, 4, 4, .rc, 0, none, false, false⟩,  -- PROPOSALS, R342
  ⟨0x2900, 1, 0x10, 0x10, .u64, 8, 8, .ro, 0, none, false, false⟩,  -- PR_WRITES, R342
  ⟨0x2901, 1, 0x01, 0x60, .domain, 128, 128, .ro, 0, none, false, false⟩,  -- CAL_PROP, R342
  ⟨0x2910, 2, 0x01, 0x01, .u8, 1, 1, .ro, 0, none, false, false⟩,  -- TH_STATE, R342
  ⟨0x2910, 2, 0x02, 0x02, .u8, 1, 1, .ro, 0, none, false, false⟩,  -- TH_PROG, R342
  ⟨0x2910, 2, 0x03, 0x03, .u64, 8, 8, .ro, 0, none, false, false⟩,  -- TH_PROBLEMS, R342
  ⟨0x2910, 2, 0x04, 0x04, .u32, 4, 4, .rc, 0, none, false, false⟩  -- TH_PARITY, R342
]

/-- Entries of indices 0x2A00 to 0x2AFF, part 1. -/
def entryRows2Aa : List EntryRow := [
  ⟨0x2A00, 1, 0x01, 0x01, .u16, 2, 2, .ro, 0, none, false, false⟩,  -- WAITERS_USED, R376
  ⟨0x2A00, 1, 0x02, 0x02, .u16, 2, 2, .rc, 0, none, false, false⟩,  -- WAITERS_PEAK, R376
  ⟨0x2A00, 1, 0x03, 0x03, .u32, 4, 4, .rc, 0, none, false, false⟩,  -- TMO_CNT, R376
  ⟨0x2A00, 1, 0x04, 0x04, .u32, 4, 4, .rc, 0, none, false, false⟩,  -- POISON_CNT, R376
  ⟨0x2A00, 1, 0x05, 0x05, .u32, 4, 4, .rc, 0, none, false, false⟩,  -- SIG_REFUSED, R376
  ⟨0x2A00, 1, 0x06, 0x06, .u32, 4, 4, .rc, 0, none, false, false⟩,  -- NOWAIT_CNT, R376
  ⟨0x2A00, 1, 0x07, 0x07, .bool, 1, 1, .rw, 0, some (0, 1), false, false⟩,  -- BAL_EN, R376
  ⟨0x2A00, 1, 0x08, 0x08, .u32, 4, 4, .rc, 0, none, false, false⟩,  -- BAL_FAIL, R376
  ⟨0x2A00, 1, 0x09, 0x09, .domain, 16, 16, .ro, 0, none, false, false⟩,  -- BAL_LIST, R376
  ⟨0x2A00, 1, 0x0A, 0x0A, .u16, 2, 2, .rw, 0, some (0, 16383), false, false⟩,  -- CV_SEL, R376
  ⟨0x2A00, 1, 0x0B, 0x0B, .domain, 64, 64, .ro, 0, none, false, false⟩,  -- CV_VIEW, R376
  ⟨0x2A00, 1, 0x0C, 0x0C, .u16, 2, 2, .rw, 0, some (0, 8191), false, false⟩,  -- WV_SEL, R376
  ⟨0x2A00, 1, 0x0D, 0x0D, .domain, 16, 16, .ro, 0, none, false, false⟩,  -- WV_VIEW, R376
  ⟨0x2A00, 1, 0x0E, 0x0E, .u16, 2, 2, .wo, 0, some (0, 16383), false, false⟩,  -- CLAIM, R376
  ⟨0x2A00, 1, 0x0F, 0x0F, .u16, 2, 2, .wo, 0, some (0, 16383), false, false⟩,  -- UNCLAIM, R376
  ⟨0x2A00, 1, 0x10, 0x10, .domain, 4, 4, .ro, 0, none, false, false⟩,  -- LAST_TMO, R376
  ⟨0x2A00, 1, 0x11, 0x11, .u32, 4, 4, .rc, 0, none, false, false⟩,  -- BAD_WRITE, R376
  ⟨0x2A04, 4, 0x01, 0x01, .domain, 12, 12, .wo, 0, none, false, false⟩,  -- HW_REQ, R376
  ⟨0x2A04, 4, 0x02, 0x02, .u8, 1, 1, .ro, 0, none, false, false⟩,  -- HW_STAT, R376
  ⟨0x2A04, 4, 0x03, 0x03, .bool, 1, 1, .wo, 0, some (0, 1), false, false⟩,  -- HW_CANCEL, R376
  ⟨0x2A10, 32, 0x01, 0x10, .u32, 4, 4, .ro, 0x3e8, none, false, false⟩  -- TMO_REG, R376
]

/-- Entries of indices 0x2B00 to 0x2BFF, part 1. -/
def entryRows2Ba : List EntryRow := [
  ⟨0x2B00, 256, 0x01, 0x01, .u32, 4, 4, .ro, 0, some (0, 524287), false, false⟩,  -- Q_BASE, R394
  ⟨0x2B00, 256, 0x02, 0x02, .u8, 1, 1, .ro, 0, none, false, false⟩,  -- Q_LOG2, R394
  ⟨0x2B00, 256, 0x03, 0x03, .u8, 1, 1, .ro, 0, none, false, false⟩,  -- Q_MODE, R394
  ⟨0x2B00, 256, 0x04, 0x04, .u16, 2, 2, .ro, 0, none, false, false⟩,  -- Q_PROD, R394
  ⟨0x2B00, 256, 0x05, 0x05, .u16, 2, 2, .ro, 0, none, false, false⟩,  -- Q_CONS, R394
  ⟨0x2B00, 256, 0x06, 0x06, .u16, 2, 2, .ro, 0, none, false, false⟩,  -- Q_CAIRN, R394
  ⟨0x2B00, 256, 0x07, 0x07, .u32, 4, 4, .ro, 0, none, false, false⟩,  -- Q_COUNT, R394
  ⟨0x2B00, 256, 0x08, 0x08, .u32, 4, 4, .ro, 0, none, false, false⟩,  -- Q_HELD, R394
  ⟨0x2B00, 256, 0x09, 0x09, .u32, 4, 4, .rc, 0, none, false, false⟩,  -- Q_PEAK, R394
  ⟨0x2B00, 256, 0x0A, 0x0A, .u16, 2, 2, .w1c, 0, none, false, false⟩,  -- Q_STAT, R394
  ⟨0x2B00, 256, 0x0B, 0x0B, .bool, 1, 1, .wo, 0, some (0, 1), false, false⟩,  -- Q_COMMIT, R394
  ⟨0x2B00, 256, 0x0C, 0x0C, .bool, 1, 1, .wo, 0, some (0, 1), false, false⟩,  -- Q_ABORT, R394
  ⟨0x2B00, 256, 0x0D, 0x0D, .bool, 1, 1, .wo, 0, some (0, 1), false, false⟩,  -- Q_MARK, R394
  ⟨0x2B00, 256, 0x0E, 0x0E, .bool, 1, 1, .wo, 0, some (0, 1), false, false⟩,  -- Q_REWIND, R394
  ⟨0x2B00, 256, 0x0F, 0x0F, .bool, 1, 1, .wo, 0, some (0, 1), false, false⟩,  -- Q_RELEASE, R394
  ⟨0x2B00, 256, 0x10, 0x10, .bool, 1, 1, .cw, 0, some (0, 1), false, false⟩,  -- Q_FLUSH, R394
  ⟨0x2B00, 256, 0x11, 0x11, .domain, 24, 24, .ro, 0, none, false, false⟩,  -- Q_PTRS, R394
  ⟨0x2B00, 256, 0x12, 0x12, .u32, 4, 4, .rc, 0, none, false, false⟩,  -- OVR_CNT, R394
  ⟨0x2B00, 256, 0x13, 0x13, .u32, 4, 4, .rc, 0, none, false, false⟩,  -- PKT_DROP, R394
  ⟨0x2B00, 256, 0x14, 0x14, .u32, 4, 4, .rc, 0, none, false, false⟩,  -- FOREIGN, R394
  ⟨0x2B00, 256, 0x15, 0x15, .u32, 4, 4, .ro, 0, none, false, false⟩,  -- Q_FREE, R394
  ⟨0x2B00, 256, 0x20, 0x3F, .domain, 256, 256, .wo, 0, none, true, false⟩,  -- Q_PUSH, R394
  ⟨0x2B00, 256, 0x40, 0x5F, .domain, 256, 256, .ro, 0, none, true, false⟩,  -- Q_POP, R394
  ⟨0x2B00, 1, 0x80, 0x80, .u32, 4, 4, .rc, 0, none, false, false⟩  -- QM_RESETS, R394
]

/-- Entries of indices 0x2B00 to 0x2BFF, part 2. -/
def entryRows2Bb : List EntryRow := [
  ⟨0x2B00, 1, 0x81, 0x81, .u32, 4, 4, .rc, 0, none, false, false⟩,  -- QM_PARITY, R394
  ⟨0x2B00, 1, 0x82, 0x82, .u32, 4, 4, .ro, 0, none, false, false⟩  -- QM_USED, R394
]

/-- Entries of indices 0x2C00 to 0x2CFF, part 1. -/
def entryRows2Ca : List EntryRow := [
  ⟨0x2C30, 1, 0x01, 0x01, .domain, 24, 24, .wo, 0, none, false, true⟩,  -- ALLOC_NEW, R220
  ⟨0x2C30, 1, 0x02, 0x02, .u16, 2, 2, .wo, 0, some (1, 4095), false, true⟩,  -- ALLOC_FREE, R220
  ⟨0x2C30, 1, 0x03, 0x03, .u16, 2, 2, .ro, 0, none, false, false⟩,  -- ALLOC_USED, R220
  ⟨0x2C40, 1, 0x01, 0x01, .domain, 64, 64, .wo, 0, none, false, true⟩,  -- DESC_NEW, R220
  ⟨0x2C40, 1, 0x02, 0x02, .u32, 4, 4, .wo, 0, none, false, true⟩,  -- DESC_FREE, R220
  ⟨0x2C40, 1, 0x03, 0x03, .u16, 2, 2, .ro, 0, none, false, false⟩,  -- DESC_USED, R220
  ⟨0x2C40, 1, 0x04, 0x04, .u32, 4, 4, .rc, 0, none, false, false⟩,  -- DESC_REJ, R220
  ⟨0x2C40, 1, 0x05, 0x05, .u64, 8, 8, .ro, 0, none, false, false⟩,  -- DT_BASE, R220
  ⟨0x2C50, 1, 0x01, 0x01, .domain, 16, 16, .wo, 0, none, false, true⟩,  -- COPY_NEW, R220
  ⟨0x2C50, 1, 0x02, 0x02, .u16, 2, 2, .wo, 0, some (1, 1023), false, true⟩,  -- COPY_FREE, R220
  ⟨0x2C50, 1, 0x03, 0x03, .u16, 2, 2, .ro, 0, none, false, false⟩,  -- COPY_USED, R220
  ⟨0x2C58, 4, 0x01, 0x01, .u32, 4, 4, .ro, 0, none, false, false⟩,  -- R_RESULT, R220
  ⟨0x2C58, 4, 0x02, 0x02, .u8, 1, 1, .ro, 0, none, false, false⟩,  -- R_ERR, R220
  ⟨0x2C58, 4, 0x03, 0x03, .u32, 4, 4, .rw, 0, none, false, false⟩,  -- R_SEL, R220
  ⟨0x2C58, 4, 0x04, 0x04, .domain, 64, 64, .ro, 0, none, false, false⟩,  -- R_VIEW, R220
  ⟨0x2C00, 1, 0x01, 0x01, .u16, 2, 2, .ro, 0, none, false, false⟩,  -- MEM_INIT, R423
  ⟨0x2C00, 1, 0x02, 0x02, .bool, 1, 1, .rw, 0, some (0, 1), false, false⟩,  -- CE_LOG, R423
  ⟨0x2C00, 1, 0x03, 0x03, .domain, 32, 32, .rc, 0, none, false, false⟩,  -- ERR_POP, R423
  ⟨0x2C00, 1, 0x04, 0x04, .u8, 1, 1, .ro, 0, some (0, 64), false, false⟩,  -- ERR_COUNT, R423
  ⟨0x2C00, 1, 0x05, 0x05, .u32, 4, 4, .rc, 0, none, false, false⟩,  -- LOG_LOST, R423
  ⟨0x2C00, 1, 0x06, 0x06, .u8, 1, 1, .ro, 0, none, false, false⟩,  -- WT_STATE, R423
  ⟨0x2C00, 1, 0x07, 0x07, .u16, 2, 2, .wo, 0, some (1, 4095), false, true⟩,  -- WT_CLEAR, R423
  ⟨0x2C00, 1, 0x08, 0x08, .domain, 8, 8, .ro, 0, none, false, false⟩,  -- WT_VERIFY, R423
  ⟨0x2C00, 1, 0x09, 0x09, .domain, 32, 32, .ro, 0, none, false, false⟩  -- WT_POISON, R423
]

/-- Entries of indices 0x2C00 to 0x2CFF, part 2. -/
def entryRows2Cb : List EntryRow := [
  ⟨0x2C00, 1, 0x0A, 0x0A, .u16, 2, 2, .rw, 0x10, some (1, 65535), false, false⟩,  -- CE_ROW_THR, R423
  ⟨0x2C00, 1, 0x0B, 0x0B, .domain, 128, 128, .ro, 0, none, false, false⟩,  -- REP_CAND, R423
  ⟨0x2C00, 1, 0x0C, 0x0C, .domain, 16, 16, .wo, 0, none, false, false⟩,  -- SCRUB_REQ, R423
  ⟨0x2C00, 1, 0x0D, 0x0D, .domain, 32, 32, .rc, 0, none, false, false⟩,  -- SCRUB_SUM, R423
  ⟨0x2C00, 1, 0x0E, 0x0E, .u8, 1, 1, .ro, 0, some (0, 4), false, false⟩,  -- SCRUB_QLEN, R423
  ⟨0x2C01, 3, 0x01, 0x01, .u32, 4, 4, .ro, 0, none, false, false⟩,  -- SCRUB_POS, R423
  ⟨0x2C01, 3, 0x02, 0x02, .u32, 4, 4, .ro, 0, none, false, false⟩,  -- SCRUB_PASSES, R423
  ⟨0x2C01, 3, 0x03, 0x03, .u64, 8, 8, .ro, 0, none, false, false⟩,  -- SCRUB_LAST_NS, R423
  ⟨0x2C01, 2, 0x04, 0x04, .u16, 2, 2, .const, 0, none, false, false⟩,  -- FUSE_ROWS, R423
  ⟨0x2C01, 2, 0x05, 0x05, .u16, 2, 2, .const, 0, none, false, false⟩,  -- FUSE_COLS, R423
  ⟨0x2C01, 2, 0x06, 0x06, .u8, 1, 1, .ro, 0, some (0, 64), false, false⟩,  -- SOFT_REP, R423
  ⟨0x2C01, 2, 0x07, 0x07, .u8, 1, 1, .ro, 0, none, false, false⟩,  -- SOFT_REJ, R423
  ⟨0x2C10, 12, 0x01, 0x01, .domain, 18, 18, .cw, 0, none, false, false⟩,  -- FLIP_MASK, R423
  ⟨0x2C10, 12, 0x02, 0x02, .u64, 8, 8, .cw, 0, none, false, false⟩,  -- FLIP_ADDR, R423
  ⟨0x2C10, 12, 0x03, 0x03, .bool, 1, 1, .ro, 0, some (0, 1), false, false⟩,  -- FLIP_ARMED, R423
  ⟨0x2C10, 12, 0x04, 0x04, .u32, 4, 4, .rc, 0, none, false, false⟩,  -- CE_CNT, R423
  ⟨0x2C10, 12, 0x05, 0x05, .u32, 4, 4, .rc, 0, none, false, false⟩,  -- UE_CNT, R423
  ⟨0x2C10, 12, 0x06, 0x06, .u32, 4, 4, .rc, 0, none, false, false⟩  -- AMM_CNT, R423
]

/-- Entries of indices 0x2D00 to 0x2DFF, part 1. -/
def entryRows2Da : List EntryRow := [
  ⟨0x2D00, 1, 0x01, 0x01, .u8, 1, 1, .ro, 0, none, false, false⟩,  -- PCIE_STATE, R457
  ⟨0x2D00, 1, 0x02, 0x02, .u8, 1, 1, .ro, 0, some (1, 4), false, false⟩,  -- PCIE_SPEED, R457
  ⟨0x2D00, 1, 0x03, 0x03, .u8, 1, 1, .ro, 0, none, false, false⟩,  -- PCIE_WIDTH, R457
  ⟨0x2D00, 1, 0x04, 0x04, .domain, 8, 8, .const, 0, none, false, false⟩,  -- PCIE_IDS, R457
  ⟨0x2D00, 1, 0x05, 0x05, .bool, 1, 1, .wo, 0, some (0, 1), false, false⟩,  -- HOST_HB, R457
  ⟨0x2D00, 1, 0x06, 0x06, .u32, 4, 4, .rw, 0x186a0, some (1000, 10000000), false, false⟩,  -- HOST_TMO, R457
  ⟨0x2D00, 1, 0x07, 0x07, .bool, 1, 1, .ro, 0, some (0, 1), false, false⟩,  -- HOST_LIVE, R457
  ⟨0x2D00, 1, 0x08, 0x08, .u32, 4, 4, .rc, 0, none, false, false⟩,  -- AER_CE, R457
  ⟨0x2D00, 1, 0x09, 0x09, .u32, 4, 4, .rc, 0, none, false, false⟩,  -- AER_UE, R457
  ⟨0x2D00, 1, 0x0A, 0x0A, .u32, 4, 4, .rc, 0, none, false, false⟩,  -- PCIE_STALL, R457
  ⟨0x2D00, 1, 0x0B, 0x0B, .u32, 4, 4, .rc, 0, none, false, false⟩,  -- PCIE_RESETS, R457
  ⟨0x2D20, 1, 0x01, 0x01, .u64, 8, 8, .rw, 0, none, false, false⟩,  -- DP_ADDR, R457
  ⟨0x2D20, 1, 0x02, 0x02, .u32, 4, 4, .rw, 0, none, false, false⟩,  -- DP_CTRL, R457
  ⟨0x2D20, 1, 0x03, 0x03, .u8, 1, 1, .rc, 0, none, false, false⟩,  -- DP_ERR, R457
  ⟨0x2D20, 1, 0x04, 0x04, .u64, 8, 8, .ro, 0, none, false, false⟩,  -- DP_ERR_ADDR, R457
  ⟨0x2D20, 1, 0x08, 0x08, .u64, 8, 8, .ro, 0, none, false, false⟩,  -- DP_FENCE, R457
  ⟨0x2D40, 64, 0x01, 0x01, .u8, 1, 1, .ro, 0, some (0, 2), false, false⟩,  -- DMA_MODE, R457
  ⟨0x2D40, 64, 0x02, 0x02, .u8, 1, 1, .ro, 0, none, false, false⟩,  -- DMA_STATE, R457
  ⟨0x2D40, 64, 0x03, 0x03, .u8, 1, 1, .ro, 0, none, false, false⟩,  -- DMA_ERR, R457
  ⟨0x2D40, 64, 0x04, 0x04, .u64, 8, 8, .ro, 0, none, false, false⟩,  -- DMA_FAULT, R457
  ⟨0x2D40, 64, 0x05, 0x05, .u16, 2, 2, .rw, 0, some (1, 4095), false, false⟩,  -- DMA_RING_ALLOC, R457
  ⟨0x2D40, 64, 0x06, 0x06, .u8, 1, 1, .rw, 4, some (4, 16), false, false⟩,  -- DMA_RING_LOG2, R457
  ⟨0x2D40, 64, 0x07, 0x07, .u32, 4, 4, .ro, 0, none, false, false⟩,  -- DMA_HEAD, R457
  ⟨0x2D40, 64, 0x08, 0x08, .u32, 4, 4, .rw, 0, none, false, false⟩  -- DMA_TAIL, R457
]

/-- Entries of indices 0x2D00 to 0x2DFF, part 2. -/
def entryRows2Db : List EntryRow := [
  ⟨0x2D40, 64, 0x09, 0x09, .bool, 1, 1, .wo, 0, some (0, 1), false, false⟩,  -- DMA_RESET, R457
  ⟨0x2D40, 64, 0x0A, 0x0A, .u64, 8, 8, .ro, 0, none, false, false⟩,  -- DMA_BYTES, R457
  ⟨0x2D90, 6, 0x01, 0x01, .u8, 1, 1, .ro, 0, none, false, false⟩,  -- LINK_STATE, R457
  ⟨0x2D90, 6, 0x02, 0x02, .u8, 1, 1, .ro, 0xff, none, false, false⟩,  -- LINK_PEER, R457
  ⟨0x2D90, 6, 0x03, 0x03, .u32, 4, 4, .rc, 0, none, false, false⟩,  -- COL_CRC, R457
  ⟨0x2D90, 6, 0x04, 0x04, .u32, 4, 4, .rc, 0, none, false, false⟩,  -- COL_DOWNS, R457
  ⟨0x2DA0, 1, 0x01, 0x01, .u8, 1, 1, .cw, 0, some (0, 7), false, false⟩,  -- RANGE_ID, R457
  ⟨0x2DA0, 1, 0x02, 0x02, .u8, 1, 1, .ro, 1, some (1, 8), false, false⟩,  -- RANGE_N, R457
  ⟨0x2DA0, 1, 0x03, 0x03, .u8, 1, 1, .ro, 0xff, some (0, 7), false, false⟩,  -- ANCHOR, R457
  ⟨0x2DA0, 1, 0x04, 0x04, .u8, 1, 1, .cw, 0, none, false, false⟩,  -- PEER_ADMIT, R457
  ⟨0x2DA0, 1, 0x05, 0x05, .domain, 16, 16, .cw, 0, none, false, false⟩,  -- MAP_SEL, R457
  ⟨0x2DA0, 1, 0x06, 0x06, .u8, 1, 1, .ro, 0, none, false, false⟩,  -- MAP_CUR, R457
  ⟨0x2DA0, 1, 0x07, 0x07, .u32, 4, 4, .rc, 0, none, false, false⟩,  -- XCH_FOREIGN, R457
  ⟨0x2DA0, 1, 0x08, 0x08, .u32, 4, 4, .rc, 0, none, false, false⟩,  -- MAP_MISMATCH, R457
  ⟨0x2DA0, 1, 0x09, 0x09, .u32, 4, 4, .rc, 0, none, false, false⟩  -- REMOTE_FAIL, R457
]

/-- Entries of indices 0x2E00 to 0x2EFF, part 1. -/
def entryRows2Ea : List EntryRow := [
  ⟨0x2E10, 1, 0x01, 0x04, .domain, 32, 32, .wo, 0, none, true, true⟩,  -- CMT_REC, R485
  ⟨0x2E10, 1, 0x05, 0x05, .u16, 2, 2, .ro, 0, none, false, false⟩,  -- CMT_STATUS, R485
  ⟨0x2E10, 1, 0x06, 0x06, .u64, 8, 8, .ro, 0, none, false, false⟩,  -- CMD_CTR, R485
  ⟨0x2E10, 1, 0x07, 0x07, .u32, 4, 4, .rc, 0, none, false, false⟩,  -- CMT_FAILS, R485
  ⟨0x2E00, 1, 0x01, 0x01, .u8, 1, 1, .ro, 0, none, false, false⟩,  -- DOME_STATE, R502
  ⟨0x2E00, 1, 0x02, 0x02, .u8, 1, 1, .ro, 0xff, none, false, false⟩,  -- BOOT_STATUS, R502
  ⟨0x2E00, 1, 0x03, 0x03, .u8, 1, 1, .ro, 0, none, false, false⟩,  -- BOOT_COPY, R502
  ⟨0x2E00, 1, 0x04, 0x04, .u32, 4, 4, .const, 0, none, false, false⟩,  -- ROM_VER, R502
  ⟨0x2E00, 1, 0x05, 0x05, .u32, 4, 4, .ro, 0, none, false, false⟩,  -- FW_RB, R502
  ⟨0x2E00, 1, 0x06, 0x06, .u8, 1, 1, .ro, 0, none, false, false⟩,  -- DOME_FLT, R502
  ⟨0x2E00, 1, 0x07, 0x07, .domain, 57, 57, .ro, 0, none, false, false⟩,  -- ID_PUB, R502
  ⟨0x2E00, 1, 0x08, 0x08, .domain, 114, 114, .const, 0, none, false, false⟩,  -- ID_CERT, R502
  ⟨0x2E00, 1, 0x09, 0x09, .domain, 64, 64, .ro, 0, none, false, false⟩,  -- RB_CTR, R502
  ⟨0x2E00, 1, 0x0A, 0x0A, .domain, 2, 2, .cw, 0, none, false, false⟩,  -- RB_ADV, R502
  ⟨0x2E00, 1, 0x0B, 0x0B, .u32, 4, 4, .wo, 0, some (0, 2097151), false, false⟩,  -- BOOT_OFF, R502
  ⟨0x2E00, 1, 0x0C, 0x0C, .bool, 1, 1, .wo, 0, some (0, 1), false, false⟩,  -- BOOT_GO, R502
  ⟨0x2E00, 1, 0x40, 0x7F, .domain, 512, 512, .wo, 0, none, true, false⟩,  -- BOOT_CHUNK, R502
  ⟨0x2E01, 1, 0x01, 0x01, .domain, 210, 210, .wo, 0, none, false, false⟩,  -- KEY_ENV, R502
  ⟨0x2E01, 1, 0x02, 0x02, .u8, 1, 1, .ro, 0, none, false, false⟩,  -- KEY_STATUS, R502
  ⟨0x2E01, 1, 0x03, 0x03, .domain, 96, 96, .ro, 0, none, false, false⟩,  -- KEY_INFO, R502
  ⟨0x2E01, 1, 0x04, 0x04, .domain, 512, 512, .ro, 0, none, false, false⟩,  -- KEY_STORE, R502
  ⟨0x2E02, 1, 0x01, 0x08, .domain, 64, 64, .ro, 0, none, false, false⟩,  -- MR, R502
  ⟨0x2E02, 1, 0x09, 0x09, .domain, 64, 64, .wo, 0, none, false, false⟩,  -- MR7_EXTEND, R502
  ⟨0x2E02, 1, 0x0A, 0x0A, .domain, 32, 32, .rw, 0, none, false, false⟩  -- ATT_NONCE, R502
]

/-- Entries of indices 0x2E00 to 0x2EFF, part 2. -/
def entryRows2Eb : List EntryRow := [
  ⟨0x2E02, 1, 0x0B, 0x0B, .bool, 1, 1, .wo, 0, some (0, 1), false, false⟩,  -- ATT_GO, R502
  ⟨0x2E02, 1, 0x0C, 0x0C, .u8, 1, 1, .ro, 0, none, false, false⟩,  -- ATT_STATE, R502
  ⟨0x2E02, 1, 0x0D, 0x0D, .domain, 762, 762, .ro, 0, none, false, false⟩,  -- ATT_QUOTE, R502
  ⟨0x2E03, 1, 0x01, 0x01, .u8, 1, 1, .ro, 0, some (0, 2), false, false⟩,  -- JTAG_LEVEL, R502
  ⟨0x2E03, 1, 0x02, 0x02, .u8, 1, 1, .wo, 0, some (0, 2), false, false⟩,  -- JTAG_REQ, R502
  ⟨0x2E03, 1, 0x03, 0x03, .domain, 48, 48, .ro, 0, none, false, false⟩,  -- JTAG_CHAL, R502
  ⟨0x2E03, 1, 0x04, 0x04, .domain, 115, 115, .wo, 0, none, false, false⟩,  -- JTAG_RESP, R502
  ⟨0x2E03, 1, 0x05, 0x05, .u8, 1, 1, .ro, 0, none, false, false⟩,  -- JTAG_STAT, R502
  ⟨0x2E04, 4, 0x01, 0x01, .domain, 57, 57, .const, 0, none, false, false⟩,  -- FK_PUB, R502
  ⟨0x2E04, 4, 0x02, 0x02, .u8, 1, 1, .const, 0, none, false, false⟩,  -- FK_USE, R502
  ⟨0x2E04, 4, 0x03, 0x03, .bool, 1, 1, .ro, 0, some (0, 1), false, false⟩,  -- FK_REVOKED, R502
  ⟨0x2E04, 4, 0x04, 0x04, .bool, 1, 1, .cw, 0, some (0, 1), false, false⟩  -- FK_REVOKE, R502
]

/-- Entries of indices 0x2F00 to 0x2FFF, part 1. -/
def entryRows2Fa : List EntryRow := [
  ⟨0x2F00, 1, 0x01, 0x01, .domain, 32, 32, .rc, 0, none, false, false⟩,  -- EVT_POP, R524
  ⟨0x2F00, 1, 0x02, 0x02, .u16, 2, 2, .ro, 0, some (0, 256), false, false⟩,  -- EVT_COUNT, R524
  ⟨0x2F00, 1, 0x03, 0x03, .u32, 4, 4, .rc, 0, none, false, false⟩,  -- EVT_LOST, R524
  ⟨0x2F00, 1, 0x04, 0x04, .u32, 4, 4, .rc, 0, none, false, false⟩,  -- EVT_SUPP, R524
  ⟨0x2F00, 1, 0x05, 0x05, .u32, 4, 4, .rw, 0x64, some (0, 1000000), false, false⟩,  -- EVT_HOLDOFF, R524
  ⟨0x2F00, 1, 0x06, 0x06, .u16, 2, 2, .ro, 0xffff, none, false, false⟩,  -- EVT_QUEUE, R524
  ⟨0x2F00, 1, 0x07, 0x07, .u32, 4, 4, .rc, 0, none, false, false⟩,  -- EVT_QLOST, R524
  ⟨0x2F00, 1, 0x08, 0x08, .u8, 1, 1, .rw, 0, some (0, 3), false, false⟩,  -- EVT_CAN_PORT, R524
  ⟨0x2F00, 1, 0x09, 0x09, .u16, 2, 2, .rw, 0x90, some (0, 2047), false, false⟩,  -- EVT_CAN_ID, R524
  ⟨0x2F00, 1, 0x0A, 0x0A, .u32, 4, 4, .rc, 0, none, false, false⟩,  -- EVT_CAN_LOST, R524
  ⟨0x2F00, 1, 0x0B, 0x0B, .u8, 1, 1, .w1c, 0, none, false, false⟩,  -- FAULT_CAUSE, R524
  ⟨0x2F00, 1, 0x0C, 0x0C, .u32, 4, 4, .ro, 0, none, false, false⟩,  -- KEEPER_RESTARTS, R524
  ⟨0x2F00, 1, 0x0D, 0x0D, .i16, 2, 2, .rw, 0x73, some (60, 125), false, false⟩,  -- TJ_WARN, R524
  ⟨0x2F00, 1, 0x0E, 0x0E, .domain, 8, 8, .cw, 0, none, false, false⟩,  -- INJ_REQ, R524
  ⟨0x2F00, 1, 0x0F, 0x0F, .u8, 1, 1, .ro, 0, none, false, false⟩,  -- INJ_STATE, R524
  ⟨0x2F01, 1, 0x01, 0x63, .u32, 4, 4, .rc, 0, none, false, false⟩,  -- DET_CNT, R524
  ⟨0x2F40, 18, 0x01, 0xFF, .u16, 2, 2, .rw, 0x4800, none, false, false⟩,  -- EVT_ROUTE, R524
  ⟨0x2F60, 1, 0x01, 0x01, .bool, 1, 1, .rw, 0, some (0, 1), false, false⟩,  -- LB_EN, R524
  ⟨0x2F60, 1, 0x02, 0x02, .domain, 12, 12, .rw, 0, none, false, false⟩,  -- LB_SLOTS, R524
  ⟨0x2F60, 1, 0x03, 0x03, .bool, 1, 1, .rw, 1, some (0, 1), false, false⟩,  -- LB_DP, R524
  ⟨0x2F60, 1, 0x04, 0x04, .u16, 2, 2, .ro, 0, none, false, false⟩,  -- LB_ALLOC, R524
  ⟨0x2F60, 1, 0x05, 0x05, .u64, 8, 8, .rw, 0, none, false, false⟩,  -- LB_HOST_ADDR, R524
  ⟨0x2F60, 1, 0x06, 0x06, .u8, 1, 1, .rw, 0x1a, some (20, 36), false, false⟩,  -- LB_HOST_LOG2, R524
  ⟨0x2F60, 1, 0x07, 0x07, .u64, 8, 8, .ro, 0, none, false, false⟩  -- LB_HOST_WR, R524
]

/-- Entries of indices 0x2F00 to 0x2FFF, part 2. -/
def entryRows2Fb : List EntryRow := [
  ⟨0x2F60, 1, 0x08, 0x08, .u64, 8, 8, .rw, 0, none, false, false⟩,  -- LB_HOST_RD, R524
  ⟨0x2F60, 1, 0x09, 0x09, .u16, 2, 2, .rw, 0, none, false, false⟩,  -- LB_CAIRN, R524
  ⟨0x2F60, 1, 0x0A, 0x0A, .u32, 4, 4, .rc, 0, none, false, false⟩,  -- LB_DROP, R524
  ⟨0x2F70, 1, 0x01, 0x01, .bool, 1, 1, .cw, 0, some (0, 1), false, false⟩,  -- RP_GO, R524
  ⟨0x2F70, 1, 0x02, 0x02, .bool, 1, 1, .wo, 0, some (0, 1), false, false⟩,  -- RP_STOP, R524
  ⟨0x2F70, 1, 0x03, 0x03, .u8, 1, 1, .ro, 0, none, false, false⟩,  -- RP_STATE, R524
  ⟨0x2F70, 1, 0x04, 0x04, .u64, 8, 8, .rw, 0, none, false, false⟩,  -- RP_HOST_ADDR, R524
  ⟨0x2F70, 1, 0x05, 0x05, .u8, 1, 1, .rw, 0x1a, some (20, 36), false, false⟩,  -- RP_HOST_LOG2, R524
  ⟨0x2F70, 1, 0x06, 0x06, .u64, 8, 8, .rw, 0, none, false, false⟩,  -- RP_HOST_WR, R524
  ⟨0x2F70, 1, 0x07, 0x07, .u64, 8, 8, .ro, 0, none, false, false⟩,  -- RP_HOST_RD, R524
  ⟨0x2F70, 1, 0x08, 0x08, .bool, 1, 1, .ro, 0, some (0, 1), false, false⟩,  -- RP_DIVERGED, R524
  ⟨0x2F70, 1, 0x09, 0x09, .u32, 4, 4, .rc, 0, none, false, false⟩  -- RP_LIVE_DROP, R524
]

/-- Entries of indices 0x3000 to 0x30FF, part 1. -/
def entryRows30a : List EntryRow := [
  ⟨0x3000, 1, 0x01, 0x01, .u32, 4, 4, .ro, 0xf, none, false, false⟩,  -- PD_STATE, R541
  ⟨0x3000, 1, 0x02, 0x02, .u32, 4, 4, .wo, 0, none, false, false⟩,  -- PD_ON, R541
  ⟨0x3000, 1, 0x03, 0x03, .u32, 4, 4, .wo, 0, none, false, false⟩,  -- PD_OFF, R541
  ⟨0x3000, 1, 0x04, 0x04, .u32, 4, 4, .const, 0, none, false, false⟩,  -- PD_AVAIL, R541
  ⟨0x3000, 1, 0x05, 0x05, .u8, 1, 1, .ro, 0, none, false, false⟩,  -- PD_ERR, R541
  ⟨0x3000, 1, 0x06, 0x06, .u16, 2, 2, .ro, 0, none, false, false⟩,  -- CLK_LOCK, R541
  ⟨0x3000, 1, 0x07, 0x07, .u16, 2, 2, .ro, 0, none, false, false⟩,  -- CLK_FAULT, R541
  ⟨0x3000, 1, 0x08, 0x08, .u8, 1, 1, .ro, 0, none, false, false⟩,  -- ENV_HOLD, R541
  ⟨0x3000, 1, 0x09, 0x09, .u16, 2, 2, .ro, 0, none, false, false⟩,  -- VMON_FLT, R541
  ⟨0x3000, 1, 0x0A, 0x0A, .i16, 2, 2, .ro, 0, none, false, false⟩,  -- TJ_NOW, R541
  ⟨0x3000, 1, 0x0B, 0x0B, .i16, 2, 2, .rc, 0, none, false, false⟩,  -- TJ_PEAK, R541
  ⟨0x3000, 1, 0x0C, 0x0C, .u8, 1, 1, .ro, 1, some (1, 3), false, false⟩,  -- RST_CAUSE, R541
  ⟨0x3000, 1, 0x0D, 0x0D, .u32, 4, 4, .ro, 0, none, false, false⟩,  -- RST_COUNT, R541
  ⟨0x3000, 1, 0x0E, 0x0E, .bool, 1, 1, .ro, 0, some (0, 1), false, false⟩,  -- FLASH_BUSY, R541
  ⟨0x3000, 1, 0x0F, 0x0F, .u8, 1, 1, .rw, 2, some (0, 2), false, false⟩,  -- QSPI_RATE, R541
  ⟨0x3000, 1, 0x10, 0x10, .bool, 1, 1, .cw, 0, some (0, 1), false, false⟩,  -- SW_RESET, R541
  ⟨0x3000, 1, 0x11, 0x11, .u64, 8, 8, .ro, 0, none, false, false⟩  -- STARTUP_NS, R541
]

/-- Entries of indices 0x3100 to 0x31FF, part 1. -/
def entryRows31a : List EntryRow := [
  ⟨0x3100, 1, 0x01, 0x01, .bool, 1, 1, .ro, 1, some (0, 1), false, false⟩,  -- PIN_SAFE, R542
  ⟨0x3100, 1, 0x02, 0x02, .u8, 1, 1, .ro, 4, none, false, false⟩,  -- SAFE_DRV, R542
  ⟨0x3100, 1, 0x03, 0x03, .bool, 1, 1, .ro, 0, some (0, 1), false, false⟩,  -- PIN_FAULT, R542
  ⟨0x3100, 1, 0x04, 0x04, .bool, 1, 1, .ro, 0, some (0, 1), false, false⟩,  -- PIN_HB, R542
  ⟨0x3100, 1, 0x05, 0x05, .bool, 1, 1, .ro, 0, some (0, 1), false, false⟩,  -- PIN_BOOT, R542
  ⟨0x3100, 1, 0x06, 0x06, .bool, 1, 1, .ro, 0, some (0, 1), false, false⟩  -- PIN_SYSRST, R542
]

/-- The DOMAIN objects of indices 0x5000 to 0x5FFF, at sub 0. -/
def entryRows50a : List EntryRow := [
  ⟨0x5200, 128, 0x00, 0x00, .domain, 2048, 2048, .ro, 0, none, false, true⟩,  -- template, R86
  ⟨0x5380, 64, 0x00, 0x00, .domain, 16, 16, .ro, 0, none, false, true⟩,  -- rulebook spec, R224
  ⟨0x5400, 2, 0x00, 0x00, .domain, 32, 32, .rw, 0, none, false, true⟩,  -- Plate geometry, R247
  ⟨0x5410, 192, 0x00, 0x00, .domain, 128, 128, .rw, 0, none, false, true⟩,  -- slot record, R248
  ⟨0x5500, 192, 0x00, 0x00, .domain, 1024, 1024, .rw, 0, none, false, true⟩,  -- lens table, R249
  ⟨0x55C0, 32, 0x00, 0x00, .domain, 64, 2048, .ro, 0, none, false, true⟩,  -- operation spec, R257
  ⟨0x55E0, 16, 0x00, 0x00, .domain, 32, 32, .ro, 0, none, false, true⟩,  -- head, R272
  ⟨0x5600, 64, 0x00, 0x00, .domain, 64, 2048, .ro, 0, none, false, true⟩,  -- Theodolite template, R321
  ⟨0x5640, 64, 0x00, 0x00, .domain, 64, 64, .ro, 0, none, false, true⟩,  -- Theodolite program, R330
  ⟨0x5700, 8, 0x00, 0x00, .domain, 8, 2048, .ro, 0, none, false, true⟩  -- share map, R449
]

/-- Every row of every entry table. -/
def entryRows : List EntryRow :=
  entryRows10a ++ entryRows20a ++ entryRows20b ++ entryRows21a ++ entryRows21b ++ entryRows21c ++ entryRows22a ++ entryRows22b ++ entryRows22c ++ entryRows24a ++ entryRows24b ++ entryRows25a ++ entryRows25b ++ entryRows26a ++ entryRows27a ++ entryRows28a ++ entryRows29a ++ entryRows2Aa ++ entryRows2Ba ++ entryRows2Bb ++ entryRows2Ca ++ entryRows2Cb ++ entryRows2Da ++ entryRows2Db ++ entryRows2Ea ++ entryRows2Eb ++ entryRows2Fa ++ entryRows2Fb ++ entryRows30a ++ entryRows31a ++ entryRows50a

/-- The row that names the entry `idx:sub`, if the tables have one (R459). -/
def entryOf (idx sub : Nat) : Option EntryRow :=
  entryRows.find? (fun r => r.idx ≤ idx && idx < r.idx + r.cnt && r.lo ≤ sub && sub ≤ r.hi)

/-- The key of the entry `idx:sub` in the state's dictionary. -/
def entryKey (idx sub : Nat) : Nat := idx * 256 + sub

end Sys2Proof.Machine
end

