-- ==== Sys2Proof/Machine/Regs.lean ====
section
/-! DEFINITION. The names of the entries, as keys of the state's dictionary (index × 256 + sub). An entry that
stands at several indices takes its instance number; one that stands at several subindices takes its subindex. -/
namespace Sys2Proof.Machine.R

/-- `MER_STATE` (R69). -/
def MER_STATE : Nat := 0x210001
/-- `MER_NOW` (R69). -/
def MER_NOW : Nat := 0x210002
/-- `INC_NOM` (R69). -/
def INC_NOM : Nat := 0x210003
/-- `RATE_ADJ` (R69). -/
def RATE_ADJ : Nat := 0x210004
/-- `SERVO_EN` (R69). -/
def SERVO_EN : Nat := 0x210005
/-- `SRC_SEL` (R69). -/
def SRC_SEL : Nat := 0x210006
/-- `LOCK_THR` (R69). -/
def LOCK_THR : Nat := 0x210007
/-- `SLEW_MAX` (R69). -/
def SLEW_MAX : Nat := 0x210008
/-- `PD_JUMP_THR` (R69). -/
def PD_JUMP_THR : Nat := 0x210009
/-- `PD_STABLE_N` (R69). -/
def PD_STABLE_N : Nat := 0x21000A
/-- `SRC_LOSS_N` (R69). -/
def SRC_LOSS_N : Nat := 0x21000B
/-- `RESTEP` (R69). -/
def RESTEP : Nat := 0x21000C
/-- `STEP_COUNT` (R69). -/
def STEP_COUNT : Nat := 0x21000D
/-- `LAST_STEP` (R69). -/
def LAST_STEP : Nat := 0x21000E
/-- `OFFSET` (R69). -/
def OFFSET : Nat := 0x21000F
/-- `SRC_PD` (R69). -/
def SRC_PD : Nat := 0x210010
/-- `UTC_OFFSET` (R69). -/
def UTC_OFFSET : Nat := 0x210011
/-- `OFFSET_REJ` (R69). -/
def OFFSET_REJ : Nat := 0x210012
/-- `GM_ENABLE` (R69). -/
def GM_ENABLE : Nat := 0x210013
/-- `DOMAIN_NUM` (R69). -/
def DOMAIN_NUM : Nat := 0x210014
/-- `PRIORITY1` (R69). -/
def PRIORITY1 : Nat := 0x210015
/-- `ACQ_N` (R69). -/
def ACQ_N : Nat := 0x210016
/-- `GNSS_PPS` (R69). -/
def GNSS_PPS : Nat := 0x210017
/-- `GNSS_UART` (R69). -/
def GNSS_UART : Nat := 0x210018
/-- `PTP_PORT_EN` (R70). -/
def PTP_PORT_EN (i : Nat) : Nat := 0x211001 + 256 * i
/-- `PORT_STATE` (R70). -/
def PORT_STATE (i : Nat) : Nat := 0x211002 + 256 * i
/-- `ASYM` (R70). -/
def ASYM (i : Nat) : Nat := 0x211003 + 256 * i
/-- `RX_LAT` (R70). -/
def RX_LAT (i : Nat) : Nat := 0x211004 + 256 * i
/-- `TX_LAT` (R70). -/
def TX_LAT (i : Nat) : Nat := 0x211005 + 256 * i
/-- `LOG_SYNC` (R70). -/
def LOG_SYNC (i : Nat) : Nat := 0x211006 + 256 * i
/-- `LOG_PDELAY` (R70). -/
def LOG_PDELAY (i : Nat) : Nat := 0x211007 + 256 * i
/-- `MEAN_PD` (R70). -/
def MEAN_PD (i : Nat) : Nat := 0x211008 + 256 * i
/-- `NRR` (R70). -/
def NRR (i : Nat) : Nat := 0x211009 + 256 * i
/-- `TS_POP` (R70). -/
def TS_POP (i : Nat) : Nat := 0x21100A + 256 * i
/-- `TS_COUNT` (R70). -/
def TS_COUNT (i : Nat) : Nat := 0x21100B + 256 * i
/-- `TS_OVF` (R70). -/
def TS_OVF (i : Nat) : Nat := 0x21100C + 256 * i
/-- `LATE_LAUNCH` (R70). -/
def LATE_LAUNCH (i : Nat) : Nat := 0x21100D + 256 * i
/-- `LAUNCH_SLIP` (R70). -/
def LAUNCH_SLIP (i : Nat) : Nat := 0x21100E + 256 * i
/-- `BAD_MSG` (R70). -/
def BAD_MSG (i : Nat) : Nat := 0x21100F + 256 * i
/-- `TIO_MODE` (R71). -/
def TIO_MODE (i : Nat) : Nat := 0x212001 + 256 * i
/-- `TIO_START` (R71). -/
def TIO_START (i : Nat) : Nat := 0x212002 + 256 * i
/-- `TIO_PERIOD` (R71). -/
def TIO_PERIOD (i : Nat) : Nat := 0x212003 + 256 * i
/-- `TIO_WIDTH` (R71). -/
def TIO_WIDTH (i : Nat) : Nat := 0x212004 + 256 * i
/-- `TIO_POL` (R71). -/
def TIO_POL (i : Nat) : Nat := 0x212005 + 256 * i
/-- `TIO_MISSED` (R71). -/
def TIO_MISSED (i : Nat) : Nat := 0x212006 + 256 * i
/-- `TIO_LAST` (R71). -/
def TIO_LAST (i : Nat) : Nat := 0x212007 + 256 * i
/-- `TIO_REPLAY` (R71). -/
def TIO_REPLAY (i : Nat) : Nat := 0x212008 + 256 * i
/-- `PPS_EDGE` (R71). -/
def PPS_EDGE_SEL (i : Nat) : Nat := 0x213001 + 256 * i
/-- `PPS_LAT` (R71). -/
def PPS_LAT (i : Nat) : Nat := 0x213002 + 256 * i
/-- `PPS_LAST` (R71). -/
def PPS_LAST (i : Nat) : Nat := 0x213003 + 256 * i
/-- `SLOT_EN` (R84). -/
def SLOT_EN (i : Nat) : Nat := 0x220001 + 256 * i
/-- `SLOT_KIND` (R84). -/
def SLOT_KIND (i : Nat) : Nat := 0x220002 + 256 * i
/-- `SLOT_PORT` (R84). -/
def SLOT_PORT (i : Nat) : Nat := 0x220003 + 256 * i
/-- `SLOT_TPL` (R84). -/
def SLOT_TPL (i : Nat) : Nat := 0x220004 + 256 * i
/-- `C_RATE` (R84). -/
def C_RATE (i : Nat) : Nat := 0x220005 + 256 * i
/-- `C_BURST` (R84). -/
def C_BURST (i : Nat) : Nat := 0x220006 + 256 * i
/-- `KEEP_RES` (R84). -/
def KEEP_RES (i : Nat) : Nat := 0x220007 + 256 * i
/-- `STALE_T` (R84). -/
def STALE_T (i : Nat) : Nat := 0x220008 + 256 * i
/-- `DEAD_T` (R84). -/
def DEAD_T (i : Nat) : Nat := 0x220009 + 256 * i
/-- `SEQ_MOD` (R84). -/
def SEQ_MOD (i : Nat) : Nat := 0x22000A + 256 * i
/-- `SLOT_STATE` (R84). -/
def SLOT_STATE (i : Nat) : Nat := 0x22000B + 256 * i
/-- `DESER_LAT` (R84). -/
def DESER_LAT (i : Nat) : Nat := 0x22000C + 256 * i
/-- `EXPO_NS` (R84). -/
def EXPO_NS (i : Nat) : Nat := 0x22000D + 256 * i
/-- `REF_ROW` (R84). -/
def REF_ROW (i : Nat) : Nat := 0x22000E + 256 * i
/-- `UNITS` (R84). -/
def UNITS (i : Nat) : Nat := 0x22000F + 256 * i
/-- `LAST_UNIT` (R84). -/
def LAST_UNIT (i : Nat) : Nat := 0x220010 + 256 * i
/-- `DROP_CONTRACT` (R84). -/
def DROP_CONTRACT (i : Nat) : Nat := 0x220011 + 256 * i
/-- `DROP_RANGE` (R84). -/
def DROP_RANGE (i : Nat) : Nat := 0x220012 + 256 * i
/-- `DROP_RATE` (R84). -/
def DROP_RATE (i : Nat) : Nat := 0x220013 + 256 * i
/-- `DROP_FORMAT` (R84). -/
def DROP_FORMAT (i : Nat) : Nat := 0x220014 + 256 * i
/-- `DROP_DUP` (R84). -/
def DROP_DUP (i : Nat) : Nat := 0x220015 + 256 * i
/-- `SEQ_GAP` (R84). -/
def SEQ_GAP (i : Nat) : Nat := 0x220016 + 256 * i
/-- `DROP_TIME` (R84). -/
def DROP_TIME (i : Nat) : Nat := 0x220017 + 256 * i
/-- `DROP_BUF` (R84). -/
def DROP_BUF (i : Nat) : Nat := 0x220018 + 256 * i
/-- `LATE_CNT` (R84). -/
def LATE_CNT (i : Nat) : Nat := 0x220019 + 256 * i
/-- `LATE_DROP` (R84). -/
def LATE_DROP (i : Nat) : Nat := 0x22001A + 256 * i
/-- `CAP_DROP` (R84). -/
def CAP_DROP (i : Nat) : Nat := 0x22001B + 256 * i
/-- `BUF_DEPTH` (R85). -/
def BUF_DEPTH : Nat := 0x226001
/-- `BUF_PEAK` (R85). -/
def BUF_PEAK : Nat := 0x226002
/-- `KEEP_MARGIN` (R85). -/
def KEEP_MARGIN : Nat := 0x226003
/-- `FUTURE_TOL` (R85). -/
def FUTURE_TOL : Nat := 0x226004
/-- `SUM_RATE` (R85). -/
def SUM_RATE : Nat := 0x226005
/-- `CSI_LANES` (R85). -/
def CSI_LANES (i : Nat) : Nat := 0x227001 + 256 * i
/-- `CSI_RATE` (R85). -/
def CSI_RATE (i : Nat) : Nat := 0x227002 + 256 * i
/-- `ECC_CORR` (R85). -/
def ECC_CORR (i : Nat) : Nat := 0x227003 + 256 * i
/-- `ECC_BAD` (R85). -/
def ECC_BAD (i : Nat) : Nat := 0x227004 + 256 * i
/-- `CRC_BAD` (R85). -/
def CRC_BAD (i : Nat) : Nat := 0x227005 + 256 * i
/-- `ETH_SPEED` (R85). -/
def ETH_SPEED (i : Nat) : Nat := 0x229001 + 256 * i
/-- `ETH_IP` (R85). -/
def ETH_IP (i : Nat) : Nat := 0x229002 + 256 * i
/-- `MC_FILTER` (R85). -/
def MC_FILTER (i : Nat) : Nat := 0x229003 + 256 * i
/-- `RX_BAD` (R85). -/
def RX_BAD (i : Nat) : Nat := 0x229004 + 256 * i
/-- `RX_UNMATCHED` (R85). -/
def ETH_RX_UNMATCHED (i : Nat) : Nat := 0x229005 + 256 * i
/-- `CAN_NBR` (R85). -/
def CAN_NBR (i : Nat) : Nat := 0x22A001 + 256 * i
/-- `CAN_DBR` (R85). -/
def CAN_DBR (i : Nat) : Nat := 0x22A002 + 256 * i
/-- `CAN_ERR` (R85). -/
def CAN_ERR (i : Nat) : Nat := 0x22A003 + 256 * i
/-- `RX_UNMATCHED` (R85). -/
def CAN_RX_UNMATCHED (i : Nat) : Nat := 0x22A004 + 256 * i
/-- `SPI_HZ` (R85). -/
def SPI_HZ (i : Nat) : Nat := 0x22A401 + 256 * i
/-- `SPI_MODE` (R85). -/
def SPI_MODE (i : Nat) : Nat := 0x22A402 + 256 * i
/-- `DRDY_FILT` (R85). -/
def DRDY_FILT (i : Nat) : Nat := 0x22A403 + 256 * i
/-- `DRDY_OVR` (R85). -/
def DRDY_OVR (i : Nat) : Nat := 0x22A404 + 256 * i
/-- `BAUD` (R85). -/
def BAUD (i : Nat) : Nat := 0x22A801 + 256 * i
/-- `UART_ERR` (R85). -/
def UART_ERR (i : Nat) : Nat := 0x22A802 + 256 * i
/-- `TIO_FILT` (R85). -/
def TIO_FILT (i : Nat) : Nat := 0x212009 + 256 * i
/-- `TIO_GLITCH` (R85). -/
def TIO_GLITCH (i : Nat) : Nat := 0x21200A + 256 * i
/-- `PPS_FILT` (R85). -/
def PPS_FILT (i : Nat) : Nat := 0x213004 + 256 * i
/-- `TS_LEN` (R131). -/
def TS_LEN : Nat := 0x240001
/-- `VOX_SUB` (R131). -/
def VOX_SUB : Nat := 0x240002
/-- `VOX_Z` (R131). -/
def VOX_Z : Nat := 0x240003
/-- `VOX_Z0` (R131). -/
def VOX_Z0 : Nat := 0x240004
/-- `VOX_NK` (R131). -/
def VOX_NK : Nat := 0x240005
/-- `OCT_LEVELS` (R131). -/
def OCT_LEVELS : Nat := 0x240006
/-- `PR_GAP_MAX` (R131). -/
def PR_GAP_MAX : Nat := 0x240007
/-- `POSE_AGE_MAX` (R131). -/
def POSE_AGE_MAX : Nat := 0x240008
/-- `CAP_RMAX` (R131). -/
def CAP_RMAX : Nat := 0x240009
/-- `PROBE_MAX` (R131). -/
def PROBE_MAX : Nat := 0x24000A
/-- `VOX_COUNT` (R131). -/
def VOX_COUNT : Nat := 0x24000B
/-- `IN_PTS` (R131). -/
def IN_PTS : Nat := 0x24000C
/-- `LATE_PTS` (R131). -/
def LATE_PTS : Nat := 0x24000D
/-- `LATE_DROP` (R131). -/
def TALUS_LATE_DROP : Nat := 0x24000E
/-- `OUT_GRID` (R131). -/
def OUT_GRID : Nat := 0x24000F
/-- `CAP_DROP_ALL` (R131). -/
def CAP_DROP_ALL : Nat := 0x240010
/-- `PROBE_DROP` (R131). -/
def PROBE_DROP : Nat := 0x240011
/-- `VOX_LOST` (R131). -/
def VOX_LOST : Nat := 0x240012
/-- `BUILD_NS` (R131). -/
def BUILD_NS : Nat := 0x240013
/-- `SET_BUSY` (R131). -/
def SET_BUSY : Nat := 0x240014
/-- `PR_BASE` (R131). -/
def PR_BASE : Nat := 0x240015
/-- `PR_HEAD` (R131). -/
def PR_HEAD : Nat := 0x240016
/-- `PR_REFUSED` (R131). -/
def PR_REFUSED : Nat := 0x240017
/-- `SWEEP_T` (R131). -/
def SWEEP_T (sub : Nat) : Nat := 0x240100 + sub
/-- `SNT_STATE` (R166). -/
def SNT_STATE : Nat := 0x250001
/-- `SLICE_LEN` (R166). -/
def SLICE_LEN : Nat := 0x250002
/-- `ADM_LAG` (R166). -/
def ADM_LAG : Nat := 0x250003
/-- `OUT_QUEUE` (R166). -/
def OUT_QUEUE : Nat := 0x250004
/-- `NEG_Z` (R166). -/
def NEG_Z : Nat := 0x250005
/-- `GROUND_Z` (R166). -/
def GROUND_Z : Nat := 0x250006
/-- `OBS_ZMAX` (R166). -/
def OBS_ZMAX : Nat := 0x250007
/-- `OCC_HOLD` (R166). -/
def OCC_HOLD : Nat := 0x250008
/-- `OBS_WIN` (R166). -/
def OBS_WIN : Nat := 0x250009
/-- `CLEAR_N` (R166). -/
def CLEAR_N : Nat := 0x25000A
/-- `EVID_WIN` (R166). -/
def EVID_WIN : Nat := 0x25000B
/-- `LATE_WIN` (R166). -/
def LATE_WIN : Nat := 0x25000C
/-- `SUSPECT_N` (R166). -/
def SUSPECT_N : Nat := 0x25000D
/-- `SUSPECT_MASK` (R166). -/
def SUSPECT_MASK : Nat := 0x25000E
/-- `ECHO_USE` (R166). -/
def ECHO_USE : Nat := 0x25000F
/-- `POSE_TOL_POS` (R166). -/
def POSE_TOL_POS : Nat := 0x250010
/-- `POSE_TOL_ATT` (R166). -/
def POSE_TOL_ATT : Nat := 0x250011
/-- `PR_STALE` (R166). -/
def PR_STALE : Nat := 0x250012
/-- `CMP_WIN` (R166). -/
def CMP_WIN : Nat := 0x250013
/-- `RETURN_N` (R166). -/
def RETURN_N : Nat := 0x250014
/-- `INT_TAU` (R166). -/
def INT_TAU : Nat := 0x250015
/-- `INT_SRC` (R166). -/
def INT_SRC : Nat := 0x250016
/-- `SAFE_MASK` (R166). -/
def SAFE_MASK : Nat := 0x250017
/-- `SAFE_HOLD` (R166). -/
def SAFE_HOLD : Nat := 0x250018
/-- `SHED_LVL` (R166). -/
def SHED_LVL : Nat := 0x250019
/-- `SHED_CNT` (R166). -/
def SHED_CNT : Nat := 0x25001A
/-- `CLR_DROP` (R166). -/
def CLR_DROP : Nat := 0x25001B
/-- `FALLBACK_CNT` (R166). -/
def FALLBACK_CNT : Nat := 0x25001C
/-- `CONFLICT_CNT` (R166). -/
def CONFLICT_CNT : Nat := 0x25001D
/-- `SEQ_NEXT` (R166). -/
def SEQ_NEXT : Nat := 0x25001E
/-- `SNT_RESTART` (R166). -/
def SNT_RESTART : Nat := 0x25001F
/-- `COR_DATA` (R166). -/
def COR_DATA : Nat := 0x251001
/-- `COR_COMMIT` (R166). -/
def COR_COMMIT : Nat := 0x251002
/-- `COR_SEQ_CUR` (R166). -/
def COR_SEQ_CUR : Nat := 0x251003
/-- `COR_TMO` (R166). -/
def COR_TMO : Nat := 0x251004
/-- `HZ_PORT` (R166). -/
def HZ_PORT : Nat := 0x252001
/-- `HZ_ID` (R166). -/
def HZ_ID : Nat := 0x252002
/-- `HZ_PERIOD` (R166). -/
def HZ_PERIOD : Nat := 0x252003
/-- `HZ_PHASE` (R166). -/
def HZ_PHASE : Nat := 0x252004
/-- `HZ_DATA_ID` (R166). -/
def HZ_DATA_ID : Nat := 0x252005
/-- `HZ_SLIP` (R166). -/
def HZ_SLIP : Nat := 0x252006
/-- `HZ_LOST` (R166). -/
def HZ_LOST : Nat := 0x252007
/-- `XCH_MAX` (R166). -/
def XCH_MAX : Nat := 0x253001
/-- `PEER_TMO` (R166). -/
def PEER_TMO : Nat := 0x253002
/-- `PEER_MASK` (R166). -/
def PEER_MASK : Nat := 0x253003
/-- `XCH_LATE` (R166). -/
def XCH_LATE : Nat := 0x253004
/-- `MASK_BIT` (R166). -/
def MASK_BIT (sub : Nat) : Nat := 0x254000 + sub
/-- `SR_MODE` (R196). -/
def SR_MODE : Nat := 0x260001
/-- `SR_SEED` (R196). -/
def SR_SEED : Nat := 0x260002
/-- `TRAP_CNT` (R196). -/
def TRAP_CNT : Nat := 0x260003
/-- `ISAT_CNT` (R196). -/
def ISAT_CNT : Nat := 0x260004
/-- `SPUR_STATE` (R196). -/
def SPUR_STATE (i : Nat) : Nat := 0x268001 + 256 * i
/-- `TRAP_CODE` (R196). -/
def TRAP_CODE (i : Nat) : Nat := 0x268002 + 256 * i
/-- `TRAP_PC` (R196). -/
def TRAP_PC (i : Nat) : Nat := 0x268003 + 256 * i
/-- `TRAP_WORD` (R196). -/
def TRAP_WORD (i : Nat) : Nat := 0x268004 + 256 * i
/-- `TASKS` (R196). -/
def TASKS (i : Nat) : Nat := 0x268005 + 256 * i
/-- `ALLOC_NEW` (R220). -/
def ALLOC_NEW : Nat := 0x2C3001
/-- `ALLOC_FREE` (R220). -/
def ALLOC_FREE : Nat := 0x2C3002
/-- `ALLOC_USED` (R220). -/
def ALLOC_USED : Nat := 0x2C3003
/-- `DESC_NEW` (R220). -/
def DESC_NEW : Nat := 0x2C4001
/-- `DESC_FREE` (R220). -/
def DESC_FREE : Nat := 0x2C4002
/-- `DESC_USED` (R220). -/
def DESC_USED : Nat := 0x2C4003
/-- `DESC_REJ` (R220). -/
def DESC_REJ : Nat := 0x2C4004
/-- `DT_BASE` (R220). -/
def DT_BASE : Nat := 0x2C4005
/-- `COPY_NEW` (R220). -/
def COPY_NEW : Nat := 0x2C5001
/-- `COPY_FREE` (R220). -/
def COPY_FREE : Nat := 0x2C5002
/-- `COPY_USED` (R220). -/
def COPY_USED : Nat := 0x2C5003
/-- `R_RESULT` (R220). -/
def R_RESULT (i : Nat) : Nat := 0x2C5801 + 256 * i
/-- `R_ERR` (R220). -/
def R_ERR (i : Nat) : Nat := 0x2C5802 + 256 * i
/-- `R_SEL` (R220). -/
def R_SEL (i : Nat) : Nat := 0x2C5803 + 256 * i
/-- `R_VIEW` (R220). -/
def R_VIEW (i : Nat) : Nat := 0x2C5804 + 256 * i
/-- `SITE_CAP` (R244). -/
def SITE_CAP : Nat := 0x241001
/-- `HALO_MAX` (R244). -/
def HALO_MAX : Nat := 0x241002
/-- `RB_COUNT` (R244). -/
def RB_COUNT : Nat := 0x241003
/-- `RB_AREA` (R244). -/
def RB_AREA : Nat := 0x241004
/-- `RB_AREA_BASE` (R244). -/
def RB_AREA_BASE : Nat := 0x241005
/-- `RB_FAIL` (R244). -/
def RB_FAIL : Nat := 0x241006
/-- `DIL_DROP_ALL` (R244). -/
def DIL_DROP_ALL : Nat := 0x241007
/-- `SPLIT_CNT` (R244). -/
def SPLIT_CNT : Nat := 0x241008
/-- `RB_OFF` (R244). -/
def RB_OFF (i : Nat) : Nat := 0x244001 + 256 * i
/-- `RB_WC` (R244). -/
def RB_WC (i : Nat) : Nat := 0x244002 + 256 * i
/-- `RB_TILES` (R244). -/
def RB_TILES (i : Nat) : Nat := 0x244003 + 256 * i
/-- `RB_NS` (R244). -/
def RB_NS (i : Nat) : Nat := 0x244004 + 256 * i
/-- `RB_FLAGS` (R244). -/
def RB_FLAGS (i : Nat) : Nat := 0x244005 + 256 * i
/-- `AG_STATE` (R280). -/
def AG_STATE : Nat := 0x270001
/-- `ALM_ACTIVE` (R280). -/
def ALM_ACTIVE : Nat := 0x270002
/-- `ALM_GEN` (R280). -/
def ALM_GEN : Nat := 0x270003
/-- `ALM_SWITCH` (R280). -/
def ALM_SWITCH : Nat := 0x270004
/-- `ALM_PEND` (R280). -/
def ALM_PEND : Nat := 0x270005
/-- `ALM_SW_EPOCH` (R280). -/
def ALM_SW_EPOCH : Nat := 0x270006
/-- `ALM_ERR` (R280). -/
def ALM_ERR : Nat := 0x270007
/-- `ALM_CLONE` (R280). -/
def ALM_CLONE : Nat := 0x270008
/-- `DR_QUEUE` (R280). -/
def DR_QUEUE : Nat := 0x270009
/-- `DR_EMITTER` (R280). -/
def DR_EMITTER : Nat := 0x27000A
/-- `DR_SEQ_NEXT` (R280). -/
def DR_SEQ_NEXT : Nat := 0x27000B
/-- `DIS_THR` (R280). -/
def DIS_THR : Nat := 0x27000C
/-- `FRAME_SUP` (R280). -/
def FRAME_SUP : Nat := 0x27000D
/-- `CAM_EXPIRED` (R280). -/
def CAM_EXPIRED : Nat := 0x27000E
/-- `MEM_RESETS` (R280). -/
def MEM_RESETS : Nat := 0x27000F
/-- `AG_WORK` (R280). -/
def AG_WORK : Nat := 0x270010
/-- `OP_FAIL` (R280). -/
def OP_FAIL : Nat := 0x270011
/-- `MEM_HDR0` (R280). -/
def MEM_HDR0 : Nat := 0x270012
/-- `MEM_HDR1` (R280). -/
def MEM_HDR1 : Nat := 0x270013
/-- `IMG_ADDR` (R313). -/
def IMG_ADDR : Nat := 0x280001
/-- `IMG_LOAD` (R313). -/
def IMG_LOAD : Nat := 0x280002
/-- `IMG_STATUS` (R313). -/
def IMG_STATUS : Nat := 0x280003
/-- `IMG_ERR` (R313). -/
def IMG_ERR : Nat := 0x280004
/-- `IMG_ERR_SEC` (R313). -/
def IMG_ERR_SEC : Nat := 0x280005
/-- `IMG_ERR_ITEM` (R313). -/
def IMG_ERR_ITEM : Nat := 0x280006
/-- `IMAGE_ID` (R313). -/
def IMAGE_ID : Nat := 0x280007
/-- `CAP_DEV` (R313). -/
def CAP_DEV : Nat := 0x280008
/-- `AM_VER_DEV` (R313). -/
def AM_VER_DEV : Nat := 0x280009
/-- `EPOCH_P` (R313). -/
def EPOCH_P : Nat := 0x28000A
/-- `EPOCH_ORIGIN` (R313). -/
def EPOCH_ORIGIN : Nat := 0x28000B
/-- `EPOCH_CUR` (R313). -/
def EPOCH_CUR : Nat := 0x28000C
/-- `SB_SEL` (R313). -/
def SB_SEL : Nat := 0x28000D
/-- `SB_VIEW` (R313). -/
def SB_VIEW : Nat := 0x28000E
/-- `SLOT_VIOL` (R313). -/
def SLOT_VIOL : Nat := 0x28000F
/-- `ABORT_CNT` (R313). -/
def ABORT_CNT : Nat := 0x280010
/-- `FB_COUNT` (R313). -/
def FB_COUNT : Nat := 0x280011
/-- `FAIL_CNT` (R313). -/
def FAIL_CNT : Nat := 0x280012
/-- `TASKS_DONE` (R313). -/
def TASKS_DONE : Nat := 0x280013
/-- `PR_WRITER` (R342). -/
def PR_WRITER : Nat := 0x290001
/-- `PROP_SLOT` (R342). -/
def PROP_SLOT : Nat := 0x290002
/-- `PROP_DT` (R342). -/
def PROP_DT : Nat := 0x290003
/-- `GNSS_ORIGIN` (R342). -/
def GNSS_ORIGIN : Nat := 0x290004
/-- `CAL_SIG_POS` (R342). -/
def CAL_SIG_POS : Nat := 0x290005
/-- `CAL_SIG_ATT` (R342). -/
def CAL_SIG_ATT : Nat := 0x290006
/-- `CAL_SIG_T` (R342). -/
def CAL_SIG_T : Nat := 0x290007
/-- `PROP_QP` (R342). -/
def PROP_QP : Nat := 0x290008
/-- `PROP_QA` (R342). -/
def PROP_QA : Nat := 0x290009
/-- `WARM_REJ` (R342). -/
def WARM_REJ : Nat := 0x29000A
/-- `CLAMP_CNT` (R342). -/
def CLAMP_CNT : Nat := 0x29000B
/-- `OVF_CNT` (R342). -/
def OVF_CNT : Nat := 0x29000C
/-- `DL_CNT` (R342). -/
def DL_CNT : Nat := 0x29000D
/-- `MEAS_OVR` (R342). -/
def MEAS_OVR : Nat := 0x29000E
/-- `PROPOSALS` (R342). -/
def PROPOSALS : Nat := 0x29000F
/-- `PR_WRITES` (R342). -/
def PR_WRITES : Nat := 0x290010
/-- `CAL_PROP` (R342). -/
def CAL_PROP (sub : Nat) : Nat := 0x290100 + sub
/-- `TH_STATE` (R342). -/
def TH_STATE (i : Nat) : Nat := 0x291001 + 256 * i
/-- `TH_PROG` (R342). -/
def TH_PROG (i : Nat) : Nat := 0x291002 + 256 * i
/-- `TH_PROBLEMS` (R342). -/
def TH_PROBLEMS (i : Nat) : Nat := 0x291003 + 256 * i
/-- `TH_PARITY` (R342). -/
def TH_PARITY (i : Nat) : Nat := 0x291004 + 256 * i
/-- `WAITERS_USED` (R376). -/
def WAITERS_USED : Nat := 0x2A0001
/-- `WAITERS_PEAK` (R376). -/
def WAITERS_PEAK : Nat := 0x2A0002
/-- `TMO_CNT` (R376). -/
def TMO_CNT : Nat := 0x2A0003
/-- `POISON_CNT` (R376). -/
def POISON_CNT : Nat := 0x2A0004
/-- `SIG_REFUSED` (R376). -/
def SIG_REFUSED : Nat := 0x2A0005
/-- `NOWAIT_CNT` (R376). -/
def NOWAIT_CNT : Nat := 0x2A0006
/-- `BAL_EN` (R376). -/
def BAL_EN : Nat := 0x2A0007
/-- `BAL_FAIL` (R376). -/
def BAL_FAIL : Nat := 0x2A0008
/-- `BAL_LIST` (R376). -/
def BAL_LIST : Nat := 0x2A0009
/-- `CV_SEL` (R376). -/
def CV_SEL : Nat := 0x2A000A
/-- `CV_VIEW` (R376). -/
def CV_VIEW : Nat := 0x2A000B
/-- `WV_SEL` (R376). -/
def WV_SEL : Nat := 0x2A000C
/-- `WV_VIEW` (R376). -/
def WV_VIEW : Nat := 0x2A000D
/-- `CLAIM` (R376). -/
def CLAIM : Nat := 0x2A000E
/-- `UNCLAIM` (R376). -/
def UNCLAIM : Nat := 0x2A000F
/-- `LAST_TMO` (R376). -/
def LAST_TMO : Nat := 0x2A0010
/-- `BAD_WRITE` (R376). -/
def BAD_WRITE : Nat := 0x2A0011
/-- `HW_REQ` (R376). -/
def HW_REQ (i : Nat) : Nat := 0x2A0401 + 256 * i
/-- `HW_STAT` (R376). -/
def HW_STAT (i : Nat) : Nat := 0x2A0402 + 256 * i
/-- `HW_CANCEL` (R376). -/
def HW_CANCEL (i : Nat) : Nat := 0x2A0403 + 256 * i
/-- `TMO_REG` (R376). -/
def TMO_REG (i : Nat) (sub : Nat) : Nat := 0x2A1000 + 256 * i + sub
/-- `Q_BASE` (R394). -/
def Q_BASE (i : Nat) : Nat := 0x2B0001 + 256 * i
/-- `Q_LOG2` (R394). -/
def Q_LOG2 (i : Nat) : Nat := 0x2B0002 + 256 * i
/-- `Q_MODE` (R394). -/
def Q_MODE (i : Nat) : Nat := 0x2B0003 + 256 * i
/-- `Q_PROD` (R394). -/
def Q_PROD (i : Nat) : Nat := 0x2B0004 + 256 * i
/-- `Q_CONS` (R394). -/
def Q_CONS (i : Nat) : Nat := 0x2B0005 + 256 * i
/-- `Q_CAIRN` (R394). -/
def Q_CAIRN (i : Nat) : Nat := 0x2B0006 + 256 * i
/-- `Q_COUNT` (R394). -/
def Q_COUNT (i : Nat) : Nat := 0x2B0007 + 256 * i
/-- `Q_HELD` (R394). -/
def Q_HELD (i : Nat) : Nat := 0x2B0008 + 256 * i
/-- `Q_PEAK` (R394). -/
def Q_PEAK (i : Nat) : Nat := 0x2B0009 + 256 * i
/-- `Q_STAT` (R394). -/
def Q_STAT (i : Nat) : Nat := 0x2B000A + 256 * i
/-- `Q_COMMIT` (R394). -/
def Q_COMMIT (i : Nat) : Nat := 0x2B000B + 256 * i
/-- `Q_ABORT` (R394). -/
def Q_ABORT (i : Nat) : Nat := 0x2B000C + 256 * i
/-- `Q_MARK` (R394). -/
def Q_MARK (i : Nat) : Nat := 0x2B000D + 256 * i
/-- `Q_REWIND` (R394). -/
def Q_REWIND (i : Nat) : Nat := 0x2B000E + 256 * i
/-- `Q_RELEASE` (R394). -/
def Q_RELEASE (i : Nat) : Nat := 0x2B000F + 256 * i
/-- `Q_FLUSH` (R394). -/
def Q_FLUSH (i : Nat) : Nat := 0x2B0010 + 256 * i
/-- `Q_PTRS` (R394). -/
def Q_PTRS (i : Nat) : Nat := 0x2B0011 + 256 * i
/-- `OVR_CNT` (R394). -/
def OVR_CNT (i : Nat) : Nat := 0x2B0012 + 256 * i
/-- `PKT_DROP` (R394). -/
def PKT_DROP (i : Nat) : Nat := 0x2B0013 + 256 * i
/-- `FOREIGN` (R394). -/
def FOREIGN (i : Nat) : Nat := 0x2B0014 + 256 * i
/-- `Q_FREE` (R394). -/
def Q_FREE (i : Nat) : Nat := 0x2B0015 + 256 * i
/-- `Q_PUSH` (R394). -/
def Q_PUSH (i : Nat) : Nat := 0x2B0020 + 256 * i
/-- `Q_POP` (R394). -/
def Q_POP (i : Nat) : Nat := 0x2B0040 + 256 * i
/-- `QM_RESETS` (R394). -/
def QM_RESETS : Nat := 0x2B0080
/-- `QM_PARITY` (R394). -/
def QM_PARITY : Nat := 0x2B0081
/-- `QM_USED` (R394). -/
def QM_USED : Nat := 0x2B0082
/-- `MEM_INIT` (R423). -/
def MEM_INIT : Nat := 0x2C0001
/-- `CE_LOG` (R423). -/
def CE_LOG : Nat := 0x2C0002
/-- `ERR_POP` (R423). -/
def ERR_POP : Nat := 0x2C0003
/-- `ERR_COUNT` (R423). -/
def ERR_COUNT : Nat := 0x2C0004
/-- `LOG_LOST` (R423). -/
def LOG_LOST : Nat := 0x2C0005
/-- `WT_STATE` (R423). -/
def WT_STATE : Nat := 0x2C0006
/-- `WT_CLEAR` (R423). -/
def WT_CLEAR : Nat := 0x2C0007
/-- `WT_VERIFY` (R423). -/
def WT_VERIFY : Nat := 0x2C0008
/-- `WT_POISON` (R423). -/
def WT_POISON : Nat := 0x2C0009
/-- `CE_ROW_THR` (R423). -/
def CE_ROW_THR : Nat := 0x2C000A
/-- `REP_CAND` (R423). -/
def REP_CAND : Nat := 0x2C000B
/-- `SCRUB_REQ` (R423). -/
def SCRUB_REQ : Nat := 0x2C000C
/-- `SCRUB_SUM` (R423). -/
def SCRUB_SUM : Nat := 0x2C000D
/-- `SCRUB_QLEN` (R423). -/
def SCRUB_QLEN : Nat := 0x2C000E
/-- `SCRUB_POS` (R423). -/
def SCRUB_POS (i : Nat) : Nat := 0x2C0101 + 256 * i
/-- `SCRUB_PASSES` (R423). -/
def SCRUB_PASSES (i : Nat) : Nat := 0x2C0102 + 256 * i
/-- `SCRUB_LAST_NS` (R423). -/
def SCRUB_LAST_NS (i : Nat) : Nat := 0x2C0103 + 256 * i
/-- `FUSE_ROWS` (R423). -/
def FUSE_ROWS (i : Nat) : Nat := 0x2C0104 + 256 * i
/-- `FUSE_COLS` (R423). -/
def FUSE_COLS (i : Nat) : Nat := 0x2C0105 + 256 * i
/-- `SOFT_REP` (R423). -/
def SOFT_REP (i : Nat) : Nat := 0x2C0106 + 256 * i
/-- `SOFT_REJ` (R423). -/
def SOFT_REJ (i : Nat) : Nat := 0x2C0107 + 256 * i
/-- `FLIP_MASK` (R423). -/
def FLIP_MASK (i : Nat) : Nat := 0x2C1001 + 256 * i
/-- `FLIP_ADDR` (R423). -/
def FLIP_ADDR (i : Nat) : Nat := 0x2C1002 + 256 * i
/-- `FLIP_ARMED` (R423). -/
def FLIP_ARMED (i : Nat) : Nat := 0x2C1003 + 256 * i
/-- `CE_CNT` (R423). -/
def CE_CNT (i : Nat) : Nat := 0x2C1004 + 256 * i
/-- `UE_CNT` (R423). -/
def UE_CNT (i : Nat) : Nat := 0x2C1005 + 256 * i
/-- `AMM_CNT` (R423). -/
def AMM_CNT (i : Nat) : Nat := 0x2C1006 + 256 * i
/-- `PCIE_STATE` (R457). -/
def PCIE_STATE : Nat := 0x2D0001
/-- `PCIE_SPEED` (R457). -/
def PCIE_SPEED : Nat := 0x2D0002
/-- `PCIE_WIDTH` (R457). -/
def PCIE_WIDTH : Nat := 0x2D0003
/-- `PCIE_IDS` (R457). -/
def PCIE_IDS : Nat := 0x2D0004
/-- `HOST_HB` (R457). -/
def HOST_HB : Nat := 0x2D0005
/-- `HOST_TMO` (R457). -/
def HOST_TMO : Nat := 0x2D0006
/-- `HOST_LIVE` (R457). -/
def HOST_LIVE : Nat := 0x2D0007
/-- `AER_CE` (R457). -/
def AER_CE : Nat := 0x2D0008
/-- `AER_UE` (R457). -/
def AER_UE : Nat := 0x2D0009
/-- `PCIE_STALL` (R457). -/
def PCIE_STALL : Nat := 0x2D000A
/-- `PCIE_RESETS` (R457). -/
def PCIE_RESETS : Nat := 0x2D000B
/-- `DP_ADDR` (R457). -/
def DP_ADDR : Nat := 0x2D2001
/-- `DP_CTRL` (R457). -/
def DP_CTRL : Nat := 0x2D2002
/-- `DP_ERR` (R457). -/
def DP_ERR : Nat := 0x2D2003
/-- `DP_ERR_ADDR` (R457). -/
def DP_ERR_ADDR : Nat := 0x2D2004
/-- `DP_FENCE` (R457). -/
def DP_FENCE : Nat := 0x2D2008
/-- `DMA_MODE` (R457). -/
def DMA_MODE (i : Nat) : Nat := 0x2D4001 + 256 * i
/-- `DMA_STATE` (R457). -/
def DMA_STATE (i : Nat) : Nat := 0x2D4002 + 256 * i
/-- `DMA_ERR` (R457). -/
def DMA_ERR (i : Nat) : Nat := 0x2D4003 + 256 * i
/-- `DMA_FAULT` (R457). -/
def DMA_FAULT (i : Nat) : Nat := 0x2D4004 + 256 * i
/-- `DMA_RING_ALLOC` (R457). -/
def DMA_RING_ALLOC (i : Nat) : Nat := 0x2D4005 + 256 * i
/-- `DMA_RING_LOG2` (R457). -/
def DMA_RING_LOG2 (i : Nat) : Nat := 0x2D4006 + 256 * i
/-- `DMA_HEAD` (R457). -/
def DMA_HEAD (i : Nat) : Nat := 0x2D4007 + 256 * i
/-- `DMA_TAIL` (R457). -/
def DMA_TAIL (i : Nat) : Nat := 0x2D4008 + 256 * i
/-- `DMA_RESET` (R457). -/
def DMA_RESET (i : Nat) : Nat := 0x2D4009 + 256 * i
/-- `DMA_BYTES` (R457). -/
def DMA_BYTES (i : Nat) : Nat := 0x2D400A + 256 * i
/-- `LINK_STATE` (R457). -/
def LINK_STATE (i : Nat) : Nat := 0x2D9001 + 256 * i
/-- `LINK_PEER` (R457). -/
def LINK_PEER (i : Nat) : Nat := 0x2D9002 + 256 * i
/-- `COL_CRC` (R457). -/
def COL_CRC (i : Nat) : Nat := 0x2D9003 + 256 * i
/-- `COL_DOWNS` (R457). -/
def COL_DOWNS (i : Nat) : Nat := 0x2D9004 + 256 * i
/-- `RANGE_ID` (R457). -/
def RANGE_ID : Nat := 0x2DA001
/-- `RANGE_N` (R457). -/
def RANGE_N : Nat := 0x2DA002
/-- `ANCHOR` (R457). -/
def ANCHOR : Nat := 0x2DA003
/-- `PEER_ADMIT` (R457). -/
def PEER_ADMIT : Nat := 0x2DA004
/-- `MAP_SEL` (R457). -/
def MAP_SEL : Nat := 0x2DA005
/-- `MAP_CUR` (R457). -/
def MAP_CUR : Nat := 0x2DA006
/-- `XCH_FOREIGN` (R457). -/
def XCH_FOREIGN : Nat := 0x2DA007
/-- `MAP_MISMATCH` (R457). -/
def MAP_MISMATCH : Nat := 0x2DA008
/-- `REMOTE_FAIL` (R457). -/
def REMOTE_FAIL : Nat := 0x2DA009
/-- `DEVICE_TYPE` (R485). -/
def DEVICE_TYPE : Nat := 0x100000
/-- `ERROR_REG` (R485). -/
def ERROR_REG : Nat := 0x100100
/-- `DEVICE_NAME` (R485). -/
def DEVICE_NAME : Nat := 0x100800
/-- `HW_VERSION` (R485). -/
def HW_VERSION : Nat := 0x100900
/-- `SW_VERSION` (R485). -/
def SW_VERSION : Nat := 0x100A00
/-- `HEARTBEAT` (R485). -/
def HEARTBEAT : Nat := 0x101700
/-- `IDENTITY` (R485). -/
def IDENTITY (sub : Nat) : Nat := 0x101800 + sub
/-- `PRODUCT` (R485). -/
def PRODUCT : Nat := 0x200001
/-- `VARIANT` (R485). -/
def VARIANT : Nat := 0x200002
/-- `STEPPING` (R485). -/
def STEPPING : Nat := 0x200003
/-- `UID` (R485). -/
def UID : Nat := 0x200004
/-- `DEV_STATE` (R485). -/
def DEV_STATE : Nat := 0x200005
/-- `DEF_TMO` (R485). -/
def DEF_TMO : Nat := 0x200101
/-- `DEF_PEND` (R485). -/
def DEF_PEND : Nat := 0x200102
/-- `NODE_ID` (R485). -/
def NODE_ID : Nat := 0x200103
/-- `USDO_PORT` (R485). -/
def USDO_PORT : Nat := 0x200104
/-- `USDO_EN` (R485). -/
def USDO_EN : Nat := 0x200105
/-- `UDP_EN` (R485). -/
def UDP_EN : Nat := 0x200106
/-- `UDP_ALLOW` (R485). -/
def UDP_ALLOW : Nat := 0x200107
/-- `UDP_PORT` (R485). -/
def UDP_PORT : Nat := 0x200108
/-- `UDP_BAD` (R485). -/
def UDP_BAD : Nat := 0x200109
/-- `R_ABORT` (R485). -/
def R_ABORT (i : Nat) : Nat := 0x201001 + 256 * i
/-- `R_REASON` (R485). -/
def R_REASON (i : Nat) : Nat := 0x201002 + 256 * i
/-- `R_ENTRY` (R485). -/
def R_ENTRY (i : Nat) : Nat := 0x201003 + 256 * i
/-- `R_ABORTS` (R485). -/
def R_ABORTS (i : Nat) : Nat := 0x201004 + 256 * i
/-- `R_PEND` (R485). -/
def R_PEND (i : Nat) : Nat := 0x201005 + 256 * i
/-- `R_SHADOW` (R485). -/
def R_SHADOW (i : Nat) : Nat := 0x201006 + 256 * i
/-- `DW_TARGET` (R485). -/
def DW_TARGET (i : Nat) : Nat := 0x201007 + 256 * i
/-- `DW_LEN` (R485). -/
def DW_LEN (i : Nat) : Nat := 0x201008 + 256 * i
/-- `DW_GO` (R485). -/
def DW_GO (i : Nat) : Nat := 0x201009 + 256 * i
/-- `EI_SEL` (R485). -/
def EI_SEL (i : Nat) : Nat := 0x20100A + 256 * i
/-- `EI_VIEW` (R485). -/
def EI_VIEW (i : Nat) : Nat := 0x20100B + 256 * i
/-- `DW_BUF` (R485). -/
def DW_BUF (i : Nat) : Nat := 0x201400 + 256 * i
/-- `CMT_REC` (R485). -/
def CMT_REC : Nat := 0x2E1001
/-- `CMT_STATUS` (R485). -/
def CMT_STATUS : Nat := 0x2E1005
/-- `CMD_CTR` (R485). -/
def CMD_CTR : Nat := 0x2E1006
/-- `CMT_FAILS` (R485). -/
def CMT_FAILS : Nat := 0x2E1007
/-- `DOME_STATE` (R502). -/
def DOME_STATE : Nat := 0x2E0001
/-- `BOOT_STATUS` (R502). -/
def BOOT_STATUS : Nat := 0x2E0002
/-- `BOOT_COPY` (R502). -/
def BOOT_COPY : Nat := 0x2E0003
/-- `ROM_VER` (R502). -/
def ROM_VER : Nat := 0x2E0004
/-- `FW_RB` (R502). -/
def FW_RB : Nat := 0x2E0005
/-- `DOME_FLT` (R502). -/
def DOME_FLT : Nat := 0x2E0006
/-- `ID_PUB` (R502). -/
def ID_PUB : Nat := 0x2E0007
/-- `ID_CERT` (R502). -/
def ID_CERT : Nat := 0x2E0008
/-- `RB_CTR` (R502). -/
def RB_CTR : Nat := 0x2E0009
/-- `RB_ADV` (R502). -/
def RB_ADV : Nat := 0x2E000A
/-- `BOOT_OFF` (R502). -/
def BOOT_OFF : Nat := 0x2E000B
/-- `BOOT_GO` (R502). -/
def BOOT_GO : Nat := 0x2E000C
/-- `BOOT_CHUNK` (R502). -/
def BOOT_CHUNK : Nat := 0x2E0040
/-- `KEY_ENV` (R502). -/
def KEY_ENV : Nat := 0x2E0101
/-- `KEY_STATUS` (R502). -/
def KEY_STATUS : Nat := 0x2E0102
/-- `KEY_INFO` (R502). -/
def KEY_INFO : Nat := 0x2E0103
/-- `KEY_STORE` (R502). -/
def KEY_STORE : Nat := 0x2E0104
/-- `MR` (R502). -/
def MR (sub : Nat) : Nat := 0x2E0200 + sub
/-- `MR7_EXTEND` (R502). -/
def MR7_EXTEND : Nat := 0x2E0209
/-- `ATT_NONCE` (R502). -/
def ATT_NONCE : Nat := 0x2E020A
/-- `ATT_GO` (R502). -/
def ATT_GO : Nat := 0x2E020B
/-- `ATT_STATE` (R502). -/
def ATT_STATE : Nat := 0x2E020C
/-- `ATT_QUOTE` (R502). -/
def ATT_QUOTE : Nat := 0x2E020D
/-- `JTAG_LEVEL` (R502). -/
def JTAG_LEVEL : Nat := 0x2E0301
/-- `JTAG_REQ` (R502). -/
def JTAG_REQ : Nat := 0x2E0302
/-- `JTAG_CHAL` (R502). -/
def JTAG_CHAL : Nat := 0x2E0303
/-- `JTAG_RESP` (R502). -/
def JTAG_RESP : Nat := 0x2E0304
/-- `JTAG_STAT` (R502). -/
def JTAG_STAT : Nat := 0x2E0305
/-- `FK_PUB` (R502). -/
def FK_PUB (i : Nat) : Nat := 0x2E0401 + 256 * i
/-- `FK_USE` (R502). -/
def FK_USE (i : Nat) : Nat := 0x2E0402 + 256 * i
/-- `FK_REVOKED` (R502). -/
def FK_REVOKED (i : Nat) : Nat := 0x2E0403 + 256 * i
/-- `FK_REVOKE` (R502). -/
def FK_REVOKE (i : Nat) : Nat := 0x2E0404 + 256 * i
/-- `EVT_POP` (R524). -/
def EVT_POP : Nat := 0x2F0001
/-- `EVT_COUNT` (R524). -/
def EVT_COUNT : Nat := 0x2F0002
/-- `EVT_LOST` (R524). -/
def EVT_LOST : Nat := 0x2F0003
/-- `EVT_SUPP` (R524). -/
def EVT_SUPP : Nat := 0x2F0004
/-- `EVT_HOLDOFF` (R524). -/
def EVT_HOLDOFF : Nat := 0x2F0005
/-- `EVT_QUEUE` (R524). -/
def EVT_QUEUE : Nat := 0x2F0006
/-- `EVT_QLOST` (R524). -/
def EVT_QLOST : Nat := 0x2F0007
/-- `EVT_CAN_PORT` (R524). -/
def EVT_CAN_PORT : Nat := 0x2F0008
/-- `EVT_CAN_ID` (R524). -/
def EVT_CAN_ID : Nat := 0x2F0009
/-- `EVT_CAN_LOST` (R524). -/
def EVT_CAN_LOST : Nat := 0x2F000A
/-- `FAULT_CAUSE` (R524). -/
def FAULT_CAUSE : Nat := 0x2F000B
/-- `KEEPER_RESTARTS` (R524). -/
def KEEPER_RESTARTS : Nat := 0x2F000C
/-- `TJ_WARN` (R524). -/
def TJ_WARN : Nat := 0x2F000D
/-- `INJ_REQ` (R524). -/
def INJ_REQ : Nat := 0x2F000E
/-- `INJ_STATE` (R524). -/
def INJ_STATE : Nat := 0x2F000F
/-- `DET_CNT` (R524). -/
def DET_CNT (sub : Nat) : Nat := 0x2F0100 + sub
/-- `EVT_ROUTE` (R524). -/
def EVT_ROUTE (i : Nat) (sub : Nat) : Nat := 0x2F4000 + 256 * i + sub
/-- `LB_EN` (R524). -/
def LB_EN : Nat := 0x2F6001
/-- `LB_SLOTS` (R524). -/
def LB_SLOTS : Nat := 0x2F6002
/-- `LB_DP` (R524). -/
def LB_DP : Nat := 0x2F6003
/-- `LB_ALLOC` (R524). -/
def LB_ALLOC : Nat := 0x2F6004
/-- `LB_HOST_ADDR` (R524). -/
def LB_HOST_ADDR : Nat := 0x2F6005
/-- `LB_HOST_LOG2` (R524). -/
def LB_HOST_LOG2 : Nat := 0x2F6006
/-- `LB_HOST_WR` (R524). -/
def LB_HOST_WR : Nat := 0x2F6007
/-- `LB_HOST_RD` (R524). -/
def LB_HOST_RD : Nat := 0x2F6008
/-- `LB_CAIRN` (R524). -/
def LB_CAIRN : Nat := 0x2F6009
/-- `LB_DROP` (R524). -/
def LB_DROP : Nat := 0x2F600A
/-- `RP_GO` (R524). -/
def RP_GO : Nat := 0x2F7001
/-- `RP_STOP` (R524). -/
def RP_STOP : Nat := 0x2F7002
/-- `RP_STATE` (R524). -/
def RP_STATE : Nat := 0x2F7003
/-- `RP_HOST_ADDR` (R524). -/
def RP_HOST_ADDR : Nat := 0x2F7004
/-- `RP_HOST_LOG2` (R524). -/
def RP_HOST_LOG2 : Nat := 0x2F7005
/-- `RP_HOST_WR` (R524). -/
def RP_HOST_WR : Nat := 0x2F7006
/-- `RP_HOST_RD` (R524). -/
def RP_HOST_RD : Nat := 0x2F7007
/-- `RP_DIVERGED` (R524). -/
def RP_DIVERGED : Nat := 0x2F7008
/-- `RP_LIVE_DROP` (R524). -/
def RP_LIVE_DROP : Nat := 0x2F7009
/-- `PD_STATE` (R541). -/
def PD_STATE : Nat := 0x300001
/-- `PD_ON` (R541). -/
def PD_ON : Nat := 0x300002
/-- `PD_OFF` (R541). -/
def PD_OFF : Nat := 0x300003
/-- `PD_AVAIL` (R541). -/
def PD_AVAIL : Nat := 0x300004
/-- `PD_ERR` (R541). -/
def PD_ERR : Nat := 0x300005
/-- `CLK_LOCK` (R541). -/
def CLK_LOCK : Nat := 0x300006
/-- `CLK_FAULT` (R541). -/
def CLK_FAULT : Nat := 0x300007
/-- `ENV_HOLD` (R541). -/
def ENV_HOLD : Nat := 0x300008
/-- `VMON_FLT` (R541). -/
def VMON_FLT : Nat := 0x300009
/-- `TJ_NOW` (R541). -/
def TJ_NOW : Nat := 0x30000A
/-- `TJ_PEAK` (R541). -/
def TJ_PEAK : Nat := 0x30000B
/-- `RST_CAUSE` (R541). -/
def RST_CAUSE : Nat := 0x30000C
/-- `RST_COUNT` (R541). -/
def RST_COUNT : Nat := 0x30000D
/-- `FLASH_BUSY` (R541). -/
def FLASH_BUSY : Nat := 0x30000E
/-- `QSPI_RATE` (R541). -/
def QSPI_RATE : Nat := 0x30000F
/-- `SW_RESET` (R541). -/
def SW_RESET : Nat := 0x300010
/-- `STARTUP_NS` (R541). -/
def STARTUP_NS : Nat := 0x300011
/-- `PIN_SAFE` (R542). -/
def PIN_SAFE : Nat := 0x310001
/-- `SAFE_DRV` (R542). -/
def SAFE_DRV : Nat := 0x310002
/-- `PIN_FAULT` (R542). -/
def PIN_FAULT : Nat := 0x310003
/-- `PIN_HB` (R542). -/
def PIN_HB : Nat := 0x310004
/-- `PIN_BOOT` (R542). -/
def PIN_BOOT : Nat := 0x310005
/-- `PIN_SYSRST` (R542). -/
def PIN_SYSRST : Nat := 0x310006

end Sys2Proof.Machine.R
end

