-- ==== Sys2Proof/Machine/SMap.lean ====
section
/-! DEFINITION. Reading and writing a sparse map in canonical form. `d k` is what an unlisted key `k` reads as. -/
namespace Sys2Proof.Machine

/-- The value at `k`. -/
def smGet {α : Type} (d : Nat → α) : SMap α → Nat → α
  | [], k => d k
  | (k', v) :: m, k => if k = k' then v else smGet d m k

/-- `m` without the entries of `k`. -/
def smDel {α : Type} : SMap α → Nat → SMap α
  | [], _ => []
  | (k', v) :: m, k => if k = k' then smDel m k else (k', v) :: smDel m k

/-- `m` with an entry for `k` before the first greater key. -/
def smIns {α : Type} : SMap α → Nat → α → SMap α
  | [], k, v => [(k, v)]
  | (k', v') :: m, k, v => if k < k' then (k, v) :: (k', v') :: m else (k', v') :: smIns m k v

/-- Write `v` at `k`: the value an unlisted key reads as leaves no entry. -/
def smSet {α : Type} [DecidableEq α] (d : Nat → α) (m : SMap α) (k : Nat) (v : α) : SMap α :=
  if v = d k then smDel m k else smIns (smDel m k) k v

/-- The keys are at least `lo` and strictly rising, and no entry holds the unlisted value. -/
def smWfFrom {α : Type} [DecidableEq α] (d : Nat → α) : Nat → SMap α → Bool
  | _, [] => true
  | lo, (k, v) :: m => decide (lo ≤ k) && !decide (v = d k) && smWfFrom d (k + 1) m

/-- The canonical form: keys strictly rising and no entry equal to the unlisted value. -/
def smWf {α : Type} [DecidableEq α] (d : Nat → α) (m : SMap α) : Bool := smWfFrom d 0 m

/-- Drop every entry whose key satisfies `p`. -/
def smDrop {α : Type} (p : Nat → Bool) : SMap α → SMap α
  | [] => []
  | (k, v) :: m => if p k then smDrop p m else (k, v) :: smDrop p m

end Sys2Proof.Machine
end

