-- ==== Sys2Proof/Machine/UnitsCore.lean ====
section
/-! DEFINITION. The parts of the state that the dictionary does not show: power and reset (chapter 19), Dome (17),
events, recording and replay (18), memory protection (14), the dictionary's routes (16), the host interface, DMA and
the Col links (15). Every register that has a dictionary entry is held in `State.dict`. -/
namespace Sys2Proof.Machine

/-! ### Outputs -/

/-- What the block sends out of itself while it carries out a command: MSI-X messages, frames, datagrams, flits, host
reads and their data, and the completion of a read or write on a route.
[DESIGN CHOICE, log entry 7] -/
inductive Out where
  | msix (vector : Nat)
  | canFrame (ctrl id : Nat) (data : Bytes)
  | ethFrame (port : Nat) (data : Bytes)
  | ptp (port : Nat) (typ : PtpType) (msg : PtpMsg)
  | spiStart (m : Nat)
  | usdo (ok : Bool) (code : Nat) (data : Bytes)
  | udp (srcIp srcPort : Nat) (data : Bytes)
  | hostRead (route : Nat) (ok : Bool) (poison : Bool) (data : Bytes)
  | pcieWrite (addr : Nat) (data : Bytes)
  | flit (link : Nat) (typ agent src dst tag addr : Nat) (poison : Bool) (payload : Bytes)
  | popData (agent : Nat) (poison : Bool) (data : Bytes)
  | nmt (state : Nat)
  | tio (n : Nat) (level : Bool)
deriving DecidableEq, Repr

/-! ### Power, clocks, reset -/

/-- Power and reset (R526 to R538): `PORST_N` low, the ROM sequence run since the release, domains switching on, off
requests that wait for them, the clocks that D008 stops, `XTAL25` replaced by the internal oscillator, `VPP_FUSE`
present, the domains an admitted image names (R527), booted from copy B, Keeper's initialisation pass begun, the
schedule image still to be loaded from flash (0 none), TCLK at the reset release. -/
structure Power where
  porstLow : Bool
  booted : Bool
  switching : List Nat
  offPending : List Nat
  clkStopped : Bool
  refInternal : Bool
  vppFuse : Bool
  usedDomains : Nat
  bootB : Bool
  passesOn : Bool
  schedOff : Nat
  startTclk : Nat
deriving DecidableEq, Repr

/--
[DESIGN CHOICE, log entry 3] -/
def Power.reset : Power :=
  { porstLow := false, booted := false, switching := [], offPending := [], clkStopped := false,
    refInternal := false, vppFuse := false, usedDomains := 0, bootB := false, passesOn := false,
    schedOff := 0, startTclk := 0 }

/-! ### Dome -/

/-- A fuse key slot FK0–FK3 (R488). -/
structure FuseSlot where
  pub : Bytes
  use : Nat
  revoked : Bool
deriving DecidableEq, Repr

/-- A command key (R498): state 0 none, 1 installed, 2 revoked. -/
structure CmdKey where
  key : Bytes
  scope : Nat
  gen : Nat
  st : Nat
deriving DecidableEq, Repr

def CmdKey.none : CmdKey := { key := [], scope := 0, gen := 0, st := 0 }

/-- What survives every reset: fuses (R488, R489, R495) and the boot flash (R491, R492, R540). The key store and the
counter record of the flash are held as what they unwrap to. -/
structure NonVolatile where
  slots : SMap FuseSlot
  rollback : SMap Nat
  uid : Nat
  provKey : Option Bytes
  uds : Bytes
  pufKey : Bytes
  idCert : Nat
  romVer : Nat
  vendorId : Nat
  serial : Nat
  pcieIds : Nat
  fuseRows : SMap Nat
  fuseCols : SMap Nat
  flashPresent : Bool
  flash : SMap Byte
  flashKeys : SMap CmdKey
  flashRc : Nat
deriving DecidableEq, Repr

/-- A fuse slot as it leaves test: FK0 holds Sceldoel's firmware key (use bit 0), the others are blank.
[DESIGN CHOICE, log entry 3] -/
def fuseSlotDflt (k : Nat) : FuseSlot :=
  { pub := List.replicate 57 0, use := if k = 0 then 1 else 0, revoked := false }

/--
[DESIGN CHOICE, log entry 3] -/
def NonVolatile.reset : NonVolatile :=
  { slots := [], rollback := [], uid := 0, provKey := none, uds := [], pufKey := List.replicate 32 0, idCert := 0,
    romVer := 0, vendorId := 0, serial := 0, pcieIds := 0, fuseRows := [], fuseCols := [], flashPresent := false,
    flash := [], flashKeys := [], flashRc := 0 }

/-- The accepted boot image header (R492) as the ROM keeps it, with the firmware digest it must match. -/
structure BootImage where
  header : Bytes
  rbIndex : Nat
  rbValue : Nat
  schedOff : Nat
  repair : List Nat
  keyStore : Bytes
deriving DecidableEq, Repr

/-- A quote being built (R497): the snapshot with its signature still to come. -/
structure Dome where
  staging : SMap Byte
  boot : Option BootImage
  hostBoot : Bool
  keys : SMap CmdKey
  keysErased : Bool
  level2Since : Bool
  quote : Option Bytes
  envelope : Option Bytes
  jtagLevel : Nat
  jtagInstr : JtagInstr
  chal : Option (Bytes × Nat × Nat)
  burn : Option (Nat × Nat)
  rc : Nat
  waitCommit : Option (Nat × Nat × Nat × CommitRec)
deriving DecidableEq, Repr

def Dome.reset : Dome :=
  { staging := [], boot := none, hostBoot := false, keys := [], keysErased := false, level2Since := false,
    quote := none, envelope := none, jtagLevel := 0, jtagInstr := .bypass, chal := none, burn := none, rc := 0,
    waitCommit := none }

/-! ### Events, Logbook, replay -/

/-- An event as a unit raises it (R504, R505), before R507 is applied. -/
structure RawEvent where
  code : Nat
  agent : Nat
  arg0 : Nat
  arg1 : Nat
deriving DecidableEq, Repr

/-- An event record of the event log, 32 bytes as one number (R504). -/
abbrev EventRecord := Nat

/-- Diagnostics (R504 to R515). `raised` are the events of the current command, taken in order by R507; `inj` the armed
injection (detector, instance, TCLK); `parity8` the times of a cirque's last `PARITY` traps, `failDue` that D018 fired in
this command. -/
structure Diag where
  raised : List RawEvent
  log : List EventRecord
  seqNo : Nat
  lost : Bool
  hold : SMap Nat
  canQ : List EventRecord
  inj : Option (Nat × Nat × Nat)
  restarts : List Nat
  keeperRun : Bool
  keeperHeld : Bool
  parity8 : SMap (List Nat)
  failDue : Bool
deriving DecidableEq, Repr

def Diag.reset : Diag :=
  { raised := [], log := [], seqNo := 0, lost := false, hold := [], canQ := [], inj := none, restarts := [],
    keeperRun := false, keeperHeld := false, parity8 := [], failDue := false }

/-- The Logbook (R516 to R522): the DRAM ring, the run of drops, the records read for replay, where the replay began, and
Meridian's live accumulator while it runs (seconds, nanoseconds, fraction, `RATE_ADJ`, state and step count, TCLK). -/
structure Logbook where
  ring : List LbRec
  rseq : Nat
  gap : Option (Nat × Nat × Nat)
  dropRun : Bool
  lastBase : Nat
  rpRecs : List LbRec
  rpStart : Nat
  rpFirst : Nat
  live : Option (Nat × Nat × Nat × Nat × Nat × Nat)
deriving DecidableEq, Repr

def Logbook.reset : Logbook :=
  { ring := [], rseq := 0, gap := none, dropRun := false, lastBase := 0, rpRecs := [], rpStart := 0, rpFirst := 0,
    live := none }

/-! ### Memory protection -/

/-- What is wrong with a stored word: the difference from the code word of its data (bits 127:0 data, 143:128 check;
for parity memories bits 63:0 data, 71:64 parity) and the poison mark (R402 to R404). -/
structure WordErr where
  mask : Nat
  poison : Bool
deriving DecidableEq, Repr

def WordErr.none : WordErr := { mask := 0, poison := false }

/-- A requested pass (R411): start, length, correct. -/
structure PassReq where
  start : Nat
  len : Nat
  correct : Bool
deriving DecidableEq, Repr

/-- Memory and its protection (chapter 14): bytes by local address, word errors by word key, open stores by bit,
scrubber positions per scrubber and channel, pass requests, the error log, corrected errors per row, armed flip masks,
repaired rows, the verification in progress. -/
structure Memory where
  bytes : SMap Byte
  werr : SMap WordErr
  openMask : Nat
  scrubPos : SMap Nat
  scrubStart : SMap Nat
  passes : List PassReq
  passStart : Nat
  errLog : List Nat
  lostSinceEmpty : Bool
  rowCe : SMap Nat
  cand : List Nat
  repaired : List Nat
  repPerBank : SMap Nat
  verify : Option Nat
  degradedEnds : Bool
deriving DecidableEq, Repr

def Memory.reset : Memory :=
  { bytes := [], werr := [], openMask := 0, scrubPos := [], scrubStart := [], passes := [], passStart := 0,
    errLog := [], lostSinceEmpty := false, rowCe := [], cand := [], repaired := [], repPerBank := [], verify := none,
    degradedEnds := false }

/-- Local memory bytes an unlisted address reads as: the zero that the initialisation pass writes (R406, R380).
[DESIGN CHOICE, log entry 6] -/
def memDflt (_ : Nat) : Byte := 0

/-- The canonical form of memory.
[DESIGN CHOICE, log entry 6] -/
def Memory.wf (m : Memory) : Bool := smWf memDflt m.bytes

/-! ### Dictionary routes -/

/-- A deferred request (R475): the route and the request itself. -/
inductive DefReq where
  | write (idx sub : Nat) (data : Bytes)
  | dwRead (k idx sub : Nat)
  | dwWrite (k idx sub : Nat) (data : Bytes)
  | usdoRead (idx sub : Nat)
  | cellRead (idx sub lo n : Nat)
  | udpRead (req : UdpReq)
  | allocNew (data : Bytes)
  | allocFree (id : Nat)
  | descNew (data : Bytes)
  | descFree (h : Nat)
  | copyNew (data : Bytes)
  | copyFree (id : Nat)
  | imgLoad
  | almClone
  | wtClear (id : Nat)
  | commit (idx sub : Nat) (cr : CommitRec)
deriving DecidableEq, Repr

/-- A USDO session (R469): target, whether it is a download, the bytes so far or still to send, last segment TCLK. -/
structure UsdoSession where
  idx : Nat
  sub : Nat
  download : Bool
  data : Bytes
  last : Nat
deriving DecidableEq, Repr

/-- A stored UDP response (R471): source, transaction, response. -/
structure UdpLast where
  txn : Nat
  resp : Bytes
deriving DecidableEq, Repr

/-- The dictionary's routes (chapter 16). `started` is the deferred request that Keeper serves, with the reason its effect answered
when that has happened already; `pendSettings` the settings that wait for their route to be idle (R485 note (a)); `latch` the
data port's latch, the cell and its bytes 4 to 7 (R462); `udpPend` the UDP write whose answer Keeper's request of route 3
will bring (R470, R475). -/
structure Routes where
  shadow : SMap (Option (Nat × Bytes))
  dwBuf : SMap Bytes
  queue : List (Nat × DefReq × Nat)
  started : Option (Nat × DefReq × Option Nat)
  failRun : Nat
  lockUntil : Option Nat
  usdo : Option UsdoSession
  nmt : Nat
  udpLast : SMap UdpLast
  udpPend : Option UdpReq
  udpBadSec : Option Nat
  pendSettings : SMap Nat
  lastBeat : Nat
  latch : Option (Nat × Bytes)
deriving DecidableEq, Repr

def Routes.reset : Routes :=
  { shadow := [], dwBuf := [], queue := [], started := none, failRun := 0, lockUntil := none, usdo := none,
    nmt := 127, udpLast := [], udpPend := none, udpBadSec := none, pendSettings := [], lastBeat := 0, latch := none }

/-! ### Host interface, DMA, Col links -/

/-- A DMA transfer record in hand (R438): its fields and how far it moved. -/
structure DmaCur where
  word : Nat
  moved : Bool
deriving DecidableEq, Repr

/-- A remote access not yet answered (R448): tag, agent, read or write, where a read's data goes, when it started. -/
structure RemoteAcc where
  tag : Nat
  agent : Nat
  write : Bool
  addr : Nat
  len : Nat
  dest : Nat
  start : Nat
deriving DecidableEq, Repr

/-- A peer of the Range as its exchange flits show it (R162, R163, R452). -/
structure Peer where
  rid : Nat
  lastXch : Option Nat
  hostLive : Bool
  failed : Bool
  mapNo : Nat
deriving DecidableEq, Repr

/-- One access of the data port on its way (R433, R434): a device address, a length, and what a write carries. -/
structure DpItem where
  addr : Nat
  len : Nat
  data : Option Bytes
deriving DecidableEq, Repr

/-- A data-port access in progress: what is left of it, the data of a read so far, whether any was poisoned, whether a pop
of it has ended without a word (R390), whether a word failed. -/
structure DpRun where
  left : List DpItem
  got : Bytes
  poison : Bool
  ended : Bool
  bad : Bool
deriving DecidableEq, Repr

/-- Host interface, DMA and Col links (chapter 15). -/
structure HostIf where
  bme : Bool
  d3hot : Bool
  funcMask : Bool
  vecMask : SMap Bool
  vecPend : SMap Bool
  readAhead : List (Nat × Bytes)
  dpRun : Option DpRun
  dma : SMap (Option DmaCur)
  hbTime : Option Nat
  remote : List RemoteAcc
  seqRx : SMap Nat
  seqTx : SMap Nat
  badRun : SMap Nat
  linkImage : SMap Nat
  mapPend : Option (Nat × Nat)
  admitPend : Option (Nat × Nat)
  rangeId : Nat
  peers : SMap Peer
deriving DecidableEq, Repr

def HostIf.reset : HostIf :=
  { bme := false, d3hot := false, funcMask := false, vecMask := [], vecPend := [], readAhead := [], dpRun := none,
    dma := [], hbTime := none, remote := [], seqRx := [], seqTx := [], badRun := [], linkImage := [], mapPend := none,
    admitPend := none, rangeId := 0, peers := [] }

end Sys2Proof.Machine
end

