-- ==== Sys2Proof/Machine/Fp.lean ====
section
/-! DEFINITION. Exact dyadic numbers, and binary floating-point formats as bit patterns (R7, R184, R185). -/
namespace Sys2Proof.Machine

/-- The dyadic number `m` × 2^`e`. -/
structure Dy where
  m : Int
  e : Int
deriving DecidableEq, Repr

namespace Dy

def zero : Dy := { m := 0, e := 0 }

def ofInt (i : Int) : Dy := { m := i, e := 0 }

/-- `m` scaled by a power of two that must not be negative. -/
def shl (m k : Int) : Int := m * (2 : Int) ^ k.toNat

def add (a b : Dy) : Dy :=
  if a.e ≤ b.e then { m := a.m + shl b.m (b.e - a.e), e := a.e } else { m := shl a.m (a.e - b.e) + b.m, e := b.e }

def neg (a : Dy) : Dy := { m := -a.m, e := a.e }

def sub (a b : Dy) : Dy := add a (neg b)

def mul (a b : Dy) : Dy := { m := a.m * b.m, e := a.e + b.e }

def abs (a : Dy) : Dy := { m := Int.natAbs a.m, e := a.e }

def lt (a b : Dy) : Bool := decide ((sub a b).m < 0)

def le (a b : Dy) : Bool := decide ((sub a b).m ≤ 0)

def isZero (a : Dy) : Bool := a.m == 0

/-- Scale by a power of two. -/
def scale (a : Dy) (k : Int) : Dy := { m := a.m, e := a.e + k }

/-- The integer part toward minus infinity. -/
def floor (a : Dy) : Int := if 0 ≤ a.e then shl a.m a.e else a.m / (2 : Int) ^ (-a.e).toNat

/-- The nearest integer, ties to even. -/
def roundEven (a : Dy) : Int :=
  let f := a.floor
  let d := sub (scale (sub a (ofInt f)) 1) (ofInt 1)
  if d.m < 0 then f else if 0 < d.m then f + 1 else if f % 2 = 0 then f else f + 1

end Dy

/-- How a value that lies between two representable ones is rounded: to nearest with ties to even, or stochastically
with the 16-bit draw `u` (R184, R185). -/
inductive Rounding where
  | even
  | stoch (u : Nat)
deriving DecidableEq, Repr

/-- A binary format: exponent bits and stored mantissa bits; `ieee` says that the top exponent holds infinities and
NaN. -/
structure FpFmt where
  eb : Nat
  mb : Nat
  ieee : Bool
deriving DecidableEq, Repr

def fp32 : FpFmt := { eb := 8, mb := 23, ieee := true }
def fp64 : FpFmt := { eb := 11, mb := 52, ieee := true }
def fp16 : FpFmt := { eb := 5, mb := 10, ieee := true }
def bf16 : FpFmt := { eb := 8, mb := 7, ieee := true }

namespace FpFmt

def bias (f : FpFmt) : Nat := 2 ^ (f.eb - 1) - 1

def signBit (f : FpFmt) : Nat := 2 ^ (f.eb + f.mb)

def infBits (f : FpFmt) : Nat := (2 ^ f.eb - 1) * 2 ^ f.mb

/-- The canonical NaN of an IEEE format: quiet, positive. -/
def nanBits (f : FpFmt) : Nat := f.infBits + 2 ^ (f.mb - 1)

end FpFmt

/-- A decoded floating-point value; a zero keeps its sign. -/
inductive FpVal where
  | num (neg : Bool) (d : Dy)
  | inf (neg : Bool)
  | nan
deriving DecidableEq, Repr

/-- Decode a bit pattern of a format. -/
def fpDecode (f : FpFmt) (bits : Nat) : FpVal :=
  let neg := bits.testBit (f.eb + f.mb)
  let ex := bits / 2 ^ f.mb % 2 ^ f.eb
  let man := bits % 2 ^ f.mb
  if f.ieee && ex = 2 ^ f.eb - 1 then (if man = 0 then .inf neg else .nan)
  else
    let m : Int := if ex = 0 then man else man + 2 ^ f.mb
    let e : Int := (if ex = 0 then 1 else (ex : Int)) - f.bias - f.mb
    .num neg { m := if neg then -m else m, e := e }

/-- The magnitude in units of 2^`q`, rounded. -/
def roundMag (rm : Rounding) (m : Nat) (sh : Int) : Nat :=
  -- m * 2^sh
  if 0 ≤ sh then m * 2 ^ sh.toNat
  else
    let k := (-sh).toNat
    let lo := m / 2 ^ k
    let rest := m % 2 ^ k
    match rm with
    | .even => if 2 * rest < 2 ^ k then lo else if 2 ^ k < 2 * rest then lo + 1 else if lo % 2 = 0 then lo else lo + 1
    | .stoch u => if u < rest * 2 ^ 16 / 2 ^ k then lo + 1 else lo

/-- The bits of |`d`| in a format without its sign, before any test for overflow: the rounded magnitude as
(exponent field, mantissa) packed with an unbounded exponent. Stochastic rounding of a negative value counts from the
next lower representable value (R185). -/
def fpPack (f : FpFmt) (rm : Rounding) (d : Dy) : Nat :=
  let a := d.m.natAbs
  if a = 0 then 0
  else
    let top : Int := (Nat.log2 a : Int) + d.e
    let emin : Int := 1 - f.bias
    let q : Int := max top emin - f.mb
    let rm' := match rm with
      | .even => Rounding.even
      | .stoch u => .stoch u
    let r :=
      if d.m < 0 then match rm' with
        | .even => roundMag .even a (d.e - q)
        | .stoch u =>
          -- the distance above the next lower value is 1 − the fraction of the magnitude
          let sh := d.e - q
          if 0 ≤ sh then a * 2 ^ sh.toNat
          else
            let k := (-sh).toNat
            let lo := a / 2 ^ k
            let rest := a % 2 ^ k
            if rest = 0 then lo else if u < (2 ^ k - rest) * 2 ^ 16 / 2 ^ k then lo else lo + 1
      else roundMag rm' a (d.e - q)
    if top < emin then r
    else ((q + f.mb + f.bias).toNat) * 2 ^ f.mb + (r - 2 ^ f.mb)

/-- Round a dyadic number to an IEEE format; a zero result takes the sign `neg0` when the value is exactly 0. -/
def fpRoundWith (f : FpFmt) (rm : Rounding) (neg0 : Bool) (d : Dy) : Nat :=
  let neg := if d.m = 0 then neg0 else decide (d.m < 0)
  let p := fpPack f rm d
  (if neg then f.signBit else 0) + min p f.infBits

/-- Round to nearest, ties to even. -/
def fpRound (f : FpFmt) (d : Dy) : Nat := fpRoundWith f .even false d

/-- The dyadic number of a finite bit pattern; 0 for infinities and NaN. -/
def fpDy (f : FpFmt) (bits : Nat) : Dy := match fpDecode f bits with
  | .num _ d => d
  | _ => Dy.zero

/-- A quotient of dyadic numbers rounded to nearest in a format: enough bits of the exact quotient and a sticky bit. -/
def fpDivRound (f : FpFmt) (a b : Dy) : Nat :=
  if b.m = 0 then (if a.m < 0 then f.signBit else 0) + f.infBits
  else
    let k := f.mb + 4 + Nat.log2 b.m.natAbs
    let n := a.m.natAbs * 2 ^ k
    let q := n / b.m.natAbs
    let sticky := if n % b.m.natAbs = 0 then 0 else 1
    let m : Int := (2 * q + sticky : Nat)
    let neg := decide (a.m < 0) != decide (b.m < 0)
    fpRoundWith f .even neg { m := if neg then -m else m, e := a.e - b.e - k - 1 }

/-- A bit pattern is finite. -/
def fpFinite (f : FpFmt) (bits : Nat) : Bool := match fpDecode f bits with
  | .num _ _ => true
  | _ => false

end Sys2Proof.Machine
end

