-- ==== Sys2Proof/Machine/Fx.lean ====
section
/-! DEFINITION. Real numbers in fixed point, in units of 2^−128, with the functions that poses need: square root, sine,
cosine, arctangent, quaternions (R113, R116, R138). Where the spec asks for the exact result, these stand for it; their
own error is below 2^−100. -/
namespace Sys2Proof.Machine

/-- A real number in units of 2^−128. -/
abbrev Fx := Int

namespace Fx

abbrev one : Fx := 2 ^ 128

def ofDy (d : Dy) : Fx := (d.scale 128).floor

def toDy (a : Fx) : Dy := { m := a, e := -128 }

def ofInt (i : Int) : Fx := i * one

def mul (a b : Fx) : Fx := a * b / one

def div (a b : Fx) : Fx := if b = 0 then 0 else a * one / b

/-- `num / den` of integers. -/
def ofRat (num den : Int) : Fx := if den = 0 then 0 else num * one / den

/-- The square root of a natural number, by bits from `2^k` down. -/
def isqrtBits : Nat → Nat → Nat → Nat
  | 0, _, r => r
  | k + 1, n, r => let t := r + 2 ^ k; isqrtBits k n (if t * t ≤ n then t else r)

/-- The integer square root. -/
def isqrt (n : Nat) : Nat := isqrtBits (Nat.log2 n / 2 + 1) n 0

def sqrt (a : Fx) : Fx := if a ≤ 0 then 0 else (isqrt (a.toNat * 2 ^ 128) : Int)

/-- π in units of 2^−128. -/
def pi : Fx := 1069028584064966747859680373161870783300

/-- The terms of a power series x^k/k! with alternating signs, from the term `t` of index `k`. -/
def trigSeries : Nat → Fx → Fx → Nat → Fx
  | 0, _, _, _ => 0
  | n + 1, x2, t, k => t - trigSeries n x2 (mul t x2 / (((k + 1) * (k + 2) : Nat) : Int)) (k + 2)

/-- Reduce an angle to −π..π. -/
def reduce (x : Fx) : Fx :=
  let y := Int.emod (x + pi) (2 * pi)
  y - pi

def sin (x : Fx) : Fx := let y := reduce x; trigSeries 40 (mul y y) y 1

def cos (x : Fx) : Fx := let y := reduce x; trigSeries 40 (mul y y) one 0

/-- The arctangent series for small arguments. -/
def atanSeries : Nat → Fx → Fx → Nat → Fx
  | 0, _, _, _ => 0
  | n + 1, x2, t, k => t / (k : Int) - atanSeries n x2 (mul t x2) (k + 2)

/-- The half-angle step of the arctangent: x / (1 + √(1 + x²)). -/
def atanHalf (x : Fx) : Fx := div x (one + sqrt (one + mul x x))

/-- The arctangent of an argument of any size. -/
def atan (x : Fx) : Fx :=
  let y := atanHalf (atanHalf (atanHalf x))
  8 * atanSeries 48 (mul y y) y 1

/-- The angle of the point (x, y). -/
def atan2 (y x : Fx) : Fx :=
  if 0 < x then atan (div y x)
  else if x < 0 then (if 0 ≤ y then atan (div y x) + pi else atan (div y x) - pi)
  else if 0 < y then pi / 2 else if y < 0 then -(pi / 2) else 0

end Fx

/-- A vector. -/
structure V3 where
  x : Fx
  y : Fx
  z : Fx
deriving DecidableEq, Repr

namespace V3

def zero : V3 := { x := 0, y := 0, z := 0 }
def add (a b : V3) : V3 := { x := a.x + b.x, y := a.y + b.y, z := a.z + b.z }
def sub (a b : V3) : V3 := { x := a.x - b.x, y := a.y - b.y, z := a.z - b.z }
def smul (k : Fx) (a : V3) : V3 := { x := Fx.mul k a.x, y := Fx.mul k a.y, z := Fx.mul k a.z }
def cross (a b : V3) : V3 :=
  { x := Fx.mul a.y b.z - Fx.mul a.z b.y, y := Fx.mul a.z b.x - Fx.mul a.x b.z, z := Fx.mul a.x b.y - Fx.mul a.y b.x }
def dot (a b : V3) : Fx := Fx.mul a.x b.x + Fx.mul a.y b.y + Fx.mul a.z b.z
def norm (a : V3) : Fx := Fx.sqrt (dot a a)

end V3

/-- A unit quaternion. -/
structure Quat where
  w : Fx
  x : Fx
  y : Fx
  z : Fx
deriving DecidableEq, Repr

namespace Quat

def one : Quat := { w := Fx.one, x := 0, y := 0, z := 0 }
def conj (a : Quat) : Quat := { w := a.w, x := -a.x, y := -a.y, z := -a.z }
def neg (a : Quat) : Quat := { w := -a.w, x := -a.x, y := -a.y, z := -a.z }
def dot (a b : Quat) : Fx := Fx.mul a.w b.w + Fx.mul a.x b.x + Fx.mul a.y b.y + Fx.mul a.z b.z
def smul (k : Fx) (a : Quat) : Quat := { w := Fx.mul k a.w, x := Fx.mul k a.x, y := Fx.mul k a.y, z := Fx.mul k a.z }
def add (a b : Quat) : Quat := { w := a.w + b.w, x := a.x + b.x, y := a.y + b.y, z := a.z + b.z }
def mul (a b : Quat) : Quat :=
  { w := Fx.mul a.w b.w - Fx.mul a.x b.x - Fx.mul a.y b.y - Fx.mul a.z b.z
    x := Fx.mul a.w b.x + Fx.mul a.x b.w + Fx.mul a.y b.z - Fx.mul a.z b.y
    y := Fx.mul a.w b.y - Fx.mul a.x b.z + Fx.mul a.y b.w + Fx.mul a.z b.x
    z := Fx.mul a.w b.z + Fx.mul a.x b.y - Fx.mul a.y b.x + Fx.mul a.z b.w }
def norm (a : Quat) : Fx := Fx.sqrt (dot a a)
def normalize (a : Quat) : Quat :=
  let n := norm a
  if n = 0 then one else { w := Fx.div a.w n, x := Fx.div a.x n, y := Fx.div a.y n, z := Fx.div a.z n }

/-- The vector rotated by the quaternion. -/
def rotate (q : Quat) (v : V3) : V3 :=
  let u : V3 := { x := q.x, y := q.y, z := q.z }
  let t := V3.smul (2 * Fx.one) (V3.cross u v)
  V3.add (V3.add v (V3.smul q.w t)) (V3.cross u t)

/-- The rotation of a rotation vector: Exp (R113). -/
def exp (v : V3) : Quat :=
  let a := V3.norm v
  if a = 0 then one
  else
    let s := Fx.div (Fx.sin (a / 2)) a
    { w := Fx.cos (a / 2), x := Fx.mul s v.x, y := Fx.mul s v.y, z := Fx.mul s v.z }

/-- The rotation angle of a unit quaternion, 0 to π. -/
def angle (q : Quat) : Fx :=
  let w := if q.w < 0 then -q.w else q.w
  2 * Fx.atan2 (V3.norm { x := q.x, y := q.y, z := q.z }) w

/-- Spherical interpolation, `b` negated first when the dot product is negative (R113). -/
def slerp (a b : Quat) (t : Fx) : Quat :=
  let d0 := dot a b
  let b1 := if d0 < 0 then neg b else b
  let d := if d0 < 0 then -d0 else d0
  let th := Fx.atan2 (Fx.sqrt (Fx.one - Fx.mul d d)) d
  let s := Fx.sin th
  if s = 0 then a
  else add (smul (Fx.div (Fx.sin (Fx.mul (Fx.one - t) th)) s) a) (smul (Fx.div (Fx.sin (Fx.mul t th)) s) b1)

end Quat

/-- A pose: rotation and position. -/
structure Pose where
  q : Quat
  x : V3
deriving DecidableEq, Repr

namespace Pose

def ident : Pose := { q := Quat.one, x := V3.zero }

/-- The point placed by the pose. -/
def apply (p : Pose) (v : V3) : V3 := V3.add (Quat.rotate p.q v) p.x

/-- The motion from pose `a` to pose `b`: b⁻¹ a (R116, R126). -/
def rel (b a : Pose) : Pose :=
  { q := Quat.mul (Quat.conj b.q) a.q, x := Quat.rotate (Quat.conj b.q) (V3.sub a.x b.x) }

/-- The point in the frame of the pose. -/
def unapply (p : Pose) (v : V3) : V3 := Quat.rotate (Quat.conj p.q) (V3.sub v p.x)

/-- Linear interpolation of positions with slerp of rotations (R113, R138). -/
def lerp (a b : Pose) (t : Fx) : Pose :=
  { q := Quat.slerp a.q b.q t, x := V3.add a.x (V3.smul t (V3.sub b.x a.x)) }

end Pose

end Sys2Proof.Machine
end

