-- ==== Sys2Proof/Machine/UnitsFast.lean ====
section
/-! DEFINITION. The state of the SIU (chapter 03), Talus (04) and Sentinel (05) beside their dictionary entries. Times
are in 2^−16 ns. -/
namespace Sys2Proof.Machine

/-! ### The SIU -/

/-- A range point as the SIU hands it on (R90), with its time and the sensor range of R89 (FP32). -/
structure Pt where
  t : Nat
  x : Nat
  y : Nat
  z : Nat
  range : Nat
  inten : Nat
  echo : Nat
  chan : Nat
  slot : Nat
  keep : Bool
  group : Nat
deriving DecidableEq, Repr

/-- A sample as the SIU hands it on (R103): its slot, its time and the values by role, in template order. -/
structure Sample where
  slot : Nat
  t : Nat
  vals : List (Nat × Nat)
deriving DecidableEq, Repr

/-- A camera frame being received, or its record (R95): stamps, lines so far, frame number, damage, embedded exposure
(ns), the bytes written, the buffer (`none`: dropped as `DROP_BUF`), a failed constant check and a failed range check. -/
structure FrameRt where
  fs : Nat
  fe : Nat
  rows : Nat
  num : Nat
  damaged : Bool
  expo : Option Nat
  bytes : Nat
  buf : Option Nat
  bad : Bool
  rangeBad : Bool
deriving DecidableEq, Repr

/-- A camera frame buffer of the image (R95): where it lies, whether it is being written, and the ready frame it holds
with its line time, exposure and reference time and whether it has fed an epoch. -/
structure CamBuf where
  addr : Nat
  size : Nat
  busy : Bool
  ready : Option FrameRt
  fed : Bool
deriving DecidableEq, Repr

/-- An encoder's count (R79): the count (32 bits), the last two counted edges, the last grid index that gave a sample. -/
structure Enc where
  count : Nat
  last : Nat
  prev : Nat
  grid : Nat
deriving DecidableEq, Repr

/-- A stream slot beside its entries: sequence baseline, time and values of the last accepted sample, consecutive rate
failures, the token bucket (tokens × 2^16 × 10^9, evaluated at a time), the Meridian second of the last contract event,
the base of the stale timers, the frame in progress, the encoder. -/
structure SlotRt where
  seq : Option Nat
  lastT : Option Nat
  base : Option (Nat × List Dy)
  fails : Nat
  tokens : Nat
  fillT : Nat
  dropSec : Option Nat
  timer : Nat
  frame : Option FrameRt
  enc : Enc
deriving DecidableEq, Repr

def SlotRt.reset : SlotRt :=
  { seq := none, lastT := none, base := none, fails := 0, tokens := 0, fillT := 0, dropSec := none, timer := 0,
    frame := none, enc := { count := 0, last := 0, prev := 0, grid := 0 } }

/-- The SIU: slots, camera buffers by slot, the hand-off buffers of the Sentinel pair and of Talus, the next group
number, running SPI transfers (stamp of the edge), pin levels of `TIO`, controllers in bus-off and error-passive, links down, and the port settings in force. -/
structure Ingress where
  slots : SMap SlotRt
  cams : SMap (List CamBuf)
  fifoS : List Pt
  fifoT : List Pt
  group : Nat
  spi : SMap (Option Nat)
  pins : Nat
  busOff : Nat
  canPassive : Nat
  linkDown : Nat
  portSet : SMap Nat
deriving DecidableEq, Repr

def Ingress.reset : Ingress :=
  { slots := [], cams := [], fifoS := [], fifoT := [], group := 0, spi := [], pins := 0, busOff := 0, canPassive := 0,
    linkDown := 0, portSet := [] }

/-! ### Talus -/

/-- Where a set buffer of the image lies: buckets, header, octree levels (R107, R120, R127, R128), and its cairns. -/
structure SetPlace where
  base : Nat
  header : Nat
  oct : Nat
  ready : Nat
  release : Nat
  releaseTarget : Nat
deriving DecidableEq, Repr

/-- How far a set has come: open, closed with the octree build running, built, its release under way. -/
inductive SetPhase where
  | opened | building | built
deriving DecidableEq, Repr

/-- A voxel set (R107 to R127): epoch, phase, anchor pose with the entry it came from, pose age (ns), flags of the
header, voxels, points, late points, capacity drops, the level-0 bucket list in key order, the corrected pose, and when
it closed. -/
structure VSet where
  epoch : Nat
  phase : SetPhase
  anchor : Pose
  src : Option Nat
  anchorSeq : Nat
  poseAge : Nat
  flags : Nat
  alm : Nat
  rmax : Nat
  ageMax : Nat
  n : Nat
  pointsIn : Nat
  lateIn : Nat
  capDrop : Nat
  band : Bool
  probe : Bool
  leaves : List (Nat × Nat)
  corr : Pose
  gsrc : Option Nat
  closeT : Nat
deriving DecidableEq, Repr

/-- Talus: the image's set places, the sets by buffer, the slice pose cache, whether the pose ring holds an accepted
entry and the newest one's time, sets skipped by a step, and the cell sizes. -/
structure Talus where
  places : List SetPlace
  sets : SMap (Option VSet)
  cache : SMap (Option (Nat × Pose × Option Nat))
  accepted : Bool
  newest : Nat
  firstEpoch : Nat
  relGen : SMap Nat
deriving DecidableEq, Repr

def Talus.reset : Talus :=
  { places := [], sets := [], cache := [], accepted := false, newest := 0, firstEpoch := 0, relGen := [] }

/-! ### Sentinel -/

/-- A vertex of the corridor in cm (R145). -/
structure Vertex where
  x : Int
  y : Int
  w : Nat
deriving DecidableEq, Repr

/-- A corridor (R145, R146): sequence, time, required length (cm), vertices in the vehicle frame at `COR_T`, the pose at
`COR_T`, the cells in the odometry frame, the commit time and whether event 0x2506 has been raised for it. -/
structure Corridor where
  seqNo : Nat
  t : Nat
  reqLen : Nat
  verts : List Vertex
  pose : Pose
  cells : List (Int × Int)
  committed : Nat
  stale : Bool
deriving DecidableEq, Repr

/-- The pose source of a slice (R142): from the ring or not, valid or not, and the poses at its start and end. -/
structure SliceSrc where
  ring : Bool
  valid : Bool
  p0 : Pose
  p1 : Pose
deriving DecidableEq, Repr

/-- A slice result that waits for its emission, or that was emitted: the record's fields (R151) without the output
time, the change entries, and the time of output. -/
structure Res where
  slice : Nat
  validT : Nat
  mask : Nat
  oldest : Option Nat
  dist : Nat
  flags : Nat
  verdict : Nat
  changes : List Nat
  out : Nat
deriving DecidableEq, Repr

/-- What a slice that is still open has gathered: late points, streams that contributed, streams in conflict, the cells
touched with evidence for the exchange frame (cell, kind, bit). -/
structure SliceAcc where
  late : Bool
  contrib : Nat
  conflict : Nat
  touched : List ((Int × Int) × Nat × Nat)
deriving DecidableEq, Repr

def SliceAcc.reset : SliceAcc := { late := false, contrib := 0, conflict := 0, touched := [] }

/-- The integrator (R143): its pose in its own frame, the anchor that carries it into the odometry frame, the time of the
last sample, speed, wheel memory by slot (time, count, speed), and the fine and coarse histories by grid index. -/
structure Integ where
  pose : Pose
  anchor : Pose
  t : Nat
  speed : Fx
  wheels : SMap (Option (Nat × Nat × Fx))
  fine : List (Nat × Pose)
  coarse : List (Nat × Pose)
deriving DecidableEq, Repr

/--
[DESIGN CHOICE, log entry 11] -/
def Integ.reset : Integ := { pose := .ident, anchor := .ident, t := 0, speed := 0, wheels := [], fine := [], coarse := [] }

/-- Sentinel (chapter 05). `next` is the lowest slice not yet closed, `ended` the lowest not yet ended; the window corner;
fallback and the run of good ring slices; poses and gatherings of slices; per mask bit the newest point time folded,
the conflict counter; previous states of cells; corridor data written, waiting and current; results. -/
structure Snt where
  running : Bool
  selfTest : Bool
  clearing : Bool
  cleared : Bool
  overflow : Bool
  nextClose : Nat
  firstSlice : Nat
  nextEnd : Nat
  corner : Int × Int
  fallback : Bool
  good : Nat
  lastPose : Pose
  srcs : SMap (Option SliceSrc)
  accs : SMap SliceAcc
  newest : SMap (List Nat)
  suspectCnt : SMap Nat
  prev : SMap Nat
  corData : Bytes
  corNext : Option Corridor
  cor : Option Corridor
  waiting : List Res
  emitted : List Res
  integ : Integ
  failFrom : Option Nat
  safeN : Bool
  safeActive : Bool
  safeCause : Nat
  lastVerdict : Option Nat
  hb : Bool
  hbIndex : Nat
  alive : Nat
  hzHeld : Option (Nat × Bytes)
  hzLast : Option Nat
  pendSet : SMap Nat
  peerBits : SMap Nat
  cellSize : Nat
deriving DecidableEq, Repr

/--
[DESIGN CHOICE, log entries 3, 11] -/
def Snt.reset : Snt :=
  { running := false, selfTest := false, clearing := false, cleared := false, overflow := false,
    nextClose := 0, firstSlice := 0, nextEnd := 0, corner := (-512, -512), fallback := false, good := 0, lastPose := .ident, srcs := [],
    accs := [], newest := [], suspectCnt := [], prev := [], corData := [], corNext := none, cor := none, waiting := [],
    emitted := [], integ := .reset, failFrom := none, safeN := true, safeActive := true, safeCause := 0, lastVerdict := none, hb := false,
    hbIndex := 0, alive := 0, hzHeld := none, hzLast := none, pendSet := [], peerBits := [], cellSize := 10 }

end Sys2Proof.Machine
end

