-- ==== Sys2Proof/Machine/UnitsDeep.lean ====
section
/-! DEFINITION. The state of the deep layer beside its dictionary entries: spurs (chapter 06), descriptors (07),
rulebook builds (08), Astrograph (09), timetables and scoreboards (10), Theodolite (11). Times are in 2^−16 ns. -/
namespace Sys2Proof.Machine

/-! ### Descriptors -/

/-- A descriptor: its 512 bits (R202) and whether the image created it (R204). -/
structure Desc where
  word : Nat
  image : Bool
deriving DecidableEq, Repr

/-- A copy object (R215): source and destination handles, permutation, created by the image. -/
structure CopyObj where
  src : Nat
  dst : Nat
  perm : Nat
  image : Bool
deriving DecidableEq, Repr

/-! ### Spurs -/

/-- A weight buffer (R168, R176): the format it was loaded in, the tile in the form of row j, the scales, poison. -/
structure WBuf where
  fmt : Nat
  tile : Bytes
  scales : Bytes
  poison : Bool
deriving DecidableEq, Repr

def WBuf.empty : WBuf := { fmt := 0, tile := [], scales := [], poison := false }

/-- A spur (R168): next word, masks, addresses, loop counters, vector registers and accumulator rows (1,024 bits, lane i
in bits 32i + 31 to 32i) with their poison bits, weight buffers, instruction buffer with its poisoned words, the
generator (seed, draws since, taken from `SR_SEED`, TCLK of the seeding), the scope of a fence in force, task ended, instructions pending per pipe, a failed
fenced write, a poisoned store in this task, a saturation in this task, a parity error met, the task in hand (cycle,
instance, task ID). -/
structure Spur where
  pc : Nat
  m : SMap Nat
  a : SMap Nat
  l : SMap Nat
  v : SMap Nat
  acc : SMap Nat
  vP : Nat
  accP : Nat
  wb0 : WBuf
  wb1 : WBuf
  ibuf : SMap Nat
  ibufP : Nat
  srSeed : Nat
  srN : Nat
  srFixed : Bool
  srT : Nat
  fence : Option Nat
  waiting : Bool
  ended : Bool
  pend : SMap Nat
  failedWrite : Bool
  outBad : Bool
  isat : Bool
  parity : Bool
  task : Option (Nat × Nat × Nat)
deriving DecidableEq, Repr

/--
[DESIGN CHOICE, log entry 3] -/
def Spur.reset : Spur :=
  { pc := 0, m := [], a := [], l := [], v := [], acc := [], vP := 0, accP := 0, wb0 := .empty, wb1 := .empty, ibuf := [],
    ibufP := 0, srSeed := 0, srN := 0, srFixed := false, srT := 0, fence := none, waiting := false, ended := false, pend := [], failedWrite := false,
    outBad := false, isat := false, parity := false, task := none }

/-! ### Rulebooks -/

/-- The build in progress (R229): the set buffer and its epoch, the rulebook, the tiles written, whether a poisoned word
ended it, the counts of the tiles written, when it began. -/
structure RbBuild where
  buf : Nat
  epoch : Nat
  rid : Nat
  tiles : Nat
  fail : Bool
  start : Nat
deriving DecidableEq, Repr

/-! ### Timetables -/

/-- An input entry (R301). -/
structure InEnt where
  src : Nat
  kind : Nat
  fb : Nat
  arg : Nat
deriving DecidableEq, Repr

/-- A task record (R300) with its handles and inputs. -/
structure TaskRec where
  cycle : Nat
  task : Nat
  unit : Nat
  cirqN : Nat
  spurs : Nat
  prog : Nat
  progW : Nat
  descs : List Nat
  inputs : List InEnt
  doneCairn : Nat
  startMin : Nat
  inDl : Nat
  wcet : Nat
  doneDl : Nat
deriving DecidableEq, Repr

/-- A scoreboard entry (R309): which task of which instance, its state, resolved inputs, fallbacks, inputs that resolved
invalid, validity, the oldest contribution (ns from the origin), the end (ns), and what the unit has reported: 0
nothing, 1 complete, 2 failed; outputs marked invalid by the unit. -/
structure SbEntry where
  cycle : Nat
  inst : Nat
  task : Nat
  st : Nat
  inrdy : Nat
  fbk : Nat
  inbad : Nat
  valid : Bool
  oldest : Int
  tEnd : Nat
  report : Nat
  outBad : Bool
deriving DecidableEq, Repr

/-- Timetables (chapter 10): an image is admitted; its cycles (origin, period in ns), tasks, programs, slot tables by
resource ID, gate entries found faulty (resource, slot), the next instance of each cycle (one more than its number; 0
none), loaded entries in load order, the next epoch instant, instances that took a fallback (cycle, instance), an
admission running, the image's rollback counter and version, and while the deep layer is stopped one more than the next
epoch whose stopped result is due (0 otherwise); the admitted image (R294, R520). -/
structure Tt where
  loaded : Bool
  cycles : List (Nat × Nat)
  tasks : List TaskRec
  progs : Bytes
  tables : SMap (List Nat)
  gateBad : List (Nat × Nat)
  nextInst : SMap Nat
  sb : List SbEntry
  epochNext : Nat
  fbInst : List (Nat × Nat)
  checking : Bool
  rbIndex : Nat
  rbValue : Nat
  stoppedNext : Nat
  image : Option (Bytes × ImageExtra)
deriving DecidableEq, Repr

def Tt.reset : Tt :=
  { loaded := false, cycles := [], tasks := [], progs := [], tables := [], gateBad := [], nextInst := [], sb := [],
    epochNext := 0, fbInst := [], checking := false, rbIndex := 0, rbValue := 0, stoppedNext := 0, image := none }

/-! ### Astrograph -/

/-- What a camera slot feeds an epoch (R266, R267): status, the record of the frame used and its reference
time. -/
structure CamUse where
  slot : Nat
  status : Nat
  frame : Option FrameRt
  ref : Nat
deriving DecidableEq, Repr

/-- The grid pose G_n of an epoch (R255). -/
structure GridPose where
  pose : Pose
  frameId : Nat
  poseNone : Bool
  alm : Nat
  src : Option Nat
deriving DecidableEq, Repr

/-- The bookkeeping of an epoch (R253, R265, R266, R271, R274 to R276): camera slots, grid pose, set header as it stood
ready, flags of the deep result, events raised, its deep result sent, rulebooks complete and rulebooks failed by ID. -/
structure EpochRt where
  cams : List CamUse
  grid : Option GridPose
  set : Option Nat
  dilCapped : Bool
  memReset : Bool
  conflict : Bool
  supRaised : Bool
  disRaised : Bool
  sent : Bool
  rbDone : Nat
  rbFail : Nat
deriving DecidableEq, Repr

def EpochRt.empty : EpochRt :=
  { cams := [], grid := none, set := none, dilCapped := false, memReset := false, conflict := false, supRaised := false,
    disRaised := false, sent := false, rbDone := 0, rbFail := 0 }

/-- Astrograph (chapter 09): the pending switch (generation, epoch), per-epoch bookkeeping, the last fed frame of each camera
slot, the two grid memory headers, the first epoch after an admission or step, the
generation of the Almanac copy that the last switch left. -/
structure Astro where
  almPend : Option (Nat × Nat)
  epochs : SMap EpochRt
  fed : SMap (Option CamUse)
  hdr0 : Nat
  hdr1 : Nat
  firstEpoch : Nat
  oldGen : Nat
deriving DecidableEq, Repr

def Astro.reset : Astro :=
  { almPend := none, epochs := [], fed := [], hdr0 := 0, hdr1 := 0, firstEpoch := 0, oldGen := 0 }

/-! ### Theodolite -/

/-- A problem of a running task (R326 to R336), values as FP64 bits: loaded, computed, written; the words the assembly
depends on; the matrix and right-hand sides (`SRC` 0), or H and g as last assembled; the current iterate with its cost and
iteration; the best one and the last evaluated one likewise; iterations completed, λ, flags of R333, pivots, whether the
last step was rejected, the factor to write. -/
structure Prob where
  loaded : Bool
  done : Bool
  written : Bool
  ops : List Nat
  h : List Nat
  g : List Nat
  cur : List Nat
  curCost : Option Nat
  curIter : Nat
  best : List Nat
  bestCost : Option Nat
  bestIter : Nat
  last : Option (List Nat × Nat × Nat)
  iters : Nat
  lambda : Nat
  flags : Nat
  pivIdx : Nat
  nclamp : Nat
  rejected : Bool
  factor : Bytes
deriving DecidableEq, Repr

def Prob.empty : Prob :=
  { loaded := false, done := false, written := false, ops := [], h := [], g := [], cur := [], curCost := none, curIter := 0,
    best := [], bestCost := none, bestIter := 0, last := none, iters := 0, lambda := 0, flags := 0, pivIdx := 255,
    nclamp := 0, rejected := false, factor := [] }

/-- A Theodolite unit at work (R319, R332): the task (cycle, instance, task), the program, when it began, the problems,
the first problem of the wave in hand, events already raised in this task. -/
structure ThUnit where
  key : Nat × Nat × Nat
  prog : Nat
  start : Nat
  probs : List Prob
  wave : Nat
  clampEv : Bool
  ovfEv : Bool
  warmEv : Bool
deriving DecidableEq, Repr

/-- The base of the propagator (R337): its time, the returned state and the variances of its pose, the program and the
instance that gave it, the gyroscope bias. -/
structure PropBase where
  t : Nat
  x : List Nat
  var : List Nat
  bias : List Nat
  prog : Nat
  inst : Nat
deriving DecidableEq, Repr

/-- Theodolite (chapter 11): running tasks by unit, measurement rings by slot (local address, samples written), the
propagator's base, its state (time, words) and the samples it has still to integrate, whether the next entry is a re-base,
is a `RESET`, and the settings in force (R342 (b)). -/
structure Theo where
  units : SMap (Option ThUnit)
  rings : SMap (Nat × Nat)
  base : Option PropBase
  prop : Option (Nat × List Nat)
  propQ : List Sample
  rebase : Bool
  resetDue : Bool
  inForce : SMap Nat
deriving DecidableEq, Repr

def Theo.reset : Theo :=
  { units := [], rings := [], base := none, prop := none, propQ := [], rebase := false, resetDue := false, inForce := [] }

/-- The deep layer. -/
structure Deep where
  descs : SMap (Option Desc)
  gens : SMap Nat
  copies : SMap (Option CopyObj)
  files : SMap (List (Nat × Nat))
  spurs : SMap Spur
  rb : Option RbBuild
  tt : Tt
  ag : Astro
  th : Theo
deriving DecidableEq, Repr

def Deep.reset : Deep :=
  { descs := [], gens := [], copies := [], files := [], spurs := [], rb := none, tt := .reset, ag := .reset, th := .reset }

end Sys2Proof.Machine
end

