-- ==== Sys2Proof/Machine/UnitsSync.lean ====
section
/-! DEFINITION. The state of the Cairn Store (chapter 12), of the queues (13) and of the allocation table (07) beside
their dictionary entries. -/
namespace Sys2Proof.Machine

/-- A plan entry of R372. -/
structure CairnPlan where
  fwdStep : Nat
  fwdTgt : Nat
  fwdAdd : Nat
  rest : Nat
  owner : Nat
  waitMax : Nat
  fwdCairn : Nat
  fwdRid : Nat
  fwdMode : Nat
  bal : Bool
  cycle : Nat
  home : Nat
deriving DecidableEq, Repr

/-- The state of a cairn (R344). -/
inductive CState where
  | free | armed | poisoned
deriving DecidableEq, Repr

/-- A cairn record (R344). `notify` is the 64-bit word of R365; `waiters` lists the waiter records, head first. -/
structure Cairn where
  value : Nat
  sigCnt : Nat
  cstate : CState
  owner : Nat
  lastSig : Nat
  rest : Nat
  fwdTgt : Nat
  notify : Nat
  lastT : Nat
  waiters : List Nat
deriving DecidableEq, Repr

def Cairn.idle : Cairn :=
  { value := 0, sigCnt := 0, cstate := .free, owner := 0, lastSig := 0, rest := 0, fwdTgt := 0, notify := 0,
    lastT := 0, waiters := [] }

/-- A sleeping wait (R352, R375): what it waits for, who waits, when it expires (Meridian, 2^−16 ns), and the vector a
host wait sends (R367). -/
structure Waiter where
  cairn : Nat
  cond : Nat
  target : Nat
  agent : Nat
  deadline : Nat
  vector : Option Nat
deriving DecidableEq, Repr

/-- How a wait ends (R349, R352, R354). -/
inductive WaitStatus where
  | ok | timeout | poison | noWaiter
deriving DecidableEq, Repr

/-- The Cairn Store (chapter 12). `wakes` are the wake wires that have fired and not been acted on (R353). -/
structure CairnStore where
  cairns : SMap Cairn
  plan : SMap (Option CairnPlan)
  waiters : SMap (Option Waiter)
  wakes : List (Nat × WaitStatus)
deriving DecidableEq, Repr

def CairnStore.reset : CairnStore :=
  { cairns := [], plan := [], waiters := [], wakes := [] }

/-- A pop that waits: the agent, the words still wanted, the bytes popped so far (R385, R390). -/
structure PopWait where
  agent : Nat
  words : Nat
  got : Bytes
  poison : Bool
  since : Nat
deriving DecidableEq, Repr

/-- A queue's pointers (R381) and modes of use (R382, R385, R387, R390, R391). -/
structure Queue where
  wp : Nat
  cp : Nat
  rp : Nat
  mp : Nat
  lp : Nat
  bad : Bool
  ignoring : Bool
  wait : Option PopWait
deriving DecidableEq, Repr

def Queue.empty : Queue :=
  { wp := 0, cp := 0, rp := 0, mp := 0, lp := 0, bad := false, ignoring := false, wait := none }

/-- An allocation (R199). `weights` marks one that a `DATA` section filled (R417). -/
structure Alloc where
  base : Nat
  size : Nat
  creator : Nat
  descRefs : Nat
  pinned : Bool
  writable : Bool
  weights : Bool
deriving DecidableEq, Repr

end Sys2Proof.Machine
end

