-- ==== Sys2Proof/Machine/UnitsTime.lean ====
section
/-! DEFINITION. The state of Meridian, its PTP ports, the transmit queues and the time pins beside their dictionary
entries (chapter 02). -/
namespace Sys2Proof.Machine

/-- Meridian's accumulator (R42): seconds, nanoseconds and the fraction in 2^−32 ns. -/
structure Clock where
  sec : Nat
  ns : Nat
  frac : Nat
deriving DecidableEq, Repr

def Clock.reset : Clock := { sec := 0, ns := 0, frac := 0 }

/-- A time source (R46): the slave port with its grandmaster, or GNSS. -/
inductive TimeSrc where
  | ptp (port gm : Nat)
  | gnss
deriving DecidableEq, Repr

/-- An offset sample (R49): offset (2^−16 ns), ingress stamp (2^−16 ns), TCLK count and the sum of `RATE_ADJ` over the
TCLK cycles so far. -/
structure OffSample where
  off : Int
  stamp : Nat
  tclk : Nat
  adj : Int
deriving DecidableEq, Repr

/-- Meridian beside its entries (R49 to R54, R562): qualifying samples, the offset filter, the samples accepted since it
restarted, the run of the 4-sample counts, the frequency term, the sum of `RATE_ADJ`, whether the last demand was
clamped, the source in use and the last one, whether the slave port's Syncs are lost, the slave port, the accepted path
delay, the filtered values of HOLDOVER_SUSPECT (`none` once they were stable), the latest Sync (TCLK, interval), the
latest qualified PPS (TCLK), the PPS second in hand, and whether the next sample of a new source decides the state. -/
structure Mer where
  qual : List OffSample
  filt : List Int
  acc : List OffSample
  accN : Nat
  run : Nat
  freq : Int
  adjSum : Int
  clamped : Bool
  src : Option TimeSrc
  lastSrc : Option TimeSrc
  syncLost : Bool
  slave : Option Nat
  pd : Option Nat
  suspect : Option (List Nat)
  lastSync : Nat
  syncLog : Int
  ppsQual : Option Nat
  pps : Option OffSample
  rmcOk : Bool
  zda : Option Nat
  decide : Bool
deriving DecidableEq, Repr

def Mer.reset : Mer :=
  { qual := [], filt := [], acc := [], accN := 0, run := 0, freq := 0, adjSum := 0, clamped := false, src := none,
    lastSrc := none, syncLost := false, slave := none, pd := none, suspect := none, lastSync := 0, syncLog := 0,
    ppsQual := none, pps := none, rmcOk := false, zda := none, decide := false }

/-- What a port holds of the latest Announce (R564): the priority vector in its order of comparison, when it came and
its interval. -/
structure AnnInfo where
  vec : List Nat
  gm : Nat
  at_ : Nat
  log : Int
deriving DecidableEq, Repr

/-- A Sync that waits for its Follow_Up (R49): sequence, stamp, correction, asymmetry, TCLK and `RATE_ADJ` sum. -/
structure SyncRec where
  seqId : Nat
  stamp : Nat
  corr : Int
  asym : Int
  tclk : Nat
  adj : Int
deriving DecidableEq, Repr

/-- A PTP port beside its entries: Announce information, Sync in hand, its own request (sequence, t1), the response
(t2 of the peer, t4), the last pair (t3, t4), the ratio (numerator, denominator) and the last three results in ns. -/
structure PtpPort where
  ann : Option AnnInfo
  sync : Option SyncRec
  seqTx : Nat
  req : Option (Nat × Int)
  resp : Option (Int × Int)
  prev : Option (Int × Int)
  nrr : Int × Int
  results : List Nat
deriving DecidableEq, Repr

def PtpPort.reset : PtpPort :=
  { ann := none, sync := none, seqTx := 0, req := none, resp := none, prev := none, nrr := (1, 1), results := [] }

/-- A frame that waits for its launch time (R62, R63): launch time (2^−16 ns), bytes, the stamp request's frame ID,
and whether its time came while the line was busy. -/
structure LaunchFrame where
  launch : Nat
  data : Bytes
  stamp : Option Nat
  slipped : Bool
deriving DecidableEq, Repr

/-- Network time, transmit queues and time pins (R49, R59, R62, R64): ports, launch queues, transmit stamps, per `TIO`
pin the next pulse start and the end of the pulse in progress (2^−16 ns). -/
structure NetTime where
  ports : SMap PtpPort
  launch : SMap (List LaunchFrame)
  stamps : SMap (List Nat)
  tioNext : SMap (Option Nat)
  tioEnd : SMap (Option Nat)
deriving DecidableEq, Repr

def NetTime.reset : NetTime := { ports := [], launch := [], stamps := [], tioNext := [], tioEnd := [] }

end Sys2Proof.Machine
end

