-- ==== Sys2Proof/Machine/State.lean ====
section
/-! DEFINITION. The state of the block, its faults and refusals, and the state right after reset. -/
namespace Sys2Proof.Machine

/-- The state of the KF9680: every register that has a dictionary entry in `dict` (an unlisted entry reads its default),
what the spec gives beside the dictionary in the units' own records, and the waiting commands. `out` is what the last
command sent out; `free` counts the free values drawn; both are the model's own. -/
structure State where
  variant : Nat
  tclk : Nat
  clock : Clock
  mer : Mer
  net : NetTime
  objs : SMap Bytes
  siu : Ingress
  talus : Talus
  snt : Snt
  almSw : Option (Nat × Nat)
  dict : SMap Nat
  power : Power
  nv : NonVolatile
  dome : Dome
  diag : Diag
  lb : Logbook
  mem : Memory
  routes : Routes
  host : HostIf
  cs : CairnStore
  queues : SMap Queue
  allocs : SMap (Option Alloc)
  deep : Deep
  out : List Out
  free : Nat
  pending : List Instr
deriving DecidableEq, Repr

/-- A step stops with a fault. Nothing in the spec stops the block, so no command raises one. -/
inductive Fault where
  /-- Raised by no command: the block has no fault that stops it (safe). -/
  | none
deriving DecidableEq, Repr

/-- A command is refused by the model. -/
inductive Refusal where
  /-- The command has no meaning in the model yet; raised by Dispatch.lean's refused arms only (safe). -/
  | notModelled (mnemonic : String)
deriving DecidableEq, Repr

/-- The machine right after the release of `PORST_N`, before the boot ROM has run.
[DESIGN CHOICE, log entries 3, 4] -/
def State.reset : State :=
  { variant := 3, tclk := 0, clock := .reset, mer := .reset, net := .reset, objs := [], siu := .reset, talus := .reset, snt := .reset,
    almSw := none, dict := [], power := .reset, nv := .reset, dome := .reset,
    diag := .reset, lb := .reset, mem := .reset, routes := .reset, host := .reset, cs := .reset, queues := [], allocs := [], deep := .reset, out := [], free := 0, pending := [] }

end Sys2Proof.Machine
end

