-- ==== Sys2Proof/Machine/Ops.lean ====
section
/-! DEFINITION. The operations every unit shares: dictionary registers, time, raising events, MSI-X, the address map,
memory reads and writes with their protection. -/
namespace Sys2Proof.Machine

/-! ### Registers -/

/-- `SEV` and `FAULT` of a detector (R513), as bits 15:13 of its route entry. -/
def detRoute (nn : Nat) : Nat :=
  if nn = 7 || nn = 10 || nn = 14 || nn = 15 || nn = 30 then 0x4000
  else if nn = 4 || nn = 5 || nn = 6 || nn = 8 || nn = 9 || nn = 72 then 0xC000
  else if nn = 16 || nn = 17 || nn = 18 || (20 ≤ nn && nn ≤ 24) then 0xE000
  else 0x8000

/-- The detectors of R513. -/
def detListed (nn : Nat) : Bool :=
  (1 ≤ nn && nn ≤ 18) || (20 ≤ nn && nn ≤ 24) || (30 ≤ nn && nn ≤ 35) || nn = 40 || nn = 41 || nn = 42 || nn = 44 ||
  nn = 45 || nn = 50 || nn = 51 || nn = 60 || nn = 70 || nn = 71 || nn = 72

/-- What an unlisted entry holds: its default of the entry tables; `MASK_BIT` its slot (R166); the route entry of a
detector its fixed severity (R506, R513).
[DESIGN CHOICE, log entry 3] -/
def regDefault (k : Nat) : Nat :=
  let idx := k / 256; let sub := k % 256
  if idx = 0x2540 then sub - 1
  else if idx = 0x2F4F && detListed sub then detRoute sub + 0x0800
  else match entryOf idx sub with
    | some e => e.dflt
    | none => 0

/-- The value of a dictionary register. -/
def State.rd (s : State) (k : Nat) : Nat := smGet regDefault s.dict k

/-- Write a dictionary register. -/
def State.wr (s : State) (k v : Nat) : State := { s with dict := smSet regDefault s.dict k v }

/-- The value of a signed dictionary register of `w` bits. -/
def State.rdI (s : State) (w k : Nat) : Int := sgnOf w (s.rd k)

/-- Count `n` in a saturating counter (R21). -/
def State.bumpN (s : State) (k n : Nat) : State := s.wr k (satAdd (s.rd k) n)

/-- Count one in a saturating counter (R21). -/
def State.bump (s : State) (k : Nat) : State := s.bumpN k 1

/-- Add to a 64-bit counter, which never wraps in service (R21). -/
def State.add64 (s : State) (k n : Nat) : State := s.wr k ((s.rd k + n) % 2 ^ 64)

/-- What the block sends.
[DESIGN CHOICE, log entry 7] -/
def State.emit (s : State) (o : Out) : State := { s with out := s.out ++ [o] }

/-- Draw the next free value.
[DESIGN CHOICE, log entries 5, 39] -/
def State.draw (s : State) : Nat × State := (Config.freeValue s.free, { s with free := s.free + 1 })

/-- Draw `n` bytes from the TRNG.
[DESIGN CHOICE, log entry 5] -/
def State.drawTrng (s : State) (n : Nat) : Bytes × State :=
  ((List.range n).map (fun i => Config.trng (s.free + i)), { s with free := s.free + n })

/-! ### Time (R13, R42) -/

/-- One nanosecond in the units of full times, 2^−16 ns. -/
abbrev ftNs : Nat := 65536

/-- One second in units of 2^−16 ns. -/
abbrev ftSec : Nat := 1000000000 * 65536

/-- One microsecond in units of 2^−16 ns. -/
abbrev ftUs : Nat := 1000 * 65536

/-- Meridian's time in units of 2^−16 ns since the PTP epoch. -/
def Clock.ft (c : Clock) : Nat := (c.sec * 1000000000 + c.ns) * 65536 + c.frac / 65536

/-- Meridian's present time (2^−16 ns). -/
def State.now (s : State) : Nat := s.clock.ft

/-- Replay is running (R520). -/
def State.replaying (s : State) : Bool := s.rd R.RP_STATE == 1

/-- The flags of a full time (R14). -/
def State.timeFlags (s : State) : Nat :=
  let st := s.rd R.MER_STATE
  boolNat (st ≠ 0) * 2 ^ 15 + boolNat s.replaying * 2 ^ 14 + st * 2 ^ 11

/-- The 16 bytes of a full time as a number (R13): seconds, nanoseconds, fraction, flags. -/
def ftWord (t flags : Nat) : Nat :=
  t / ftSec + (t / ftNs % 1000000000) * 2 ^ 64 + (t % ftNs) * 2 ^ 96 + flags * 2 ^ 112

/-- The full time of now with its flags, as 16 bytes (R13, R14). -/
def State.nowWord (s : State) : Nat := ftWord s.now s.timeFlags

/-- A full time read from 16 bytes; its input flags are ignored, and a nanosecond field of 10^9 or more is
`TIME_FORMAT` (R15). -/
def ftOfWord (w : Nat) : Option Nat :=
  let sec := w % 2 ^ 64; let ns := w / 2 ^ 64 % 2 ^ 32; let fr := w / 2 ^ 96 % 2 ^ 16
  if 1000000000 ≤ ns then none else some ((sec * 1000000000 + ns) * 65536 + fr)

/-- The difference of two full times as a compact time: floored to a nanosecond and saturated (R16). -/
def compactDiff (a b : Nat) : Int :=
  clampInt (-(2 ^ 63 - 1)) (2 ^ 63 - 1) (Int.fdiv ((a : Int) - (b : Int)) 65536)

/-- An age as a compact time: never negative (R16). -/
def compactAge (a b : Nat) : Nat := (max 0 (compactDiff a b)).toNat

/-- Advance Meridian's accumulator by `d` units of 2^−32 ns (R42).
[DESIGN CHOICE, log entry 1] -/
def Clock.advance (c : Clock) (d : Nat) : Clock :=
  let f := c.frac + d
  let n := c.ns + f / 2 ^ 32
  { sec := (c.sec + n / 1000000000) % 2 ^ 64, ns := n % 1000000000, frac := f % 2 ^ 32 }

/-! ### Events (R504, R505) -/

/-- Raise an event: it is taken up under R507 when the command's own effect is complete.
[DEDUCED, log entry 8] -/
def State.raise (s : State) (code agent arg0 arg1 : Nat) : State :=
  { s with diag := { s.diag with raised := s.diag.raised ++ [⟨code, agent, arg0 % 2 ^ 32, arg1 % 2 ^ 32⟩] } }

/-- Pack arguments of given widths into the two argument words (R505). -/
def packArgs : List (Nat × Nat) → Nat → Nat → Nat → Nat × Nat
  | [], _, a0, a1 => (a0, a1)
  | (w, v) :: t, used, a0, a1 =>
    if used < 32 && used + w ≤ 32 then packArgs t (used + w) (a0 + (v % 2 ^ w) * 2 ^ used) a1
    else
      let u := if used < 32 then 32 else used
      packArgs t (u + w) a0 (a1 + (v % 2 ^ w) * 2 ^ (u - 32))

/-- Raise an event whose arguments are packed by R505: a 64-bit argument on its own takes both words, with others its
low 32 bits.
[DEDUCED, log entry 8] -/
def State.event (s : State) (code agent : Nat) (args : List (Nat × Nat)) : State :=
  match args with
  | [(64, v)] => s.raise code agent v (v / 2 ^ 32)
  | _ =>
    let p := packArgs (args.map fun a => (min a.1 32, a.2)) 0 0 0
    s.raise code agent p.1 p.2

/-- The `entry` argument of R505: index in the low 16 bits, sub in the high 8. -/
def entryArg (idx sub : Nat) : Nat := idx + sub * 65536

/-- Detector `nn` detects (R513, R20): its event is raised.
[DEDUCED, log entry 57] -/
def State.detect (s : State) (nn agent : Nat) (args : List (Nat × Nat)) : State :=
  s.event (0x2F00 + nn) agent args

/-! ### Injection (R514, R515) -/

/-- Detectors whose injection names no instance. -/
def injPlain (nn : Nat) : Bool :=
  (1 ≤ nn && nn ≤ 4) || (6 ≤ nn && nn ≤ 9) || nn = 15 || (20 ≤ nn && nn ≤ 24) || nn = 32 || nn = 71

/-- An injection of detector `nn` is armed for the instance.
[DEDUCED, log entry 57] -/
def State.injArmed (s : State) (nn inst : Nat) : Bool := match s.diag.inj with
  | some (d, i, _) => d = nn && (i = inst || injPlain nn)
  | none => false

/-- The armed injection acts (R515).
[DEDUCED, log entry 57] -/
def State.injFire (s : State) : State := match s.diag.inj with
  | some (d, i, _) => ({ s with diag := { s.diag with inj := none } }.wr R.INJ_STATE 2).event 0x2F76 0 [(8, d), (16, i)]
  | none => s

/-- The detector evaluates for the instance: an injection armed for it acts.
[DEDUCED, log entry 57] -/
def State.injHere (s : State) (nn inst : Nat) : State := if s.injArmed nn inst then s.injFire else s

/-! ### Device state (R511) -/

/-- Set `DEV_STATE`; every change raises event 0x2F79. FAILED_REPLACE ends only at `PORST_N`. -/
def State.setDev (s : State) (n : Nat) : State :=
  let d := s.rd R.DEV_STATE
  if d = n || d = 4 then s else (s.wr R.DEV_STATE n).event 0x2F79 0 [(8, n)]

/-- Enter FAILED_REPLACE (R41, R511). -/
def State.failReplace (s : State) : State := s.setDev 4

/-- `FAULT_CAUSE` as it reads (R510). -/
def State.faultCause (s : State) : Nat :=
  let st := s.rd R.FAULT_CAUSE
  boolNat (s.rd R.SNT_STATE == 3) + 2 * boolNat (s.rd R.DEV_STATE == 4) +
  4 * boolNat (st.testBit 2) + 8 * boolNat (s.rd R.ENV_HOLD ≠ 0) + 16 * boolNat (st.testBit 4) +
  32 * boolNat (st.testBit 5)

/-- The TCLK cycles of one microsecond (TCLK is 500 MHz). -/
abbrev tclkUs : Nat := 500

/-! ### MSI-X (R430, R442) -/

/-- Send the message of a vector, or set its pending bit.
[PRESUMED, log entry 47] -/
def State.msix (s : State) (v : Nat) : State :=
  if smGet (fun _ => true) s.host.vecMask v || s.host.funcMask || !s.host.bme || s.host.d3hot then
    { s with host := { s.host with vecPend := smSet (fun _ => false) s.host.vecPend v true } }
  else s.emit (.msix v)

/-! ### Power domains -/

/-- `PD_AVAIL` of the variant (R541).
[DESIGN CHOICE, log entry 4] -/
def pdAvail (variant : Nat) : Nat :=
  if variant = 1 then 0x7FFFEFFF else if variant = 2 then 0x7FFFFFFF else 0xFFFFFFFF

/-- A domain is on. -/
def State.pdOn (s : State) (d : Nat) : Bool := (s.rd R.PD_STATE).testBit d

/-- Keeper firmware is running: started, not held in reset (R463, R512). -/
def State.keeperUp (s : State) : Bool := s.diag.keeperRun && !s.diag.keeperHeld

/-! ### The address map (R17, R18, R170, R399) -/

/-- What a local address reaches. -/
inductive Region where
  | dram (stack : Nat)
  | spurStore (n : Nat)
  | cirqueStore (c : Nat)
  | ridgeStore (r : Nat)
  | plate
  | queueMem
  | dictSpace
  | cairnStore
  | unmapped
deriving DecidableEq, Repr

/-- The place of a local address (R18); a stack the variant lacks is unmapped (R3). -/
def regionOf (variant a : Nat) : Region :=
  if a < 0x400000000 then .dram (if variant = 1 then 0 else bitsOf 12 12 a)
  else if a < 0x800000000 then (if variant = 1 then .unmapped else .dram (bitsOf 12 12 a))
  else if a < 0x10000000000 then .unmapped
  else if a < 0x10004000000 then .spurStore ((a - 0x10000000000) / 0x80000)
  else if a < 0x10008000000 then .cirqueStore ((a - 0x10004000000) / 0x200000)
  else if a < 0x1000A000000 then .ridgeStore ((a - 0x10008000000) / 0x800000)
  else if a < 0x11000000000 then .unmapped
  else if a < 0x11001000000 then .plate
  else if a < 0x12000000000 then .unmapped
  else if a < 0x12000400000 then .queueMem
  else if a < 0x20000000000 then .unmapped
  else if a < 0x20008000000 then .dictSpace
  else if a < 0x21000000000 then .unmapped
  else if a < 0x21000100000 then .cairnStore
  else .unmapped

/-- The memory class of a region (R401); 12 for a region that is no protected memory. -/
def classOf : Region → Nat
  | .dram k => k
  | .spurStore _ => 2
  | .cirqueStore _ => 3
  | .ridgeStore _ => 4
  | .plate => 5
  | .cairnStore => 7
  | .queueMem => 8
  | .dictSpace => 12
  | .unmapped => 12

/-- The number of a protected store: 0, 1 DRAM stacks, 2–129 spur stores, 130–161 cirque stores, 162–165 ridge stores,
166 Plate SRAM, 167 Keeper SRAM, 168 cairn store; 169 for a region that has no initialisation pass. -/
def storeOf : Region → Nat
  | .dram k => k
  | .spurStore n => 2 + n
  | .cirqueStore c => 130 + c
  | .ridgeStore r => 162 + r
  | .plate => 166
  | .cairnStore => 168
  | .queueMem => 169
  | .dictSpace => 169
  | .unmapped => 169

/-- The class of a store number. -/
def classOfStore (n : Nat) : Nat :=
  if n < 2 then n else if n < 130 then 2 else if n < 162 then 3 else if n < 166 then 4 else if n = 166 then 5
  else if n = 167 then 6 else 7

/-- The power domain that holds a store (R526, R407). -/
def domainOfStore (n : Nat) : Nat :=
  if n = 0 then 11 else if n = 1 then 12 else if n < 130 then 22 + (n - 2) / 16 else if n < 162 then 22 + (n - 130) / 4
  else if n < 166 then 18 + (n - 162) else if n = 166 then 30 else if n = 167 then 2 else 10

/-- The stores of the variant.
[DESIGN CHOICE, log entry 4] -/
def storePresent (variant n : Nat) : Bool := n < 169 && !(variant = 1 && n = 1)

/-- A store is open: its initialisation pass is complete (R407). Queue memory has no pass of its own. -/
def State.storeOpen (s : State) (n : Nat) : Bool := 169 ≤ n || s.mem.openMask.testBit n

/-- The stores of a class. -/
def storesOfClass (c : Nat) : List Nat :=
  (List.range 169).filter (fun n => classOfStore n = c)

/-! ### The protection of a word (R402 to R404) -/

/-- How a read of a word comes out. -/
inductive WordOutcome where
  | clean | corrected (nibble : Nat) | poisoned | mismatch | uncorrectable | parity
deriving DecidableEq, Repr

/-- Word errors are kept by word: 16-byte words of the code classes by address / 16, 8-byte words of queue memory by
2^48 + address / 8. -/
def wordKey (a : Nat) : Nat := match classOf (regionOf 3 a) with
  | 8 => 2 ^ 48 + a / 8
  | _ => a / 16

/-- The length of a protected word at an address. -/
def wordLen (a : Nat) : Nat := if classOf (regionOf 3 a) = 8 then 8 else 16

/-- The error of a word. -/
def State.werr (s : State) (a : Nat) : WordErr := smGet (fun _ => WordErr.none) s.mem.werr (wordKey a)

/-- Set the error of a word. -/
def State.setWerr (s : State) (a : Nat) (e : WordErr) : State :=
  { s with mem := { s.mem with werr := smSet (fun _ => WordErr.none) s.mem.werr (wordKey a) e } }

/-- The 4-bit nibbles of a 144-bit pattern that are not 0. -/
def badNibbles (mask : Nat) : List Nat := (List.range 36).filter (fun i => bitsOf (4 * i + 3) (4 * i) mask ≠ 0)

/-- How many bits of a pattern are set. -/
def popCount (w m : Nat) : Nat := ((List.range w).filter (fun i => m.testBit i)).length

/-- The outcome of a read of a code word with error pattern `mask` (R402). Beyond two bits and one nibble the code is
not in the spec, so the outcome is free.
[DESIGN CHOICE, log entry 12] -/
def codeOutcome (e : WordErr) : WordOutcome :=
  match badNibbles e.mask with
  | [] => if e.poison then .poisoned else .clean
  | [n] => if e.poison then .poisoned else .corrected n
  | _ =>
    if popCount 144 e.mask ≤ 2 then .uncorrectable
    else match Config.wideClass (e.mask + boolNat e.poison * 2 ^ 144) with
      | 0 => .clean
      | 1 => .corrected 0
      | 2 => .poisoned
      | 3 => .mismatch
      | _ => .uncorrectable

/-- The bytes of an 8-byte parity word whose parity fails (R404). -/
def parityBad (mask : Nat) : List Nat :=
  (List.range 8).filter (fun i => popCount 8 (bitsOf (8 * i + 7) (8 * i) mask) % 2 ≠ boolNat (mask.testBit (64 + i)))

/-- The failing byte bits that a log entry shows for a parity word (R414). -/
def parityBits (mask : Nat) : Nat := ((parityBad mask).map (fun i => 2 ^ i)).foldl (· + ·) 0

/-- The outcome of a read of a parity word (R404). Poison inverts every parity bit.
[DESIGN CHOICE, log entry 12] -/
def parityOutcome (e : WordErr) : WordOutcome :=
  let bad := parityBad (if e.poison then e.mask ^^^ (255 * 2 ^ 64) else e.mask)
  if bad.length = 8 then .poisoned else if bad.isEmpty then .clean else .parity

/-- The outcome of a read of the word at `a`. -/
def State.wordOutcome (s : State) (a : Nat) : WordOutcome :=
  if classOf (regionOf s.variant a) = 8 then parityOutcome (s.werr a) else codeOutcome (s.werr a)

/-- The outcome delivers poison. -/
def WordOutcome.isPoison : WordOutcome → Bool
  | .clean => false
  | .corrected _ => false
  | _ => true

/-! ### Memory bytes -/

/-- The byte at a local address.
[DESIGN CHOICE, log entry 6] -/
def State.byte (s : State) (a : Nat) : Byte := smGet memDflt s.mem.bytes a

/-- Write one byte. -/
def State.setByte (s : State) (a : Nat) (b : Byte) : State :=
  { s with mem := { s.mem with bytes := smSet memDflt s.mem.bytes a b } }

/-- `n` bytes from `a`. -/
def State.bytesAt (s : State) (a n : Nat) : Bytes := (List.range n).map (fun i => s.byte (a + i))

/-- Write bytes from `a` upward. -/
def State.setBytes (s : State) : Nat → Bytes → State
  | _, [] => s
  | a, b :: t => (s.setByte a b).setBytes (a + 1) t

/-- The little-endian number of `n` bytes at `a`. -/
def State.leAtMem (s : State) (a n : Nat) : Nat := leNat (s.bytesAt a n)

/-! ### The error log and detections (R414 to R417, R422) -/

/-- The allocation that holds a local address; 0 when none (R414). -/
def State.allocOf (s : State) (a : Nat) : Nat :=
  match s.allocs.find? (fun e => match e.2 with | some al => al.base ≤ a && a < al.base + al.size | none => false) with
  | some (k, _) => k
  | none => 0

/-- Put one entry into the error log (R414, R415). -/
def State.logError (s : State) (a agent synd cls kind nib : Nat) : State :=
  if s.mem.errLog.length < 64 then
    let w := s.nowWord * 2 ^ 128 + (s.host.rangeId * 2 ^ 45 + a % 2 ^ 45) * 2 ^ 80 + (agent % 2 ^ 16) * 2 ^ 64 + (synd % 2 ^ 16) * 2 ^ 48 +
      (s.allocOf a) * 2 ^ 36 + cls * 2 ^ 32 + kind * 2 ^ 24 + nib * 2 ^ 16
    { s with mem := { s.mem with errLog := s.mem.errLog ++ [w] } }
  else
    let s1 := s.bump R.LOG_LOST
    if s.mem.lostSinceEmpty then s1
    else { s1 with mem := { s1.mem with lostSinceEmpty := true } }.event 0x2C05 0 []

/-- Stack, channel, bank and row of a DRAM address, packed as bits 59:36 of a repair entry (R399, R421). -/
def dramRow (variant a : Nat) : Nat :=
  let sl := if variant = 1 then a % 2 ^ 34 else (bitsOf 34 13 a) * 4096 + a % 4096
  let stack := if variant = 1 then 0 else bitsOf 12 12 a
  let chan := bitsOf 11 8 sl
  let cl := (sl / 4096) * 256 + sl % 256
  stack * 2 ^ 59 + chan * 2 ^ 55 + (bitsOf 14 11 cl) * 2 ^ 51 + (bitsOf 29 15 cl) * 2 ^ 36

/-- The DRAM address of a stack, channel and channel-local address (R399). -/
def dramAddr (variant stack chan cl : Nat) : Nat :=
  let sl := (cl / 256) * 4096 + chan * 256 + cl % 256
  if variant = 1 then sl else (sl / 4096) * 8192 + stack * 4096 + sl % 4096

/-- Add a row to `REP_CAND`, or update its fields (R422).
[DEDUCED, log entry 55] -/
def State.repairCandidate (s : State) (row ceSeen : Nat) (ue : Bool) : State :=
  let same := fun e => bitsOf 59 36 e = row / 2 ^ 36
  let e := 2 ^ 63 + boolNat ue * 2 ^ 62 + row + (min ceSeen 0xFFFF) * 2 ^ 20
  match s.mem.cand.find? same with
  | some old =>
    let new := e ||| (bitsOf 62 62 old * 2 ^ 62)
    { s with mem := { s.mem with cand := s.mem.cand.map (fun x => if same x then new else x) } }
  | none =>
    if s.mem.cand.length < 16 then
      { s with mem := { s.mem with cand := s.mem.cand ++ [e] } }.event 0x2C02 0 []
    else s

/-- Count a corrected error of a DRAM row, which at `CE_ROW_THR` becomes a repair candidate (R422). -/
def State.countRow (s : State) (row : Nat) : State :=
  let c := smGet (fun _ => 0) s.mem.rowCe row + 1
  let s1 := { s with mem := { s.mem with rowCe := smSet (fun _ => 0) s.mem.rowCe row c } }
  if s.rd R.CE_ROW_THR ≤ c then s1.repairCandidate row c false else s1

/-- A detection or a poison read inside a weights allocation enters DEGRADED (R417). -/
def State.weightsHit (s : State) (a : Nat) : State :=
  let id := s.allocOf a
  match smGet (fun _ => none) s.allocs id with
  | some al =>
    if !al.weights then s
    else
      let ids := (List.range 16).map (fun i => bitsOf (16 * i + 15) (16 * i) (s.rd R.WT_POISON))
      if ids.contains id then s
      else
        let s1 := match (List.range 16).find? (fun i => ids.getD i 0 = 0) with
          | some i => s.wr R.WT_POISON (setBits (16 * i + 15) (16 * i) (s.rd R.WT_POISON) id)
          | none => s
        let s2 := if s1.rd R.WT_STATE = 0 then s1.wr R.WT_STATE 1 else s1
        let s3 := if s2.rd R.DEV_STATE = 2 then s2.setDev 3 else s2
        { s3 with mem := { s3.mem with degradedEnds := false } }.event 0x2C03 0 [(16, id)]
  | none => s

/-- Count a detection of the class, the row and the log (R402, R404, R414 to R417, R422). `agent` is the reader.
[DESIGN CHOICE, log entry 12] -/
def State.detectWord (s : State) (a agent : Nat) (o : WordOutcome) : State :=
  let cls := classOf (regionOf s.variant a)
  let e := s.werr a
  let synd := if 8 ≤ cls then parityBits (if e.poison then e.mask ^^^ (255 * 2 ^ 64) else e.mask) else Config.syndrome e.mask
  let row := dramRow s.variant a
  let scrubber := agent / 4096 = 11
  match o with
  | .clean => s
  | .corrected n =>
    let s1 := (s.bump (R.CE_CNT cls)).detect 10 agent []
    let s2 := if s.rd R.CE_LOG = 1 then s1.logError a agent synd cls 1 n else s1
    if cls < 2 then s2.countRow row else s2
  | .poisoned =>
    if scrubber then s.weightsHit a else (s.logError a agent synd cls 4 0xFF).weightsHit a
  | .uncorrectable =>
    let s1 := (((s.bump (R.UE_CNT cls)).detect 11 agent []).logError a agent synd cls 2 0xFF).weightsHit a
    if cls < 2 then
      s1.repairCandidate row (smGet (fun _ => 0) s1.mem.rowCe row) true
    else s1
  | .mismatch =>
    let s1 := (((s.bump (R.AMM_CNT cls)).detect 12 agent []).logError a agent synd cls 3 0xFF).weightsHit a
    if cls < 2 then s1.repairCandidate row (smGet (fun _ => 0) s1.mem.rowCe row) true else s1
  | .parity =>
    if cls = 8 then (s.bump R.QM_PARITY).bump (R.UE_CNT 8) |>.detect 45 agent [(32, (a - 0x12000000000) / 8)]
    else (s.bump (R.UE_CNT cls)).detect 13 agent [] |>.logError a agent synd cls 5 0xFF

/-- What a word with the wide pattern reads as, when it does not read as poison.
[DESIGN CHOICE, log entry 12] -/
def wideFlip (e : WordErr) (o : WordOutcome) : Nat :=
  if (badNibbles e.mask).length ≤ 1 then 0
  else match o with
    | .clean => e.mask % 2 ^ 128
    | .corrected _ => (e.mask ^^^ Config.wideFix e.mask) % 2 ^ 128
    | _ => 0

/-! ### Accesses by local address -/

/-- How an access ends when no slot, link or route question stops it. -/
inductive AccStatus where
  | ok | unmapped | notInit
deriving DecidableEq, Repr

/-- An access of `n` bytes from `a`: it must lie in one region that exists and is open (R3, R18, R407). -/
def State.accStatus (s : State) (a n : Nat) : AccStatus :=
  let r := regionOf s.variant a
  let r2 := regionOf s.variant (a + (n - 1))
  if classOf r = 12 || classOf r2 = 12 || (classOf r ≠ classOf r2 && !(classOf r < 2 && classOf r2 < 2)) then .unmapped
  else if s.storeOpen (storeOf r) && s.storeOpen (storeOf r2) &&
      (2 ≤ classOf r || s.variant = 1 || a / 4096 = (a + (n - 1)) / 4096 || (s.storeOpen 0 && s.storeOpen 1)) then .ok
  else .notInit

/-- The addresses of the protected words that `n` bytes from `a` touch. -/
def wordsOf (a n : Nat) : List Nat :=
  let w := wordLen a
  if n = 0 then [] else (List.range ((a + n - 1) / w - a / w + 1)).map (fun i => (a / w + i) * w)

/-- A closed memory was reached: D014 names the agent and the address (R407). -/
def State.closedAccess (s : State) (agent a : Nat) : State := s.detect 14 agent [(64, a)]

/-- What a read of memory delivers: status, the bytes (zeros where poison is delivered the reader ignores), whether any
word is poison, and the state after the detections. -/
structure ReadRes where
  st : AccStatus
  data : Bytes
  poison : Bool
  s : State

/-- The bytes of one word as delivered. -/
def State.wordData (s : State) (w : Nat) : Bytes :=
  let o := s.wordOutcome w
  let n := wordLen w
  let f := wideFlip (s.werr w) o
  if f = 0 then s.bytesAt w n else xorBytes (s.bytesAt w n) (toLe n f)

/-- Read `n` bytes of local memory as `agent`, with every word's detections (R402, R404, R407). An injection of D014 for the
agent has the memory treated as closed (R513). -/
def State.readMem (s : State) (agent a n : Nat) : ReadRes :=
  match s.accStatus a n with
  | .unmapped => ⟨.unmapped, [], false, s⟩
  | .notInit => ⟨.notInit, [], false, (s.injHere 14 agent).closedAccess agent a⟩
  | .ok =>
    if s.injArmed 14 agent then ⟨.notInit, [], false, s.injFire.closedAccess agent a⟩
    else
    let ws := wordsOf a n
    let data := (ws.map (fun w => s.wordData w)).flatten
    let s1 := ws.foldl (fun t w => t.detectWord w agent (s.wordOutcome w)) s
    ⟨.ok, slice data (a % wordLen a) n, ws.any (fun w => (s.wordOutcome w).isPoison), s1⟩

/-- The flip mask armed for a class, if the word at `w` consumes it (R419). -/
def State.flipFor (s : State) (cls w agent : Nat) : Option Nat :=
  if s.rd (R.FLIP_ARMED cls) = 1 && !(agent / 4096 = 11) &&
      (!(s.rd (R.FLIP_ADDR cls)).testBit 63 || bitsOf 47 4 (s.rd (R.FLIP_ADDR cls)) = (s.host.rangeId * 2 ^ 45 + w) / 16) then
    some (s.rd (R.FLIP_MASK cls))
  else none

/-- A write to a store of class `cls` whose words this model holds as values of their own (waiter records, matrix
stores, small buffers) takes the armed flip mask (R419). A `FLIP_ADDR` that names one word leaves it armed: these stores have
no device addresses.
[DESIGN CHOICE, log entry 12] -/
def State.disarmFlip (s : State) (cls : Nat) : State :=
  if s.rd (R.FLIP_ARMED cls) = 1 && !(s.rd (R.FLIP_ADDR cls)).testBit 63 then s.wr (R.FLIP_ARMED cls) 0 else s

/-- A write to the record of cairn `c` takes the armed flip mask of class 7; a `FLIP_ADDR` that names a word must name one of the
record's (R18, R419).
[DESIGN CHOICE, log entry 12] -/
def State.disarmCairn (s : State) (c : Nat) : State :=
  if s.rd (R.FLIP_ARMED 7) = 1 && (!(s.rd (R.FLIP_ADDR 7)).testBit 63 ||
      bitsOf 47 6 (s.rd (R.FLIP_ADDR 7)) = (s.host.rangeId * 2 ^ 45 + 0x21000000000) / 64 + c) then s.wr (R.FLIP_ARMED 7) 0 else s

/-- The mask that the next such write takes breaks a byte's parity (R404, R419). -/
def State.flipBreaks (s : State) (cls : Nat) : Bool :=
  s.rd (R.FLIP_ARMED cls) = 1 && !(s.rd (R.FLIP_ADDR cls)).testBit 63 && !(parityBad (s.rd (R.FLIP_MASK cls))).isEmpty

/-- A read of a word of a small buffer whose parity a flip broke (R404, R414): D013, or a poisoned word where every byte fails.
`k` names the buffer; its device address is free, since the address map gives these buffers none.
[DESIGN CHOICE, log entry 12] -/
def State.smallParity (s : State) (agent k mask : Nat) : State :=
  let a := Config.smallAddr k % 2 ^ 45
  if parityBits mask = 255 then s.logError a agent 255 11 4 0xFF
  else ((s.bump (R.UE_CNT 11)).detect 13 agent []).logError a agent (parityBits mask) 11 5 0xFF

/-- The error pattern of a parity word after a write of `n` bytes from offset `off`: every byte has its own parity bit, so the
other bytes keep their errors (R404). -/
def parityAfter (e : WordErr) (off n : Nat) (poison : Bool) : Nat :=
  let old := if e.poison then e.mask ^^^ (255 * 2 ^ 64) else e.mask
  (List.range n).foldl (fun m i =>
    setBits (64 + off + i) (64 + off + i) (setBits (8 * (off + i) + 7) (8 * (off + i)) m 0) (boolNat poison)) old

/-- Store one protected word: `data` are the bytes written at offset `off` of the word at `w`, poisoned or not
(R400, R403, R404, R419).
[DESIGN CHOICE, log entry 12] -/
def State.writeWord (s : State) (agent w off : Nat) (data : Bytes) (poison : Bool) : State :=
  let n := wordLen w
  let cls := classOf (regionOf s.variant w)
  let whole := off = 0 && data.length = n
  let o := s.wordOutcome w
  let e0 := s.werr w
  let s1 :=
    if whole then (s.setBytes w data).setWerr w { mask := 0, poison := poison }
    else if cls = 8 then
      (s.setBytes (w + off) data).setWerr w { mask := parityAfter e0 off data.length poison, poison := false }
    else match o with
      | .clean => (s.setBytes (w + off) data).setWerr w { mask := 0, poison := poison }
      | .corrected _ => (s.setBytes (w + off) data).setWerr w { mask := 0, poison := poison }
      | _ => ((s.detectWord w agent o).setBytes (w + off) data).setWerr w { mask := 0, poison := true }
  match s1.flipFor cls w agent with
  | some m => (s1.setWerr w { mask := (s1.werr w).mask ^^^ m, poison := (s1.werr w).poison }).wr (R.FLIP_ARMED cls) 0
  | none => s1

/-- Store bytes word by word from `a` upward. -/
def State.writeWords (s : State) (agent : Nat) (poison : Bool) (a : Nat) (data : Bytes) : State :=
  (wordsOf a data.length).foldl (fun t w =>
    let lo := max a w
    let hi := min (a + data.length) (w + wordLen w)
    t.writeWord agent w (lo - w) (slice data (lo - a) (hi - lo)) poison) s

/-- Write bytes to local memory as `agent` (R400, R403, R407). -/
def State.writeMem (s : State) (agent a : Nat) (data : Bytes) (poison : Bool) : AccStatus × State :=
  match s.accStatus a data.length with
  | .unmapped => (.unmapped, s)
  | .notInit => (.notInit, (s.injHere 14 agent).closedAccess agent a)
  | .ok =>
    if s.injArmed 14 agent then (.notInit, s.injFire.closedAccess agent a) else (.ok, s.writeWords agent poison a data)

/-- A device address names this device (R17). -/
def State.isLocal (s : State) (a : Nat) : Bool := bitsOf 47 45 a = s.host.rangeId

/-- The local part of a device address (R17). -/
def localPart (a : Nat) : Nat := a % 2 ^ 45

/-! ### The end of a command -/

/-- An empty memory store: bytes and word errors of its addresses dropped.
[DESIGN CHOICE, log entry 6] -/
def State.clearStore (s : State) (n : Nat) : State :=
  let p := fun a => storeOf (regionOf s.variant a) = n
  let q := fun k => k < 2 ^ 48 && storeOf (regionOf s.variant (k * 16)) = n
  { s with mem := { s.mem with bytes := smDrop p s.mem.bytes, werr := smDrop q s.mem.werr,
                                openMask := clearBit s.mem.openMask n } }

end Sys2Proof.Machine
end

