-- ==== Sys2Proof/Machine/CairnOps.lean ====
section
/-! DEFINITION. The Cairn Store's operations (chapter 12): signals, waits, forwards, notification, poison, re-arm. -/
namespace Sys2Proof.Machine

/-- A cairn record; an unlisted cairn is FREE with its reset values (R346). -/
def State.cairn (s : State) (c : Nat) : Cairn := smGet (fun _ => Cairn.idle) s.cs.cairns c

/-- Set a cairn record. -/
def State.setCairn (s : State) (c : Nat) (v : Cairn) : State :=
  { s with cs := { s.cs with cairns := smSet (fun _ => Cairn.idle) s.cs.cairns c v } }

/-- A waiter record. -/
def State.waiter (s : State) (w : Nat) : Option Waiter := smGet (fun _ => none) s.cs.waiters w

/-- Set a waiter record. -/
def State.setWaiter (s : State) (w : Nat) (v : Option Waiter) : State :=
  { s with cs := { s.cs with waiters := smSet (fun _ => none) s.cs.waiters w v } }

/-- The condition of a wait or of `NOTIFY` holds for a value (R347, R365): 1 equal, 2 bits set, otherwise reached. -/
def condHolds (cond value target : Nat) : Bool :=
  if cond = 1 then value = target
  else if cond = 2 then value &&& target = target
  else (value + 2 ^ 32 - target) % 2 ^ 32 < 2 ^ 31

/-- The number a wait status has in `HW_STAT` (R367). -/
def hwStatOf : WaitStatus → Nat
  | .ok => 2 | .timeout => 3 | .poison => 4 | .noWaiter => 5

/-- An agent's wait ends: a host wait reports on its route and sends its vector (R367), any other agent's wake wire
fires (R353).
[DEDUCED, log entry 45] -/
def State.endWait (s : State) (agent : Nat) (vector : Option Nat) (st : WaitStatus) : State :=
  if agent / 4096 = 7 then
    let s1 := s.wr (R.HW_STAT (agent % 4096)) (hwStatOf st)
    match vector with
    | some v => s1.msix v
    | none => s1
  else { s with cs := { s.cs with wakes := s.cs.wakes ++ [(agent, st)] } }

/-- A sleeping waiter's record is freed and its agent wakes with a status (R349, R353, R361). -/
def State.wakeWaiter (s : State) (w : Nat) (st : WaitStatus) : State :=
  match s.waiter w with
  | none => s
  | some x =>
    let c := s.cairn x.cairn
    let s1 := (s.setWaiter w none).setCairn x.cairn { c with waiters := c.waiters.filter (fun i => i ≠ w) }
    (s1.wr R.WAITERS_USED (s1.rd R.WAITERS_USED - 1)).endWait x.agent x.vector st

/-- Test every sleeping waiter of a cairn against its value (R349).
[DEDUCED, log entry 45] -/
def State.testWaiters (s : State) (c : Nat) : State :=
  (s.cairn c).waiters.foldl (fun t w =>
    match t.waiter w with
    | some x => if condHolds x.cond (t.cairn c).value x.target then t.wakeWaiter w .ok else t
    | none => t) s

/-- The vector of a `NOTIFY` word (R365). -/
def notifyVector (n : Nat) : Nat := bitsOf 47 40 n

/-- Test `NOTIFY` (R366): a message goes out once each time the condition turns true. -/
def State.testNotify (s : State) (c : Nat) : State :=
  let r := s.cairn c
  let n := r.notify
  if !n.testBit 63 then s
  else if condHolds (bitsOf 62 61 n) r.value (n % 2 ^ 32) then
    if n.testBit 59 then s
    else
      let n1 := setBit n 59
      let n2 := if n.testBit 60 then clearBit n1 63 else n1
      (s.setCairn c { r with notify := n2 }).msix (notifyVector n)
  else s.setCairn c { r with notify := clearBit n 59 }

/-- The peer is reachable (R163). -/
def State.reachable (s : State) (rid : Nat) : Bool := (s.rd R.PEER_MASK).testBit rid

/-- The link that reaches a peer directly, if one is UP (R444). -/
def State.linkTo (s : State) (rid : Nat) : Option Nat :=
  (List.range 6).find? (fun l => s.rd (R.LINK_STATE l) = 2 && s.rd (R.LINK_PEER l) = rid)

/-- Send a flit of sender `src` to a peer on the direct link, or on the link its route begins with; link 255 stands for a
link that the image's tables choose (R448).
[DEDUCED, log entry 49] -/
def State.passFlit (s : State) (typ agent src dst tag addr : Nat) (poison : Bool) (payload : Bytes) : State :=
  let l := (s.linkTo dst).getD 255
  let n := smGet (fun _ => 0) s.host.seqTx l
  ({ s with host := { s.host with seqTx := smSet (fun _ => 0) s.host.seqTx l ((n + 1) % 65536) } }).emit
    (.flit l typ agent src dst tag addr poison payload)

/-- Send a flit of this device's own. -/
def State.sendFlit (s : State) (typ agent dst tag addr : Nat) (poison : Bool) (payload : Bytes) : State :=
  s.passFlit typ agent s.host.rangeId dst tag addr poison payload

/-- A cairn operation still to be carried out: a signal of an agent (`add` or set, with the cairn it forwards from), or
the forward test of a cairn (R368). -/
inductive CairnItem where
  | sig (agent c : Nat) (add : Bool) (v : Nat) (src : Option Nat)
  | test (c : Nat)

/-- A signal reaches a cairn (R347, R348): its new state, and whether it was accepted. -/
def State.applySignal (s : State) (agent c : Nat) (add : Bool) (v : Nat) : State × Bool :=
  let r := s.cairn c
  match r.cstate with
  | .armed =>
    let val := if add then (r.value + v) % 2 ^ 32 else v % 2 ^ 32
    let s1 := (s.disarmCairn c).setCairn c { r with value := val, sigCnt := (r.sigCnt + 1) % 2 ^ 32, lastSig := agent, lastT := s.nowWord }
    ((s1.testWaiters c).testNotify c, true)
  | _ => ((s.bump R.SIG_REFUSED).event 0x2A03 agent [(14, c)], false)

/-- The forward test of a cairn (R368): the forwards it issues now, and the state with `FWD_TGT` moved on. -/
def State.forwardTest (s : State) (c : Nat) : State × List CairnItem :=
  match smGet (fun _ => none) s.cs.plan c with
  | none => (s, [])
  | some p =>
    let r := s.cairn c
    if p.fwdMode = 0 || !condHolds 0 r.value r.fwdTgt then (s, [])
    else
      let s1 := s.setCairn c { r with fwdTgt := (r.fwdTgt + p.fwdStep) % 2 ^ 32 }
      let own := s.host.rangeId
      let local1 := CairnItem.sig 0xC008 p.fwdCairn true p.fwdAdd (some c)
      let far := fun (t : State) (rid : Nat) =>
        if t.reachable rid then
          t.sendFlit 5 0xC008 rid 0 p.fwdCairn false (toLe 4 p.fwdAdd)
        else t.event 0x2A06 0 [(14, c), (14, p.fwdCairn)]
      if p.fwdMode = 1 then (s1, [local1, .test c])
      else if p.fwdMode = 2 then
        if p.fwdRid = own then (s1, [local1, .test c]) else (far s1 p.fwdRid, [.test c])
      else
        let others := (List.range (s.rd R.RANGE_N)).filter (fun r => r ≠ own)
        (others.foldl far s1, [local1, .test c])

/-- Carry out cairn operations in order; forwards join the end (R368). The fuel bounds a ring of forwards, which
admission refuses (R373). -/
def runCairnItems : Nat → List CairnItem → State → State
  | 0, _, s => s
  | _, [], s => s
  | fuel + 1, .sig agent c add v src :: t, s =>
    match s.applySignal agent c add v with
    | (s1, true) => runCairnItems fuel (t ++ [.test c]) s1
    | (s1, false) =>
      match src with
      | some f => runCairnItems fuel t (s1.event 0x2A06 0 [(14, f), (14, c)])
      | none => runCairnItems fuel t s1
  | fuel + 1, .test c :: t, s =>
    let r := s.forwardTest c
    runCairnItems fuel (t ++ r.2) r.1

/-- An agent's signal-add or signal-set, with everything it causes (R347 to R349, R366, R368). -/
def State.signal (s : State) (agent c : Nat) (add : Bool) (v : Nat) : State :=
  runCairnItems (2 ^ 40) [.sig agent c add v none] s

/-- Signal-add (R347). -/
def State.sigAdd (s : State) (agent c v : Nat) : State := s.signal agent c true v

/-- The waiter records of a pool (R352): the image's waits, or Keeper's and the host's. -/
def waiterPool (agent : Nat) : Nat × Nat :=
  if agent / 4096 = 7 || agent / 4096 = 6 then (7936, 256) else (0, 7936)

/-- The lowest free record of a pool.
[DEDUCED, log entry 45] -/
def State.freeWaiter (s : State) (agent : Nat) : Option Nat :=
  let p := waiterPool agent
  ((List.range p.2).map (fun i => p.1 + i)).find? (fun w => s.waiter w = none)

/-- A wait reaches the Cairn Store (R349, R352): `none` when it sleeps, otherwise the status it completes with.
[DEDUCED, log entry 45] -/
def State.wait (s : State) (agent c cond target tmoUs : Nat) (vector : Option Nat) : State × Option WaitStatus :=
  let r := s.cairn c
  if r.cstate ≠ .armed then (s, some .poison)
  else if condHolds cond r.value target then (s, some .ok)
  else match s.freeWaiter agent with
    | none => ((s.bump R.NOWAIT_CNT).event 0x2A04 0 [], some .noWaiter)
    | some w =>
      let x : Waiter := { cairn := c, cond := cond, target := target, agent := agent,
                          deadline := s.now + tmoUs * ftUs, vector := vector }
      let s1 := (((s.disarmCairn c).disarmFlip 11).setWaiter w (some x)).setCairn c { r with waiters := r.waiters ++ [w] }
      let used := s1.rd R.WAITERS_USED + 1
      ((s1.wr R.WAITERS_USED used).wr R.WAITERS_PEAK (max used (s1.rd R.WAITERS_PEAK)), none)

/-- Poison a cairn (R361): waiters wake, an armed `NOTIFY` sends its message, the event names cairn and owner. -/
def State.poisonCairn (s : State) (c : Nat) : State :=
  let r := s.cairn c
  let s1 := (s.disarmCairn c).setCairn c { r with cstate := .poisoned }
  let s2 := r.waiters.foldl (fun t w => t.wakeWaiter w .poison) s1
  let s3 := if r.notify.testBit 63 then
      let s' := s2.msix (notifyVector r.notify)
      if r.notify.testBit 60 then s'.setCairn c { s'.cairn c with notify := clearBit r.notify 63 } else s'
    else s2
  (s3.bump R.POISON_CNT).event 0x2A02 0 [(14, c), (16, r.owner)]

/-- Poison every ARMED cairn whose owner is `owner` (R360). -/
def State.poisonOwner (s : State) (owner : Nat) : State :=
  let cs := s.cs.cairns.filter (fun e => e.2.cstate = .armed && e.2.owner = owner)
  cs.foldl (fun t e => t.poisonCairn e.1) s

/-- Re-arm a cairn (R363): the rest value and the plan's forward target.
[DEDUCED, log entry 45] -/
def State.rearm (s : State) (c rest : Nat) : State :=
  let r := s.cairn c
  let tgt := match smGet (fun _ => none) s.cs.plan c with
    | some p => p.fwdTgt
    | none => r.fwdTgt
  (s.disarmCairn c).setCairn c { r with value := rest, rest := rest, fwdTgt := tgt, cstate := .armed }

/-- A cairn is at rest for the balance check (R370, R374). -/
def State.cairnAtRest (s : State) (c : Nat) (p : CairnPlan) : Bool :=
  let r := s.cairn c
  if p.fwdMode = 0 then r.value = r.rest else r.value = (r.fwdTgt + 2 ^ 32 - p.fwdStep) % 2 ^ 32

/-- The balance check of an epoch instant (R374). -/
def State.balanceCheck (s : State) : State :=
  if s.rd R.BAL_EN = 0 then s
  else
    let bad := s.cs.plan.filter (fun e => match e.2 with
      | some p => p.bal && (s.cairn e.1).cstate = .armed && !s.cairnAtRest e.1 p
      | none => false)
    if bad.isEmpty then s
    else
      let ids := (bad.map (fun e => e.1)).take 8
      let list := leNat ((ids ++ List.replicate (8 - ids.length) 0xFFFF).flatMap (fun x => toLe 2 x))
      ((s.bumpN R.BAL_FAIL bad.length).wr R.BAL_LIST list).event 0x2A05 0 []

/-- The 64 bytes of a cairn record (R344); the WO fields read 0. -/
def State.cairnWord (s : State) (c : Nat) : Nat :=
  let r := s.cairn c
  let st := match r.cstate with | .free => 0 | .armed => 1 | .poisoned => 2
  r.value + r.sigCnt * 2 ^ 32 + st * 2 ^ 64 + (r.waiters.head?.getD 0xFFFF) * 2 ^ 96 + r.waiters.length * 2 ^ 112 +
  r.owner * 2 ^ 128 + r.lastSig * 2 ^ 144 + r.rest * 2 ^ 160 + r.fwdTgt * 2 ^ 192 + r.notify * 2 ^ 320 + r.lastT * 2 ^ 384

/-- The next waiter of a record on its cairn's list (R375). -/
def nextWaiter (w : Nat) : List Nat → Nat
  | [] => 0xFFFF
  | a :: t => if a = w then t.head?.getD 0xFFFF else nextWaiter w t

/-- The 16 bytes of a waiter record (R375). -/
def State.waiterWord (s : State) (w : Nat) : Nat :=
  match s.waiter w with
  | none => 0xFFFF * 2 ^ 16
  | some x =>
    1 + (nextWaiter w (s.cairn x.cairn).waiters) * 2 ^ 16 + x.agent * 2 ^ 32 + x.cond * 2 ^ 48 + x.cairn * 2 ^ 50 +
    (min ((x.deadline - s.now) / ftNs) 0xFFFFFFFF) * 2 ^ 64 + x.target * 2 ^ 96

end Sys2Proof.Machine
end

