-- ==== Sys2Proof/Machine/QueueOps.lean ====
section
/-! DEFINITION. The queues' operations (chapter 13): push, pop, commit, abort, mark, rewind, release, flush. -/
namespace Sys2Proof.Machine

/-- A queue's pointers and modes of use. -/
def State.queue (s : State) (q : Nat) : Queue := smGet (fun _ => Queue.empty) s.queues q

/-- Set a queue's pointers and modes of use. -/
def State.setQueue (s : State) (q : Nat) (v : Queue) : State :=
  { s with queues := smSet (fun _ => Queue.empty) s.queues q v }

/-- The words of a queue: 2^`Q_LOG2` (R378). -/
def State.qWords (s : State) (q : Nat) : Nat := 2 ^ s.rd (R.Q_LOG2 q)

/-- Pointer arithmetic is modulo 2^(k+1) (R381). -/
def State.qSub (s : State) (q a b : Nat) : Nat := (a + 2 * s.qWords q - b) % (2 * s.qWords q)

/-- The pointer `n` further on. -/
def State.qAdd (s : State) (q a n : Nat) : Nat := (a + n) % (2 * s.qWords q)

/-- The queue is enabled (R378). -/
def State.qEnabled (s : State) (q : Nat) : Bool := s.rd (R.Q_LOG2 q) ≠ 0

/-- `Q_COUNT` = CP − RP (R381). -/
def State.qCount (s : State) (q : Nat) : Nat :=
  if s.qEnabled q then s.qSub q (s.queue q).cp (s.queue q).rp else 0

/-- `Q_HELD` = WP − LP (R381). -/
def State.qHeld (s : State) (q : Nat) : Nat :=
  if s.qEnabled q then s.qSub q (s.queue q).wp (s.queue q).lp else 0

/-- `Q_FREE` = 2^k − `Q_HELD` (R386). -/
def State.qFree (s : State) (q : Nat) : Nat := if s.qEnabled q then s.qWords q - s.qHeld q else 0

/-- The local address of the storage word of pointer `p` (R381). -/
def State.qAddr (s : State) (q p : Nat) : Nat := 0x12000000000 + 8 * (s.rd (R.Q_BASE q) + p % s.qWords q)

/-- Packet mode (R387). -/
def State.qPkt (s : State) (q : Nat) : Bool := (s.rd (R.Q_MODE q)).testBit 0

/-- Hold mode (R385). -/
def State.qHold (s : State) (q : Nat) : Bool := (s.rd (R.Q_MODE q)).testBit 1

/-- The agent is the declared one; class 7 stands for any host route (R378). -/
def agentMatches (declared agent : Nat) : Bool :=
  declared = agent || (declared / 4096 = 7 && agent / 4096 = 7)

/-- An access by an undeclared agent (R384). -/
def State.qForeign (s : State) (q agent : Nat) : State :=
  (s.bump (R.FOREIGN q)).event 0x2B04 agent [(8, q)]

/-- Set bits of `Q_STAT` (R395). -/
def State.qStat (s : State) (q bit : Nat) : State := s.wr (R.Q_STAT q) (setBit (s.rd (R.Q_STAT q)) bit)

/-- The signal of a commit, or of a push outside packet mode, to `Q_CAIRN` (R387). -/
def State.qSignal (s : State) (q : Nat) : State :=
  let c := s.rd (R.Q_CAIRN q)
  if c.testBit 15 then s.sigAdd (s.rd (R.Q_PROD q)) (c % 2 ^ 14) 1 else s

/-- The pushes of words that find the queue full are ignored; the overrun is reported (R386). -/
def State.qOverrun (s : State) (q : Nat) : State :=
  let first := !(s.rd (R.Q_STAT q)).testBit 0
  let s1 := (s.bump (R.OVR_CNT q)).qStat q 0
  let s2 := if first then s1.event 0x2B01 0 [(8, q)] else s1
  if s.qPkt q then s2.setQueue q { s2.queue q with bad := true } else s2

/-- Store one word at WP (R381, R387, R392, R393). -/
def State.qStore (s : State) (q : Nat) (w : Bytes) (poison : Bool) : State :=
  let x := s.queue q
  let s1 := s.writeWord (s.rd (R.Q_PROD q)) (s.qAddr q x.wp) 0 w poison
  let wp := s.qAdd q x.wp 1
  let x1 := if s.qPkt q then { x with wp := wp, bad := x.bad || poison } else { x with wp := wp, cp := wp }
  let s2 := s1.setQueue q x1
  s2.wr (R.Q_PEAK q) (max (s2.rd (R.Q_PEAK q)) (s2.qHeld q))

/-- Push one 8-byte word as the declared producer.
[DEDUCED, log entry 46] -/
def State.qPushWord (s : State) (q : Nat) (w : Bytes) (poison : Bool) : State :=
  if (s.queue q).ignoring then s
  else if s.qHeld q = s.qWords q then s.qOverrun q
  else s.qStore q w poison

/-- Cut bytes into 8-byte words. -/
def words8 (bs : Bytes) : List Bytes := (List.range (bs.length / 8)).map (fun i => slice bs (8 * i) 8)

/-- A push of bytes by an agent (R380, R383, R384). Outside packet mode it signals once its words are visible. -/
def State.qPush (s : State) (q agent : Nat) (data : Bytes) (poison : Bool) : State :=
  if !s.qEnabled q then s
  else if data.length % 8 ≠ 0 then s.bump (R.FOREIGN q)
  else if !agentMatches (s.rd (R.Q_PROD q)) agent then s.qForeign q agent
  else
    let s1 := (words8 data).foldl (fun t w => t.qPushWord q w poison) s
    if s.qPkt q then s1
    else if (s1.queue q).wp = (s.queue q).wp then s1 else s1.qSignal q

/-- The packet in progress is rewound as bad (R387). -/
def State.qRewindBad (s : State) (q : Nat) : State :=
  let x := s.queue q
  ((s.setQueue q { x with wp := x.cp, bad := false }).qStat q 1 |>.bump (R.PKT_DROP q)).event 0x2B02 0 [(8, q)]

/-- A commit by the producer (R387, R391). -/
def State.qCommit (s : State) (q : Nat) : State :=
  let x := s.queue q
  if !s.qPkt q then s
  else if x.ignoring then s.setQueue q { x with ignoring := false, bad := false }
  else if x.bad then s.qRewindBad q
  else (s.setQueue q { x with cp := x.wp }).qSignal q

/-- An abort by the producer (R387). -/
def State.qAbort (s : State) (q : Nat) : State :=
  let x := s.queue q
  if !s.qPkt q then s
  else if x.ignoring then s.setQueue q { x with ignoring := false, bad := false }
  else s.setQueue q { x with wp := x.cp, bad := false }

/-- Push a record as one packet and commit it, as a unit does (R154, R278, R508). -/
def State.qPacket (s : State) (q agent : Nat) (data : Bytes) : State :=
  let s1 := s.qPush q agent data false
  if s.qPkt q && agentMatches (s.rd (R.Q_PROD q)) agent then s1.qCommit q else s1

/-- Take one committed word: its bytes, whether it is poisoned, and the queue after it (R381, R385, R392). -/
def State.qTake (s : State) (q agent : Nat) : Bytes × Bool × State :=
  let x := s.queue q
  let a := s.qAddr q x.rp
  let r := s.readMem agent a 8
  let rp := s.qAdd q x.rp 1
  let x1 := if s.qHold q then { x with rp := rp } else { x with rp := rp, mp := rp, lp := rp }
  (r.data, r.poison, r.s.setQueue q x1)

/-- Take up to `n` words while there are committed ones. -/
def qTakeN (q agent : Nat) : Nat → State → Bytes × Bool × State
  | 0, s => ([], false, s)
  | n + 1, s =>
    if s.qCount q = 0 then ([], false, s)
    else
      let (d, p, s1) := s.qTake q agent
      let (d2, p2, s2) := qTakeN q agent n s1
      (d ++ d2, p || p2, s2)

/-- The empty marker (R390). -/
def emptyMarker : Bytes := List.replicate 8 0xFF

/-- `n` empty markers. -/
def markers (n : Nat) : Bytes := (List.replicate n emptyMarker).flatten

/-- Completion of a pop to its agent: a host read, or data to an internal consumer. -/
def State.popDone (s : State) (q agent : Nat) (data : Bytes) (poison : Bool) : State :=
  if agent / 4096 = 7 then
    let s1 := (if poison then s.qStat q 3 else s).wr (R.R_REASON (agent % 4096)) 0
    if agent % 4096 = 2 then s1.emit (.usdo true 0 data) else s1.emit (.hostRead (agent % 4096) true poison data)
  else s.emit (.popData agent poison data)

/-- A flush (R391). -/
def State.qFlush (s : State) (q : Nat) : State :=
  let x := s.queue q
  if !s.qEnabled q then s
  else
    let inPkt := s.qPkt q && x.wp ≠ x.cp
    ((s.setQueue q { x with cp := x.wp, rp := x.wp, mp := x.wp, lp := x.wp, bad := false,
                            ignoring := x.ignoring || inPkt }).qStat q 4).event 0x2B03 0 [(8, q)]

/-- The 24 bytes of `Q_PTRS` (R396). -/
def State.qPtrs (s : State) (q : Nat) : Nat :=
  let x := s.queue q
  x.wp + x.cp * 2 ^ 32 + x.rp * 2 ^ 64 + x.mp * 2 ^ 96 + x.lp * 2 ^ 128

/-- A producer's reset rewinds its packet and ends a run of ignored words (R387). -/
def State.qProducerReset (s : State) (agent : Nat) : State :=
  (List.range 256).foldl (fun t q =>
    if t.qEnabled q && t.rd (R.Q_PROD q) = agent then
      let x := t.queue q
      let t1 := if t.qPkt q && x.wp ≠ x.cp then t.qRewindBad q else t
      t1.setQueue q { t1.queue q with ignoring := false, bad := false }
    else t) s

/-- At an admission every queue's pointers and status are 0 (R380). -/
def State.qReset (s : State) (q : Nat) : State :=
  (s.setQueue q { Queue.empty with wait := (s.queue q).wait }).wr (R.Q_STAT q) 0

/-- An owner is reset or pre-empted: its cairns are poisoned and its packets rewound (R360, R361, R387). -/
def State.ownerReset (s : State) (owner : Nat) : State := (s.poisonOwner owner).qProducerReset owner

end Sys2Proof.Machine
end

