-- ==== Sys2Proof/Machine/Events.lean ====
section
/-! DEFINITION. Taking up the events of a command (R506 to R510), the Logbook's records (R516 to R519), and the frame every
command's meaning stands in. -/
namespace Sys2Proof.Machine

/-- The route entry of an event code (R506): severity and `FAULT` of a detector are fixed (R513). -/
def State.evtRoute (s : State) (code : Nat) : Nat :=
  let h := code / 256 - 0x20; let lo := code % 256
  let v := s.rd (R.EVT_ROUTE h lo)
  if code / 256 = 0x2F && detListed lo then v % 2 ^ 13 + detRoute lo else v

/-- The 32 bytes of an event record (R504). -/
def State.eventRecord (s : State) (e : RawEvent) (seqNo sev : Nat) (lost : Bool) : Nat :=
  boolNat lost * 2 ^ 5 + sev * 2 ^ 6 + (seqNo % 2 ^ 24) * 2 ^ 8 + e.code * 2 ^ 32 + e.agent * 2 ^ 48 + e.arg0 * 2 ^ 64 +
  e.arg1 * 2 ^ 96 + s.nowWord * 2 ^ 128

/-- Log a record (R508), and push it to `EVT_QUEUE` when that is the Logbook's.
[DEDUCED, log entry 8] -/
def State.logEvent (s : State) (rec : Nat) : State :=
  if s.diag.log.length < 256 then
    let s1 := { s with diag := { s.diag with log := s.diag.log ++ [rec], lost := false } }
    let q := s.rd R.EVT_QUEUE
    if q < 64 && s.rd (R.Q_PROD q) = 0xA000 then
      if 4 ≤ s1.qFree q then s1.qPacket q 0xA000 (toLe 32 rec) else s1.bump R.EVT_QLOST
    else s1
  else { s with diag := { s.diag with lost := true } }.bump R.EVT_LOST

/-- The 16 data bytes of an event frame (R509). -/
def eventFrame (rec : Nat) : Bytes :=
  toLe 16 (rec % 2 ^ 32 + (rec / 2 ^ 192 % 2 ^ 32) * 2 ^ 32 + (rec / 2 ^ 32 % 2 ^ 32) * 2 ^ 64 +
    (rec / 2 ^ 64 % 2 ^ 32) * 2 ^ 96)

/-- Queue an event frame (R509): none in replay, 16 at most. -/
def State.queueEventFrame (s : State) (rec : Nat) : State :=
  if s.replaying then s
  else if s.diag.canQ.length < 16 then { s with diag := { s.diag with canQ := s.diag.canQ ++ [rec] } }
  else s.bump R.EVT_CAN_LOST

/-- One raised event under R507: detector counter and `FAULT_CAUSE` always; then suppression, `SEQ` and the routes.
[DEDUCED, log entry 8] -/
def State.takeEvent (s : State) (e : RawEvent) : State :=
  let route := s.evtRoute e.code
  let s1 := if e.code / 256 = 0x2F && detListed (e.code % 256) then s.bump (R.DET_CNT (e.code % 256)) else s
  let s2 := if route.testBit 13 then s1.wr R.FAULT_CAUSE (setBit (s1.rd R.FAULT_CAUSE) 5) else s1
  let key := e.code * 65536 + e.agent
  let hold := s2.rd R.EVT_HOLDOFF * tclkUs
  let last := smGet (fun _ => 0) s2.diag.hold key
  if last ≠ 0 && s2.tclk + 1 < last + hold then s2.bump R.EVT_SUPP
  else
    let n := s2.diag.seqNo
    let rec0 := s2.eventRecord e n (route / 2 ^ 14) s2.diag.lost
    let s3 := { s2 with diag := { s2.diag with seqNo := (n + 1) % 2 ^ 24,
                                               hold := smSet (fun _ => 0) s2.diag.hold key (s2.tclk + 1) } }
    let s4 := if route.testBit 11 then s3.logEvent rec0 else s3
    let s5 := if route.testBit 10 then s4.msix (route % 256) else s4
    if route.testBit 12 then s5.queueEventFrame rec0 else s5

/-- Events of one NCLK cycle are taken in ascending code, then ascending agent (R507). -/
def insertEvent (e : RawEvent) : List RawEvent → List RawEvent
  | [] => [e]
  | x :: t => if e.code * 65536 + e.agent < x.code * 65536 + x.agent then e :: x :: t else x :: insertEvent e t

/-- Take up every event raised by the command. One that this itself raises is of a later cycle: the next command's.
[DEDUCED, log entry 8] -/
def State.settle (s : State) : State :=
  let es := s.diag.raised.foldl (fun l e => insertEvent e l) []
  es.foldl State.takeEvent { s with diag := { s.diag with raised := [] } }

/-- The state a command starts from: the outputs of the last command are gone.
[DESIGN CHOICE, log entry 7] -/
def State.fresh (s : State) : State := { s with out := [] }

/-- The end of a command that started in `s` and whose effect is complete in `t`: the events raised are taken up; the waiting
commands are as they were.
[DESIGN CHOICE, log entry 7] -/
def State.after (s t : State) : State := { t.settle with pending := s.pending }

/-- The frame of a command's meaning `f`: nothing acts while `PORST_N` is low (R535).
[DESIGN CHOICE, log entries 2, 7; DEDUCED, log entry 8] -/
def State.run (s : State) (f : State → State) : Host.Outcome State Fault Refusal :=
  if s.power.porstLow then .next s.fresh else .next (s.after (f s.fresh))

/-! ### The Logbook's records -/

/-- The bytes of a record: a 32-byte header and the payload, padded to 32 bytes (R517). -/
def lbSize (r : LbRec) : Nat := 32 + 32 * ceilDiv r.payload.length 32

/-- A record's bytes (R517). -/
def lbRecBytes (r : LbRec) : Bytes :=
  toLe 32 (r.rseq % 2 ^ 24 + r.rtype * 2 ^ 24 + r.src * 2 ^ 32 + lbSize r * 2 ^ 48 + r.tclk * 2 ^ 64 + r.time * 2 ^ 128) ++
  padTo (lbSize r - 32) r.payload

/-- The bytes that records occupy. -/
def lbBytes (l : List LbRec) : Nat := (l.map lbSize).foldl (· + ·) 0

/-- The size of the DRAM ring: allocation `LB_ALLOC` (R519). -/
def State.lbRingSize (s : State) : Nat :=
  match smGet (fun _ => none) s.allocs (s.rd R.LB_ALLOC) with
  | some a => a.size
  | none => 0

/-- Append a record to the DRAM ring, or drop it whole; 64 bytes are always kept for a GAP record (R519). -/
def State.lbAppend (s : State) (time src rtype : Nat) (payload : Bytes) : State :=
  let mk := fun (n : Nat) (ty : Nat) (p : Bytes) => ({ time := time, tclk := s.tclk, src := src, rtype := ty, rseq := n,
                                                       payload := p } : LbRec)
  let n := s.lb.rseq
  let r := mk n rtype payload
  let room := s.lbRingSize - lbBytes s.lb.ring
  match s.lb.gap with
  | none =>
    if lbSize r + 64 ≤ room then { s with lb := { s.lb with ring := s.lb.ring ++ [r], rseq := (n + 1) % 2 ^ 24 } }
    else
      let s1 := { s with lb := { s.lb with gap := some (1, s.tclk, s.tclk), dropRun := true } }.bump R.LB_DROP
      if s.lb.dropRun then s1 else s1.event 0x2F71 0 []
  | some (k, first, _) =>
    let g := mk n 0x3F (toLe 8 k ++ toLe 8 first ++ toLe 8 s.tclk)
    if lbSize g + lbSize r + 64 ≤ room + 64 then
      let r2 := mk ((n + 1) % 2 ^ 24) rtype payload
      { s with lb := { s.lb with ring := s.lb.ring ++ [g, r2], rseq := (n + 2) % 2 ^ 24, gap := none } }
    else { s with lb := { s.lb with gap := some (k + 1, first, s.tclk) } }.bump R.LB_DROP

/-- Record an item while `LB_EN` = 1 (R516). -/
def State.lbRecord (s : State) (src rtype : Nat) (payload : Bytes) : State :=
  if s.rd R.LB_EN = 1 && !s.replaying then s.lbAppend s.nowWord src rtype payload else s

/-- The payload of a timebase record (R518). -/
def State.timebase (s : State) : Bytes :=
  toLe 8 s.clock.sec ++ toLe 4 s.clock.ns ++ toLe 4 s.clock.frac ++ toLe 4 (s.rd R.RATE_ADJ) ++
  toLe 1 (s.rd R.MER_STATE) ++ toLe 4 (s.rd R.STEP_COUNT)

/-- A timebase record, at every step, state change and write of `RATE_ADJ` (R516). -/
def State.lbTimebase (s : State) : State := s.lbRecord 0xA000 0x20 s.timebase

end Sys2Proof.Machine
end

