-- ==== Sys2Proof/Machine/Keccak.lean ====
section
/-! DEFINITION. SHAKE256 and KMAC256 as the standards the spec names give them (FIPS 202 and SP 800-185; R479, R487): the
Keccak-f[1600] permutation over 25 lanes of 64 bits, lane (x, y) at place x + 5 y. -/
namespace Sys2Proof.Machine

/-- A lane. -/
abbrev Lane := BitVec 64

/-- The lane at place `i`. -/
def laneAt (a : List Lane) (i : Nat) : Lane := a.getD i 0

/-- The round constants. -/
def keccakRc : List Lane := [
  0x0000000000000001, 0x0000000000008082, 0x800000000000808A, 0x8000000080008000, 0x000000000000808B,
  0x0000000080000001, 0x8000000080008081, 0x8000000000008009, 0x000000000000008A, 0x0000000000000088,
  0x0000000080008009, 0x000000008000000A, 0x000000008000808B, 0x800000000000008B, 0x8000000000008089,
  0x8000000000008003, 0x8000000000008002, 0x8000000000000080, 0x000000000000800A, 0x800000008000000A,
  0x8000000080008081, 0x8000000000008080, 0x0000000080000001, 0x8000000080008008]

/-- The rotation of the lane at place x + 5 y. -/
def keccakRot : List Nat :=
  [0, 1, 62, 28, 27, 36, 44, 6, 55, 20, 3, 10, 43, 25, 39, 41, 45, 15, 21, 8, 18, 2, 61, 56, 14]

/-- One round: theta, rho and pi, chi, iota. -/
def keccakRound (a : List Lane) (rc : Lane) : List Lane :=
  let c := (List.range 5).map (fun x =>
    laneAt a x ^^^ laneAt a (x + 5) ^^^ laneAt a (x + 10) ^^^ laneAt a (x + 15) ^^^ laneAt a (x + 20))
  let d := (List.range 5).map (fun x => laneAt c ((x + 4) % 5) ^^^ (laneAt c ((x + 1) % 5)).rotateLeft 1)
  let t := (List.range 25).map (fun i => laneAt a i ^^^ laneAt d (i % 5))
  let b := (List.range 25).map (fun i =>
    let x := i % 5; let y := i / 5
    let src := (x + 3 * y) % 5 + 5 * x
    (laneAt t src).rotateLeft (keccakRot.getD src 0))
  let e := (List.range 25).map (fun i =>
    let x := i % 5; let y := i / 5
    laneAt b i ^^^ (~~~ laneAt b ((x + 1) % 5 + 5 * y) &&& laneAt b ((x + 2) % 5 + 5 * y)))
  match e with
  | h :: r => (h ^^^ rc) :: r
  | [] => []

/-- The permutation. -/
def keccakF (a : List Lane) : List Lane := keccakRc.foldl keccakRound a

/-- The rate of SHAKE256 and KMAC256 in bytes. -/
abbrev shakeRate : Nat := 136

/-- The lanes of a block, zero beyond it. -/
def blockLanes (b : Bytes) : List Lane := (List.range 25).map (fun i => BitVec.ofNat 64 (leAt b (8 * i) 8))

/-- Absorb the first `n` blocks. -/
def absorb : Nat → Bytes → List Lane → List Lane
  | 0, _, a => a
  | n + 1, m, a => absorb n (m.drop shakeRate) (keccakF (List.zipWith (· ^^^ ·) a (blockLanes (m.take shakeRate))))

/-- The bytes of a state. -/
def stateBytes (a : List Lane) : Bytes := a.flatMap (fun l => toLe 8 l.toNat)

/-- Squeeze `n` blocks. -/
def squeeze : Nat → List Lane → Bytes
  | 0, _ => []
  | n + 1, a => (stateBytes a).take shakeRate ++ squeeze n (keccakF a)

/-- The sponge with domain byte `ds`: `n` bytes of output. -/
def sponge (ds : Byte) (m : Bytes) (n : Nat) : Bytes :=
  let k := m.length / shakeRate + 1
  let z := k * shakeRate - m.length
  let pad : Bytes := if z = 1 then [ds ^^^ 0x80] else ds :: (List.replicate (z - 2) 0 ++ [0x80])
  (squeeze (ceilDiv n shakeRate) (absorb k (m ++ pad) (List.replicate 25 0))).take n

/-- SHAKE256 with `n` bytes of output (R487).
[DEDUCED, log entry 10] -/
def shake256 (m : Bytes) (n : Nat) : Bytes := sponge 0x1F m n

/-- The least number of bytes that hold `x`, at least 1. -/
def bytesFor (x : Nat) : Nat := if x < 256 then 1 else if x < 65536 then 2 else if x < 16777216 then 3 else 4

/-- `left_encode` of SP 800-185. -/
def leftEncode (x : Nat) : Bytes := BitVec.ofNat 8 (bytesFor x) :: (toLe (bytesFor x) x).reverse

/-- `right_encode` of SP 800-185. -/
def rightEncode (x : Nat) : Bytes := (toLe (bytesFor x) x).reverse ++ [BitVec.ofNat 8 (bytesFor x)]

/-- `encode_string` of SP 800-185. -/
def encodeString (m : Bytes) : Bytes := leftEncode (8 * m.length) ++ m

/-- `bytepad` of SP 800-185 to a multiple of the rate. -/
def bytePad (m : Bytes) : Bytes :=
  let z := leftEncode shakeRate ++ m
  padTo (shakeRate * ceilDiv z.length shakeRate) z

/-- KMAC256 of message `x` under key `k` with customisation `cust`, `n` bytes of output (R479, R498).
[DEDUCED, log entry 10] -/
def kmac256 (k x cust : Bytes) (n : Nat) : Bytes :=
  sponge 0x04 (bytePad (encodeString (asciiBytes "KMAC") ++ encodeString cust) ++
    (bytePad (encodeString k) ++ x ++ rightEncode (8 * n))) n

end Sys2Proof.Machine
end

