-- ==== Sys2Proof/Machine/MerOps.lean ====
section
/-! DEFINITION. Meridian's rate, states and estimates (R43 to R46, R50 to R53, R562), apart from what a step does to the
other units. -/
namespace Sys2Proof.Machine

/-- The nominal increment (R42). -/
abbrev incNom : Nat := 8589934592

/-- `num / den` rounded to the nearest integer, halves away from zero (R53). -/
def roundDiv (num den : Int) : Int :=
  let n := if den < 0 then -num else num
  let d := if den < 0 then -den else den
  if d = 0 then 0
  else if n < 0 then -((2 * (-n) + d) / (2 * d)) else (2 * n + d) / (2 * d)

/-- Change Meridian's state; a change raises event 0x2103 and is recorded (R51, R516). -/
def State.setMer (s : State) (n : Nat) : State :=
  if s.rd R.MER_STATE = n then s else ((s.wr R.MER_STATE n).event 0x2103 0 []).lbTimebase

/-- Write `RATE_ADJ` (R43); the new value is recorded (R516). -/
def State.setRate (s : State) (v : Int) : State := (s.wr R.RATE_ADJ (ofSgn 32 v)).lbTimebase

/-- The servo's demand, limited to ±500 ppm; event 0x2102 at the first clamped demand (R43). -/
def State.demandRate (s : State) (v : Int) : State :=
  let c := clampInt (-4294967) 4294967 v
  let out := c ≠ v
  let s1 := if out && !s.mer.clamped then s.event 0x2102 0 [] else s
  { s1 with mer := { s1.mer with clamped := out } }.setRate c

/-- The servo writes `RATE_ADJ` only while it owns it (R44). -/
def State.servoWrite (s : State) (v : Int) : State := if s.rd R.SERVO_EN = 1 then s.demandRate v else s

/-- The offset filter holds no sample (R562). -/
def State.clearFilter (s : State) : State :=
  { s with mer := { s.mer with filt := [], acc := [], accN := 0 } }

/-- The median of up to three samples: one is itself, two give their mean truncated to the nanosecond (R562). Offsets
are in 2^−16 ns; the answer is in ns. -/
def medianNs (l : List Int) : Int :=
  match l with
  | [a] => a.tdiv 65536
  | [a, b] => (a + b).tdiv 131072
  | [a, b, c] => (max (min a b) (min (max a b) c)).tdiv 65536
  | _ => 0

/-- The last `n` entries of a list. -/
def lastN (n : Nat) (l : List α) : List α := l.drop (l.length - n)

/-- Step 1 of R562: the sample enters the filter, and `OFFSET` follows. -/
def State.filterSample (s : State) (o : OffSample) : State :=
  let f := lastN 3 (s.mer.filt ++ [o.off])
  { s with mer := { s.mer with filt := f } }.wr R.OFFSET (ofSgn 64 (medianNs f))

/-- `OFFSET` in ns. -/
def State.offset (s : State) : Int := s.rdI 64 R.OFFSET

/-- The slew term of R562 step 4.
[DEDUCED, log entry 18] -/
def State.slewTerm (s : State) : Int :=
  if s.mer.filt = [] then 0
  else
    let lim := roundDiv (s.rd R.SLEW_MAX * 2 ^ 33) 1000000000
    clampInt (-lim) lim (roundDiv (-(s.offset) * 2 ^ 33) 1000000000)

/-- The frequency term of R45 from samples under R562 step 3: y = s − c, with s the least-squares slope of the offsets
against their stamps and c the mean of `RATE_ADJ` / 2^33 over the TCLK cycles they span. `none` where the samples share
one instant, for which the spec states no result.
[DEDUCED, log entry 18] -/
def freqTermOf (l : List OffSample) : Option Int :=
  let x0 := (l.head?.map (fun o => o.stamp)).getD 0
  let n : Int := l.length
  let xs := l.map (fun o => ((o.stamp : Int) - (x0 : Int)))
  let sx := xs.foldl (· + ·) 0
  let so := l.foldl (fun a o => a + o.off) 0
  let sxx := xs.foldl (fun a x => a + x * x) 0
  let sxo := l.foldl (fun a o => a + ((o.stamp : Int) - (x0 : Int)) * o.off) 0
  let den := n * sxx - sx * sx
  match l.head?, l.getLast? with
  | some a, some b =>
    let cyc : Int := (b.tclk : Int) - (a.tclk : Int)
    if den = 0 || cyc = 0 then none
    else
      -- s = num / den; c = adj / (cyc * 2^33); y = yn / yd
      let num := n * sxo - sx * so
      let cn := b.adj - a.adj
      let cd := cyc * 2 ^ 33
      let yn := num * cd - cn * den
      let yd := den * cd
      if yd + yn = 0 then none else some (roundDiv (-yn * 2 ^ 33) (yd + yn))
  | _, _ => none

/-- The frequency term is measured anew; a value the spec does not state is free.
[DEDUCED, log entry 18] -/
def State.measureFreq (s : State) (l : List OffSample) : State :=
  match freqTermOf l with
  | some f => { s with mer := { s.mer with freq := f } }
  | none =>
    let d := s.draw
    { d.2 with mer := { d.2.mer with freq := sgnOf 32 d.1 } }

/-- Freeze the rate: the frequency term alone (R50, R562). -/
def State.freezeRate (s : State) : State := s.servoWrite s.mer.freq

/-- On leaving HOLDOVER_SUSPECT the current `MEAN_PD` is accepted (R49). -/
def State.acceptPd (s : State) : State :=
  match s.mer.slave with
  | some p =>
    if (smGet (fun _ => PtpPort.reset) s.net.ports p).results = [] then s
    else ({ s with mer := { s.mer with pd := some (s.rd (R.MEAN_PD p)) } }).wr R.SRC_PD (s.rd (R.MEAN_PD p))
  | none => s

/-- HOLDOVER from any state that has a frequency term to hold (R51, R534, R536); FREERUN stays. -/
def State.merHoldover (s : State) : State :=
  if s.rd R.MER_STATE = 0 || s.rd R.MER_STATE = 3 then s
  else
    let s1 := if s.rd R.MER_STATE = 4 then s.acceptPd else s
    ({ s1 with mer := { s1.mer with qual := [], suspect := none, run := 0, decide := false } }.setMer 3).freezeRate

/-! ### Ports and the choice of the source (R46, R564) -/

/-- A PTP port beside its entries. -/
def State.ptpPort (s : State) (p : Nat) : PtpPort := smGet (fun _ => PtpPort.reset) s.net.ports p

/-- Set a PTP port. -/
def State.setPtpPort (s : State) (p : Nat) (v : PtpPort) : State :=
  { s with net := { s.net with ports := smSet (fun _ => PtpPort.reset) s.net.ports p v } }

/-- The Ethernet ports of the variant (R1, R70). -/
def State.ethPorts (s : State) : Nat := if s.variant = 3 then 16 else 8

/-- PTP runs on a port: enabled, Keeper firmware running, no replay (R48, R68, R563).
[DEDUCED, log entry 16] -/
def State.ptpOn (s : State) (p : Nat) : Bool :=
  p < s.ethPorts && s.rd (R.PTP_PORT_EN p) = 1 && s.keeperUp && !s.replaying

/-- The device may be grandmaster (R48, R564): enabled, its source GNSS, LOCKED or HOLDOVER. -/
def State.mayGm (s : State) : Bool :=
  s.rd R.GM_ENABLE = 1 && s.mer.lastSrc = some .gnss && (s.rd R.MER_STATE = 2 || s.rd R.MER_STATE = 3)

/-- The device's own priority vector (R564). Its accuracy, variance, priority2 and identity are not in the spec.
[PRESUMED, log entry 17] -/
def State.ownVec (s : State) : List Nat :=
  (if s.mayGm then [s.rd R.PRIORITY1, if s.rd R.MER_STATE = 2 then 6 else 7] else [255, 248]) ++
  [Config.ownClock 0, Config.ownClock 1, Config.ownClock 2, Config.ownClock 3, 0, Config.ownClock 3]

/-- Lexicographic order of priority vectors: the better one is smaller.
[PRESUMED, log entry 17] -/
def vecLt : List Nat → List Nat → Bool
  | a :: t, b :: u => if a < b then true else if b < a then false else vecLt t u
  | _, _ => false

/-- The enabled port with the best Announce information, better than the device's own (R564). -/
def State.bestPort (s : State) : Option Nat :=
  let c := (List.range s.ethPorts).filter (fun p => s.rd (R.PTP_PORT_EN p) = 1 && (s.ptpPort p).ann ≠ none)
  let vec := fun p => match (s.ptpPort p).ann with | some a => a.vec | none => []
  let best := c.foldl (fun m p => match m with
    | none => some p
    | some b => if vecLt (vec p) (vec b) then some p else some b) none
  match best with
  | some p => if vecLt (vec p) s.ownVec then some p else none
  | none => none

/-- `PORT_STATE` of every port (R563, R564). -/
def State.setPorts (s : State) : State :=
  let best := s.bestPort
  let gm := s.mayGm && best = none
  (List.range s.ethPorts).foldl (fun t p =>
    t.wr (R.PORT_STATE p)
      (if t.rd (R.PTP_PORT_EN p) ≠ 1 then 3 else if best = some p then 9 else if gm then 6 else 7)) s

/-- GNSS is qualified at this moment (R46, R51). -/
def State.gnssOk (s : State) : Bool :=
  match s.mer.ppsQual with
  | some t => s.tclk < t + 2 * 500000000
  | none => false

/-- The source that `SRC_SEL` chooses now (R46). -/
def State.chosenSrc (s : State) : Option TimeSrc :=
  let ptp : Option TimeSrc := match s.bestPort with
    | some p => if s.mer.syncLost then none
                else match (s.ptpPort p).ann with | some a => some (.ptp p a.gm) | none => none
    | none => none
  let g : Option TimeSrc := if s.gnssOk then some .gnss else none
  match s.rd R.SRC_SEL with
  | 0 => if ptp ≠ none then ptp else g
  | 1 => ptp
  | 2 => g
  | _ => none

/-- The slave port has changed (R49): the new port's `MEAN_PD` is accepted at once, if it has one. -/
def State.newSlave (s : State) (b : Option Nat) : State :=
  let pd := match b with
    | some p => if (s.ptpPort p).results = [] then none else some (s.rd (R.MEAN_PD p))
    | none => none
  { s with mer := { s.mer with slave := b, pd := pd, syncLost := false,
                               suspect := none } }.wr R.SRC_PD (pd.getD 0)

/-- The source in use changes to `n` (R46, R51).
[DEDUCED, log entry 16] -/
def State.changeSrc (s : State) (n : Option TimeSrc) : State :=
  let st := s.rd R.MER_STATE
  let m := s.mer
  let s1 := ({ s with mer := { m with src := n, lastSrc := if n = none then m.lastSrc else n, qual := [],
                                      run := 0 } }.clearFilter).event 0x2105 0 []
  if st = 1 || st = 2 then
    if n = none then s1.merHoldover
    else if m.src = none then s1
    else { s1 with mer := { s1.mer with decide := true } }
  else if st = 4 then s1.merHoldover
  else s1

/-- The ports and the source in use are brought up to date (R46, R564). -/
def State.reselect (s : State) : State :=
  if s.replaying || !s.keeperUp then s
  else
    let b := s.bestPort
    let s1 := if b = s.mer.slave then s else s.newSlave b
    let n := s1.chosenSrc
    let s2 := if n = s1.mer.src then s1 else s1.changeSrc n
    s2.setPorts

/-! ### The clock's step (R53, R55) -/

/-- Meridian's time moves by `d` ns, the fraction unchanged; the step is counted, stored, reported and recorded
(R53, R516). -/
def State.moveClock (s : State) (d : Int) : State :=
  let t : Int := (s.clock.sec * 1000000000 + s.clock.ns : Nat) + d
  let n := t.toNat
  let c : Clock := { sec := n / 1000000000, ns := n % 1000000000, frac := s.clock.frac }
  ((({ s with clock := c }.bump R.STEP_COUNT).wr R.LAST_STEP (ofSgn 64 d)).event 0x2101 0 []).lbTimebase

end Sys2Proof.Machine
end

