-- ==== Sys2Proof/Machine/PoseOps.lean ====
section
/-! DEFINITION. Epochs (R29), the Almanac's objects (R246 to R248), the pose ring and the pose lookup (R111 to R115). -/
namespace Sys2Proof.Machine

/-! ### Epochs -/

/-- The epoch origin, in 2^−16 ns. -/
def State.epochOrigin (s : State) : Nat := (ftOfWord (s.rd R.EPOCH_ORIGIN)).getD 0

/-- instant(n) (R29). -/
def State.instant (s : State) (n : Nat) : Nat := s.epochOrigin + n * s.rd R.EPOCH_P * ftNs

/-- instant(n − 1), for n = 0 as well (R29); 0 where it would lie before the PTP epoch. -/
def State.instantBefore (s : State) (n : Nat) : Nat := s.epochOrigin + n * s.rd R.EPOCH_P * ftNs - s.rd R.EPOCH_P * ftNs

/-- The epoch whose range data a time belongs to: the first n with instant(n) > t (R29). -/
def State.epochOf (s : State) (t : Nat) : Nat :=
  if t < s.epochOrigin then 0 else (t - s.epochOrigin) / (s.rd R.EPOCH_P * ftNs) + 1

/-- The admission lag L (R28). -/
def State.lag (s : State) : Nat := s.rd R.ADM_LAG * ftUs

/-! ### The Almanac -/

/-- What an object that was never written holds: zeros, with `CELL` = 10 in the Plate geometry records (R247). -/
def objDflt (idx : Nat) : Bytes := if idx = 0x5400 || idx = 0x5401 then toLe 32 (10 * 2 ^ 64) else []

/-- A DOMAIN object of the 0x5000 area. -/
def State.obj (s : State) (idx : Nat) : Bytes := smGet objDflt s.objs idx

/-- Write a DOMAIN object. -/
def State.setObj (s : State) (idx : Nat) (v : Bytes) : State := { s with objs := smSet objDflt s.objs idx v }

/-- The object indexes of an Almanac copy, ascending (R246, R252). -/
def almIndexes (slots c : Nat) : List Nat :=
  [0x5400 + c] ++ (List.range slots).map (fun s => 0x5410 + 0x60 * c + s) ++
  (List.range slots).map (fun s => 0x5500 + 0x60 * c + s)

/-- The stream slots of the variant (R1, R84). -/
def State.slotCount (s : State) : Nat := if s.variant = 3 then 96 else 48

/-- The length of an Almanac object. -/
def almLen (idx : Nat) : Nat := if idx < 0x5410 then 32 else if idx < 0x5500 then 128 else 1024

/-- The bytes of an Almanac object. -/
def State.almObj (s : State) (idx : Nat) : Bytes := padTo (almLen idx) (s.obj idx)

/-- The Almanac copy an epoch uses (R253). -/
def State.almOfEpoch (s : State) (n : Nat) : Nat :=
  let a := s.rd R.ALM_ACTIVE
  match s.almSw with
  | some (m, _) => if n ≤ m then 1 - a else a
  | none => a

/-- The Almanac copy in use at a time: for slices and the keep test (R253). -/
def State.almOfTime (s : State) (t : Nat) : Nat :=
  let a := s.rd R.ALM_ACTIVE
  match s.almSw with
  | some (_, u) => if t < u then 1 - a else a
  | none => a

/-- Plate geometry of a copy (R247): cell size in cm, X0 and Y0 in mm. -/
structure PlateGeom where
  cell : Nat
  x0 : Int
  y0 : Int
deriving DecidableEq, Repr

def State.geom (s : State) (c : Nat) : PlateGeom :=
  let w := leNat (s.almObj (0x5400 + c))
  { cell := bitsOf 79 64 w, x0 := sgnOf 32 (bitsOf 31 0 w), y0 := sgnOf 32 (bitsOf 63 32 w) }

/-- An FP64 field as a real. -/
def fx64 (w lo : Nat) : Fx := Fx.ofDy (fpDy fp64 (bitsOf (lo + 63) lo w))

/-- An FP32 field as a real. -/
def fx32 (w lo : Nat) : Fx := Fx.ofDy (fpDy fp32 (bitsOf (lo + 31) lo w))

/-- The 128-byte slot record of a copy (R248). -/
def State.slotRec (s : State) (c slot : Nat) : Nat := leNat (s.almObj (0x5410 + 0x60 * c + slot))

/-- The extrinsic of a slot (R248).
[DEDUCED, log entry 27] -/
def State.extrinsic (s : State) (c slot : Nat) : Pose :=
  let w := s.slotRec c slot
  { q := { w := fx64 w 0, x := fx64 w 64, y := fx64 w 128, z := fx64 w 192 },
    x := { x := fx64 w 256, y := fx64 w 320, z := fx64 w 384 } }

/-- A point of R90 as a vector. -/
def Pt.vec (p : Pt) : V3 :=
  { x := Fx.ofDy (fpDy fp32 p.x), y := Fx.ofDy (fpDy fp32 p.y), z := Fx.ofDy (fpDy fp32 p.z) }

/-! ### The pose ring -/

/-- An entry of the ring as a reader takes it (R111). -/
structure RingEnt where
  t : Nat
  seqNo : Nat
  rst : Bool
  pose : Pose
  vel : V3
  rate : V3
deriving DecidableEq, Repr

/-- The local address of the entry with sequence number `q` (R111). -/
def State.ringAddr (s : State) (q : Nat) : Nat := 0x12000000000 + s.rd R.PR_BASE + 128 * (q % 512)

/-- The full time in the low 128 bits of a record, its nanoseconds taken as they stand. -/
def ftLow (w : Nat) : Nat := (bitsOf 63 0 w * 1000000000 + bitsOf 95 64 w) * 65536 + bitsOf 111 96 w

/-- A ring entry from its 128 bytes. -/
def ringEnt (w : Nat) : RingEnt :=
  { t := ftLow w, seqNo := bitsOf 831 768 w, rst := w.testBit 898,
    pose := { q := { w := fx64 w 320, x := fx64 w 384, y := fx64 w 448, z := fx64 w 512 },
              x := { x := fx64 w 128, y := fx64 w 192, z := fx64 w 256 } },
    vel := { x := fx32 w 576, y := fx32 w 608, z := fx32 w 640 },
    rate := { x := fx32 w 672, y := fx32 w 704, z := fx32 w 736 } }

/-- Read one entry as an agent, in one access: `none` when it is not `VALID` or poisoned (R111, R416). -/
def State.readRing (s : State) (agent q : Nat) : Option RingEnt × State :=
  let r := s.readMem agent (s.ringAddr q) 128
  let w := leNat r.data
  if r.st ≠ .ok || r.poison || !w.testBit 896 then (none, r.s) else (some (ringEnt w), r.s)

/-- Entries on both sides of a time: the newest valid one not later than `t`, and the oldest valid one after it. -/
structure Around where
  e : Option RingEnt
  f : Option RingEnt
  s : State

/-- Walk the ring from sequence number `q` down, at most `n` entries. -/
def walkRing (agent t : Nat) : Nat → Nat → Option RingEnt → State → Around
  | 0, _, f, s => { e := none, f := f, s := s }
  | n + 1, q, f, s =>
    match s.readRing agent q with
    | (some x, s1) =>
      if x.t ≤ t then { e := some x, f := f, s := s1 }
      else if q = 0 then { e := none, f := some x, s := s1 }
      else walkRing agent t n (q - 1) (some x) s1
    | (none, s1) => if q = 0 then { e := none, f := f, s := s1 } else walkRing agent t n (q - 1) f s1

/-- The entries around a time. -/
def State.around (s : State) (agent t : Nat) : Around :=
  if s.talus.accepted then walkRing agent t 512 (s.rd R.PR_HEAD) none s else { e := none, f := none, s := s }

/-- The difference of two times in seconds. -/
def secs (a b : Nat) : Fx := Fx.ofRat ((a : Int) - (b : Int)) ftSec

/-- Extrapolation from an entry (R113). -/
def extrapolate (g : RingEnt) (t : Nat) : Pose :=
  let d := secs t g.t
  { q := Quat.mul g.pose.q (Quat.exp (V3.smul d g.rate)),
    x := V3.add g.pose.x (V3.smul d (Quat.rotate g.pose.q g.vel)) }

/-- How a lookup resolved. -/
inductive LookupKind where
  | interp | fromBefore | fromAfter | none
deriving DecidableEq, Repr

/-- A pose lookup's result (R113): the pose, how it resolved, the sequence number of the entry it came from, the entry's
time, and the state after the reads. -/
structure Lookup where
  pose : Pose
  kind : LookupKind
  src : Option Nat
  srcT : Nat
  s : State

/-- P(t) (R113).
[DEDUCED, log entry 24] -/
def State.lookup (s : State) (agent t : Nat) : Lookup :=
  let a := s.around agent t
  match a.e, a.f with
  | some e, some f =>
    if f.t - e.t ≤ s.rd R.PR_GAP_MAX * ftUs && !f.rst then
      { pose := Pose.lerp e.pose f.pose (Fx.ofRat ((t : Int) - (e.t : Int)) ((f.t : Int) - (e.t : Int))), kind := .interp,
        src := some e.seqNo, srcT := e.t, s := a.s }
    else { pose := extrapolate e t, kind := .fromBefore, src := some e.seqNo, srcT := e.t, s := a.s }
  | some e, none => { pose := extrapolate e t, kind := .fromBefore, src := some e.seqNo, srcT := e.t, s := a.s }
  | none, some f => { pose := extrapolate f t, kind := .fromAfter, src := some f.seqNo, srcT := f.t, s := a.s }
  | none, none => { pose := .ident, kind := .none, src := none, srcT := 0, s := a.s }

/-- The newest valid entry, from the head down. -/
def newestValid (agent : Nat) : Nat → Nat → State → Option RingEnt × State
  | 0, _, s => (none, s)
  | n + 1, q, s =>
    match s.readRing agent q with
    | (some x, s1) => (some x, s1)
    | (none, s1) => if q = 0 then (none, s1) else newestValid agent n (q - 1) s1

/-- The newest valid entry of the ring. -/
def State.ringNewest (s : State) (agent : Nat) : Option RingEnt × State :=
  if s.talus.accepted then newestValid agent 512 (s.rd R.PR_HEAD) s else (none, s)

/-- The oldest valid entry of the ring. -/
def State.ringOldest (s : State) : Option RingEnt :=
  if !s.talus.accepted then none
  else
    let h := s.rd R.PR_HEAD
    let qs := (List.range 512).map (fun i => h - (511 - i))
    (qs.filterMap (fun q => (s.readRing 0x2000 q).1)).head?

/-- A `RESET` entry lies among the accepted sequence numbers `lo` + 1 to `hi`. -/
def State.resetBetween (s : State) (lo hi : Nat) : Bool :=
  (List.range (min (hi - lo) 512)).any (fun i =>
    let w := s.leAtMem (s.ringAddr (hi - i)) 128
    w.testBit 898 && bitsOf 831 768 w = hi - i)

/-- The valid entries with sequence numbers `lo` to `hi`, ascending. -/
def State.ringSpan (s : State) (lo hi : Nat) : List RingEnt :=
  ((List.range (min (hi + 1 - lo) 512)).map (fun i => lo + i)).filterMap (fun q => (s.readRing 0x1000 q).1)

/-- The frame ID of a lookup (R255): the newest accepted `RESET` entry at or before the entry it came from, or
2^64 − 1. -/
def State.frameId (s : State) (src : Option Nat) : Nat :=
  match src with
  | none => 2 ^ 64 - 1
  | some q =>
    match (List.range (min (q + 1) 512)).find? (fun i =>
        let w := s.leAtMem (s.ringAddr (q - i)) 128
        w.testBit 898 && bitsOf 831 768 w = q - i) with
    | some i => q - i
    | none => 2 ^ 64 - 1

/-- R115: the pose of a slice brought to the side of the reset that the anchor lies on; the answer says whether it was
recomputed. -/
def State.sameSide (s : State) (anchor : Option Nat) (l : Lookup) (t : Nat) : Pose × Bool :=
  match anchor, l.src with
  | some a, some b =>
    if a < b && s.resetBetween a b then
      -- the side of the anchor ends before the first RESET after it
      let side := (s.ringSpan a b).takeWhile (fun e => e.seqNo = a || !e.rst)
      match side.getLast? with
      | some g => (extrapolate g t, true)
      | none => (l.pose, false)
    else if b < a && s.resetBetween b a then
      -- the side of the anchor begins at the last RESET not after it
      let span := s.ringSpan b a
      let lastRst := (span.filter (fun e => e.rst)).getLast?
      match lastRst with
      | some g => (extrapolate g t, true)
      | none => (l.pose, false)
    else (l.pose, false)
  | _, _ => (l.pose, false)

end Sys2Proof.Machine
end

