-- ==== Sys2Proof/Machine/DictOps.lean ====
section
/-! DEFINITION. Requests on the dictionary's routes (chapter 16): presence and checks of an entry, refusals and their
reasons, deferral to Keeper, critical writes and commits. -/
namespace Sys2Proof.Machine

/-! ### Reasons (R468 and the chapters' own) -/

/-- The CiA 301 abort code of a reason (R468). -/
def abortOf (reason : Nat) : Nat :=
  match reason with
  | 0 => 0
  | 0x2001 => 0x06090011
  | 0x2002 => 0x06010002
  | 0x2003 => 0x06070010
  | 0x2004 => 0x06090030
  | 0x2005 => 0x06020000
  | 0x2006 => 0x06090030
  | 0x200B => 0x05040005
  | 0x200C => 0x05040000
  | 0x2102 => 0x08000020
  | n =>
    if (0x2701 ≤ n && n ≤ 0x2708) || (0x2D01 ≤ n && n ≤ 0x2D04) || (0x2E01 ≤ n && n ≤ 0x2E07) then 0x08000020
    else 0x08000022

/-! ### Presence (R3, R459) -/

/-- The resource of an index exists on the variant (R1, R3, R72, R443).
[DESIGN CHOICE, log entry 4] -/
def resourcePresent (variant idx sub : Nat) : Bool :=
  if variant = 3 then true
  else if 0x2230 ≤ idx && idx ≤ 0x225F then false
  else if (0x2118 ≤ idx && idx ≤ 0x211F) || (0x2298 ≤ idx && idx ≤ 0x229F) then false
  else if 0x2280 ≤ idx && idx ≤ 0x228F then false
  else if (idx = 0x2401 || idx = 0x2540 || idx = 0x2901) && 48 < sub then false
  else if 0x2D94 ≤ idx && idx ≤ 0x2D95 then false
  else if 0x5410 ≤ idx && idx ≤ 0x54CF && 48 ≤ (idx - 0x5410) % 96 then false
  else if 0x5500 ≤ idx && idx ≤ 0x55BF && 48 ≤ (idx - 0x5500) % 96 then false
  else if variant = 1 && (idx = 0x2C02 || idx = 0x2C11) then false
  else true

/-- The highest subindex an index implements, for its count at sub 0; the commit window has none (R459).
[DEDUCED, log entry 50] -/
def subCount (idx : Nat) : Nat :=
  if idx = 0x2E10 then 0 else
  entryRows.foldl (fun m r => if r.idx ≤ idx && idx < r.idx + r.cnt && 1 ≤ r.lo then max m r.hi else m) 0

/-- The power domain whose unit serves an index (R25, R463, R526); 0 for one that is never off. The hazard frame's
entries go with PD16, which sends the frame from the time it is on (R161).
[DEDUCED, log entry 13] -/
def domainOfIndex (idx : Nat) : Nat :=
  if 0x2200 ≤ idx && idx ≤ 0x2260 then 10
  else if 0x2270 ≤ idx && idx ≤ 0x227F then 15
  else if 0x2280 ≤ idx && idx ≤ 0x228F then 31
  else if 0x2290 ≤ idx && idx ≤ 0x2297 then 14
  else if 0x2298 ≤ idx && idx ≤ 0x229F then 31
  else if 0x22A0 ≤ idx && idx ≤ 0x22AF then 16
  else if 0x2400 ≤ idx && idx ≤ 0x247F then 6
  else if idx = 0x2520 then 16
  else if 0x2500 ≤ idx && idx ≤ 0x255F then 4
  else if 0x2600 ≤ idx && idx ≤ 0x267F then 10
  else if 0x2680 ≤ idx && idx ≤ 0x26FF then 22 + (idx - 0x2680) / 16
  else if idx = 0x2700 then 7
  else if 0x2900 ≤ idx && idx ≤ 0x2910 then 8
  else if idx = 0x2911 then 9
  else if 0x2A00 ≤ idx && idx ≤ 0x2BFF then 10
  else if 0x2D00 ≤ idx && idx ≤ 0x2D7F then 13
  else if 0x2D90 ≤ idx && idx ≤ 0x2D93 then 17
  else if 0x2D94 ≤ idx && idx ≤ 0x2D95 then 31
  else 0

/-- The unit of an entry is powered (R463). The entries of PD10 and, until Keeper firmware has started, of the PCIe
function work from the release on: R463 has the hardware entries work before Keeper runs.
[DEDUCED, log entry 13] -/
def State.entryPowered (s : State) (idx : Nat) : Bool :=
  let d := domainOfIndex idx
  d = 0 || d = 10 || (d = 13 && !s.diag.keeperRun) || s.pdOn d

/-- An entry is served by Keeper (R475); of the commit window only the cell that closes the record. -/
def entryDeferred (idx sub : Nat) : Bool :=
  if idx = 0x2E10 then sub = 4 else
  (0x1000 ≤ idx && idx ≤ 0x1FFF) || (0x5000 ≤ idx && idx ≤ 0x5FFF) ||
  match entryOf idx sub with
  | some e => e.deferred
  | none => false

/-! ### Refusals and successes (R467) -/

/-- A request of the route is queued at Keeper or being served: a later request of the route does not start (R465).
[DEDUCED, log entry 14] -/
def State.routeBusy (s : State) (r : Nat) : Bool :=
  s.routes.queue.any (fun e => e.1 = r) || (match s.routes.started with | some e => e.1 = r | none => false) ||
    (match s.dome.waitCommit with | some e => e.1 = r | none => false)

/-- What a deferred entry answers when the request has joined Keeper's queue: no outcome yet. -/
abbrev queuedReason : Nat := 0x10000

/-- Whether a route receives requests at all (R464, R469). -/
def State.routeUp (s : State) (r : Nat) : Bool :=
  if r = 2 then s.rd R.USDO_EN = 1 && s.routes.nmt ≠ 4 else if r = 3 then s.rd R.UDP_EN = 1 else true

/-- A request is refused (R467). -/
def State.refuse (s : State) (r idx sub reason : Nat) : State :=
  let ab := if reason = 0x2001 && (entryRows.find? (fun e => e.idx ≤ idx && idx < e.idx + e.cnt)) = none then 0x06020000
            else abortOf reason
  let s1 := (((s.wr (R.R_REASON r) reason).wr (R.R_ENTRY r) (idx * 65536 + sub * 256)).wr (R.R_ABORT r) ab).bump
    (R.R_ABORTS r)
  if r = 2 then s1.emit (.usdo false ab []) else s1

/-- A request has succeeded (R467). -/
def State.succeed (s : State) (r : Nat) : State :=
  let s1 := s.wr (R.R_REASON r) 0
  if r = 2 then s1.emit (.usdo true 0 []) else s1

/-- A UDP response (R470). -/
def udpResponse (req : UdpReq) (op status : Nat) (payload : Bytes) : Bytes :=
  toLe 16 (0x4356 + 2 ^ 16 + op * 2 ^ 24 + req.txn.toNat * 2 ^ 32 + req.index.toNat * 2 ^ 64 + req.sub.toNat * 2 ^ 80 +
    payload.length * 2 ^ 96 + status * 2 ^ 112) ++ payload

/-- A source of UDP requests. -/
def udpKey (req : UdpReq) : Nat := req.srcIp.toNat * 65536 + req.srcPort.toNat

/-- Answer a UDP request and keep the response (R470, R471). -/
def State.udpAnswer (s : State) (req : UdpReq) (op status : Nat) (payload : Bytes) : State :=
  let resp := udpResponse req op status payload
  ({ s with routes := { s.routes with udpLast := smSet (fun _ => { txn := 2 ^ 32, resp := [] }) s.routes.udpLast (udpKey req)
                                        { txn := req.txn.toNat, resp := resp } } }).emit
    (.udp req.srcIp.toNat req.srcPort.toNat resp)

/-- The UDP write that route 3 has at Keeper is answered. -/
def State.udpEnd (s : State) (r status : Nat) : State := match s.routes.udpPend with
  | some q => if r = 3 then ({ s with routes := { s.routes with udpPend := none } }).udpAnswer q 0x82 status [] else s
  | none => s

/-- The entry a deferred request names (R467, R475).
[DEDUCED, log entry 50] -/
def DefReq.entry : DefReq → Nat × Nat
  | .write i b _ => (i, b)
  | .dwRead k _ _ => (0x2010 + k, 9)
  | .dwWrite k _ _ _ => (0x2010 + k, 9)
  | .usdoRead i b => (i, b)
  | .cellRead i b _ _ => (i, b)
  | .udpRead q => (q.index.toNat, q.sub.toNat)
  | .allocNew _ => (0x2C30, 1)
  | .allocFree _ => (0x2C30, 2)
  | .descNew _ => (0x2C40, 1)
  | .descFree _ => (0x2C40, 2)
  | .copyNew _ => (0x2C50, 1)
  | .copyFree _ => (0x2C50, 2)
  | .imgLoad => (0x2800, 2)
  | .almClone => (0x2700, 8)
  | .wtClear _ => (0x2C00, 7)
  | .commit i b _ => (i, b)

/-- A deferred request ends unserved: refused, with its response on the route (R467, R475, R476). -/
def State.defRefuse (s : State) (r : Nat) (req : DefReq) (reason : Nat) : State :=
  let e := req.entry
  let s1 := s.refuse r e.1 e.2 reason
  match req with
  | .udpRead q => s1.udpAnswer q 0x81 reason []
  | .cellRead _ _ _ n => match s1.host.dpRun with
    | some x => { s1 with host := { s1.host with dpRun := some { x with got := x.got ++ List.replicate n 0 } } }
    | none => s1
  | _ => s1.udpEnd r reason

/-- A read on a route completes with data (R467). -/
def State.readReply (s : State) (r : Nat) (data : Bytes) (poison : Bool) : State :=
  if r = 2 then (s.wr (R.R_REASON r) 0).emit (.usdo true 0 data)
  else (s.wr (R.R_REASON r) 0).emit (.hostRead r true poison data)

/-- A read on a route is refused: Unsupported Request for `NO_ENTRY`, `NO_RESOURCE` and `LENGTH`, otherwise data 0. -/
def State.readRefused (s : State) (r idx sub len reason : Nat) : State :=
  let s1 := s.refuse r idx sub reason
  if r = 2 then s1
  else if reason = 0x2001 || reason = 0x2005 || reason = 0x2003 then s1.emit (.hostRead r false false [])
  else s1.emit (.hostRead r true false (List.replicate len 0))

/-- A signed type. -/
def EType.signed : EType → Bool
  | .i8 => true | .i16 => true | .i32 => true | .i64 => true
  | _ => false

/-- A value is in an entry's range (R460, R485 note (a)); sets of values and ranges that depend on other entries are
given here beside the table's. -/
def State.inRange (s : State) (e : EntryRow) (idx sub v : Nat) : Bool :=
  let iv : Int := if e.typ.signed then sgnOf (8 * e.len) v else v
  let base := match e.range with
    | some (lo, hi) => decide (lo ≤ iv) && decide (iv ≤ hi)
    | none => true
  let nan := e.typ = .real32 && bitsOf 30 23 v = 255 && bitsOf 22 0 v ≠ 0
  let extra :=
    if 0x2270 ≤ idx && idx ≤ 0x228F && sub = 1 then v ≠ 3
    else if idx = 0x1017 then v = 0 || 10 ≤ v
    else if 0x2120 ≤ idx && idx ≤ 0x212F && sub = 4 then v + 100 ≤ s.rd (R.TIO_PERIOD (idx - 0x2120))
    else if idx = 0x2520 && sub = 4 then v < s.rd R.HZ_PERIOD
    else if idx = 0x2700 && sub = 0x0C then v ≤ 0x40000000
    else if idx = 0x2900 && sub = 8 then v ≤ 0x42C80000
    else if idx = 0x2900 && sub = 9 then v ≤ 0x3F800000
    else if idx = 0x2800 && sub = 1 then v % 4096 = 0
    else if idx = 0x2D20 && sub = 2 then v / 65536 % 8 = 0 && bitsOf 15 6 v ≤ 512
    else if 0x2D40 ≤ idx && idx ≤ 0x2D7F && (sub = 5 || sub = 6) then s.rd (R.DMA_STATE (idx - 0x2D40)) = 0
    else if idx = 0x2F60 && (sub = 5 || sub = 6) then
      s.rd R.LB_EN = 0 && !s.replaying && (sub ≠ 5 || v % 4096 = 0)
    else if idx = 0x2F70 && (sub = 4 || sub = 5) then s.rd R.LB_EN = 0 && !s.replaying
    else true
  base && !nan && extra

/-- A value without the bits that are no field of its entry: they read 0, and a 1 written there is ignored (R10, R419, R432,
R473, R474, R506, R524).
[DEDUCED, log entry 50] -/
def keepFields (idx sub v : Nat) : Nat :=
  if idx = 0x2D20 && sub = 2 then v - v % 16
  else if 0x2C10 ≤ idx && idx ≤ 0x2C1B && sub = 2 then v / 2 ^ 63 * 2 ^ 63 + bitsOf 47 4 v * 16
  else if idx = 0x2F60 && sub = 9 then clearBit v 14
  else if 0x2F40 ≤ idx && idx ≤ 0x2F51 then v - bitsOf 9 8 v * 256
  else if 0x2010 ≤ idx && idx ≤ 0x2013 && (sub = 7 || sub = 0x0A) then v - v % 256
  else v

/-- Why a write of `data` to an entry is refused before the entry's own checks; 0 when it is not (R3, R8, R460, R461,
R463, R521). A CW entry takes the same checks when its value goes to the shadow.
[DEDUCED, log entry 51] -/
def State.writeReason (s : State) (idx sub : Nat) (data : Bytes) : Nat :=
  match entryOf idx sub with
  | none => if sub = 0 && subCount idx ≠ 0 then 0x2002 else 0x2001
  | some e =>
    if !resourcePresent s.variant idx sub then 0x2005
    else if !s.entryPowered idx then 0x200A
    else if entryDeferred idx sub && !s.keeperUp then 0x2009
    else if s.replaying && !(0x2F00 ≤ idx && idx ≤ 0x2F7F) &&
        !(0x2B00 ≤ idx && idx ≤ 0x2BFF && 0x0D ≤ sub && sub ≤ 0x0F) then 0x2008
    else match e.acc with
      | .ro => 0x2002
      | .rc => 0x2002
      | .const => 0x2002
      | _ =>
        if e.window then
          if 0x2B00 ≤ idx && idx ≤ 0x2BFF then 0
          else if data = [] || data.length % 8 ≠ 0 || 8 * (e.hi + 1 - sub) < data.length then 0x2003 else 0
        else if (e.typ = .domain || e.typ = .str) && (data.length < e.minLen || e.len < data.length) then 0x2003
        else if e.typ ≠ .domain && e.typ ≠ .str && data.length ≠ e.len then 0x2003
        else if (e.typ ≠ .domain && e.typ ≠ .str) && !s.inRange e idx sub (leNat data) then 0x2004
        else 0

/-- A host write to an entry: its checks, then its effect `f`, which answers a reason of its own or 0 (R467, R516).
[DEDUCED, log entry 14] -/
def State.hostWrite (s : State) (r idx sub : Nat) (data : Bytes) (f : State → State × Nat) : State :=
  if !s.routeUp r || s.routeBusy r then s
  else
    let c := s.writeReason idx sub data
    if c ≠ 0 then s.refuse r idx sub c
    else
      let (s1, c1) := f s
      if c1 = queuedReason then s1
      else if c1 ≠ 0 then s1.refuse r idx sub c1
      else (s1.succeed r).lbRecord (0x7000 + r) 0x10 (toLe 2 idx ++ toLe 1 sub ++ toLe 2 data.length ++ data)

/-- Keeper serves a deferred request (R475): at once when nothing waits before it, otherwise in arrival order; a full
queue refuses it. `f` is the request's effect.
[DEDUCED, log entry 14] -/
def State.deferred (s : State) (r idx sub : Nat) (req : DefReq) (f : State → State × Nat) : State × Nat :=
  if s.routes.queue = [] && s.routes.started = none && s.dome.waitCommit = none then f s
  else if 64 ≤ s.routes.queue.length then (s.event 0x2001 0 [(8, r), (24, entryArg idx sub)], 0x200B)
  else ({ s with routes := { s.routes with queue := s.routes.queue ++ [(r, req, s.tclk)] } }, queuedReason)

/-- Why a read of an entry is refused (R3, R459, R463); 0 when it is not. An entry of a unit that is off reads its reset
value.
[DEDUCED, log entry 51] -/
def State.readReason (s : State) (idx sub : Nat) : Nat :=
  if entryOf idx sub = none && (sub ≠ 0 || subCount idx = 0) then 0x2001
  else if !resourcePresent s.variant idx sub then 0x2005
  else if entryDeferred idx sub && !s.keeperUp then 0x2009
  else 0

/-- A host read of an entry of `len` bytes whose read has an effect `f` of its own (R467). -/
def State.hostRead (s : State) (r idx sub len : Nat) (f : State → Bytes × State) : State :=
  if !s.routeUp r || s.routeBusy r then s
  else
    let c := s.readReason idx sub
    if c ≠ 0 then s.readRefused r idx sub len c
    else
      let (d, s1) := f s
      s1.readReply r d false

/-! ### Critical writes (R477 to R483) -/

/-- A route's shadow: target key and value. -/
def State.shadow (s : State) (r : Nat) : Option (Nat × Bytes) := smGet (fun _ => none) s.routes.shadow r

/-- Set a route's shadow. -/
def State.setShadow (s : State) (r : Nat) (v : Option (Nat × Bytes)) : State :=
  { s with routes := { s.routes with shadow := smSet (fun _ => none) s.routes.shadow r v } }

/-- A command key (R498). -/
def State.cmdKey (s : State) (k : Nat) : CmdKey := smGet (fun _ => CmdKey.none) s.dome.keys k

/-- Step 3 of R480: the key is installed, not revoked, unwrapped, and its scope covers the target's index. -/
def State.keyCovers (s : State) (k idx : Nat) : Bool :=
  let x := s.cmdKey k
  k < 8 && x.st = 1 && !s.dome.keysErased && !(s.rd R.DOME_FLT).testBit 0 &&
    0x20 ≤ idx / 256 && x.scope.testBit (idx / 256 - 0x20)

/-- The message of R479. -/
def State.commitMessage (s : State) (keyId idx sub : Nat) (value : Bytes) (counter : Nat) : Bytes :=
  toLe 1 keyId ++ toLe 16 s.nv.uid ++ toLe 2 idx ++ toLe 1 sub ++ toLe 2 value.length ++ value ++ toLe 8 counter

/-- `TAG` of R479. -/
def State.commitTag (s : State) (keyId idx sub : Nat) (value : Bytes) (counter : Nat) : Bytes :=
  (kmac256 (s.cmdKey keyId).key (s.commitMessage keyId idx sub value counter) (asciiBytes "KF9680 CMT") 32).take 16

/-- In lockout (R482). -/
def State.inLockout (s : State) : Bool :=
  match s.routes.lockUntil with
  | some t => s.tclk < t
  | none => false

/-- Steps 1 to 7 of R480, and the refusal of every commit in replay (R483); 0 when they pass. -/
def State.commitReason (s : State) (r idx sub : Nat) (cr : CommitRec) : Nat :=
  let cwEntry := match entryOf idx sub with
    | some e => e.acc = .cw && resourcePresent s.variant idx sub
    | none => false
  if s.replaying then 0x2008
  else if cr.rsvd ≠ 0 || !cwEntry then 0x2E01
  else match s.shadow r with
    | none => 0x2E02
    | some (k, v) =>
      if k ≠ entryKey idx sub then 0x2E02
      else if !s.keyCovers cr.keyId.toNat idx then 0x2E03
      else if s.rd R.CMD_CTR = 2 ^ 64 - 1 then 0x2E04
      else if cr.counter.toNat ≤ s.rd R.CMD_CTR then 0x2E05
      else if s.commitTag cr.keyId.toNat idx sub v cr.counter.toNat ≠ toLe 16 cr.tag.toNat then 0x2E06
      else if s.inLockout then 0x2E07
      else 0

/-- The value the route's shadow holds. -/
def State.shadowValue (s : State) (r : Nat) : Bytes :=
  match s.shadow r with
  | some (_, v) => v
  | none => []

/-- The TCLK cycles of one second. -/
abbrev tclkSec : Nat := 500000000

/-- A refused commit (R480, R482). The reason goes back to the route through R467. -/
def State.commitFail (s : State) (r idx sub reason : Nat) : State :=
  let s1 := (s.wr R.CMT_STATUS reason).event 0x2E02 0 [(8, r), (24, entryArg idx sub), (16, reason)]
  if reason ≠ 0x2E06 then s1
  else
    let s2 := s1.bump R.CMT_FAILS
    let n := s2.routes.failRun + 1
    if n < 16 then { s2 with routes := { s2.routes with failRun := n } }
    else ({ s2 with routes := { s2.routes with failRun := 0, lockUntil := some (s2.tclk + tclkSec) } }).event 0x2E03 0 []

/-- An accepted commit (R480): counter, shadow, status, event, Logbook record.
[DEDUCED, log entry 54] -/
def State.commitAccept (s : State) (r idx sub : Nat) (cr : CommitRec) (value : Bytes) : State :=
  let s1 := (((s.wr R.CMD_CTR cr.counter.toNat).setShadow r none).wr R.CMT_STATUS 0).event 0x2E01 0
    [(8, r), (24, entryArg idx sub), (32, cr.counter.toNat % 2 ^ 32)]
  let s2 := { s1 with routes := { s1.routes with failRun := 0 } }
  s2.lbRecord (0x7000 + r) 0x11
    (toLe 4 (sub * 256 + idx * 65536) ++ toLe 4 (cr.keyId.toNat * 2 ^ 24) ++ toLe 8 cr.counter.toNat ++
      toLe 16 cr.tag.toNat ++ value)

/-- What a target does when it refuses a commit itself: `RESTEP` raises event 0x2109 (R54); `ALM_SWITCH` sets `ALM_ERR`
to the code of R252 and raises event 0x2702. -/
def State.targetRefused (s : State) (idx sub c : Nat) : State :=
  if entryKey idx sub = R.RESTEP then (if c = 0x2008 then s else s.event 0x2109 0 [])
  else if entryKey idx sub = R.ALM_SWITCH then
    (s.wr R.ALM_ERR (if c = 0x2008 then 9 else c - 0x2700)).event 0x2702 0 [(64, s.epochOf s.now)]
  else s

/-- A commit as Keeper processes it (R480, R481): the checks of steps 1 to 7, the target's own check, then its effect.
A commit that needs a new R_c takes effect when the counter record is written; the flash is then busy.
[DEDUCED, log entry 54] -/
def State.commitRun (s : State) (r idx sub : Nat) (cr : CommitRec) (check : Bytes → State → Nat)
    (apply : Bytes → State → State) : State × Nat :=
  let c := s.commitReason r idx sub cr
  let v := s.shadowValue r
  if c ≠ 0 then ((if c = 0x2008 then s.targetRefused idx sub c else s).commitFail r idx sub c, c)
  else
    let c1 := check v s
    if c1 ≠ 0 then ((s.targetRefused idx sub c1).commitFail r idx sub c1, c1)
    else if s.nv.flashPresent && !s.dome.hostBoot && s.dome.rc ≤ cr.counter.toNat then
      ({ s with dome := { s.dome with waitCommit := some (r, idx, sub, cr) } }.wr R.FLASH_BUSY 1, queuedReason)
    else ((apply v (s.commitAccept r idx sub cr v)), 0)

/-- A write of the commit record on a route: Keeper serves it in its turn (R475, R478). -/
def State.commit (s : State) (r idx sub : Nat) (cr : CommitRec) (check : Bytes → State → Nat)
    (apply : Bytes → State → State) : State :=
  if !s.routeUp r || s.routeBusy r then s
  else if !s.keeperUp then s.refuse r idx sub 0x2009
  else
    let (s1, c) := s.deferred r idx sub (.commit idx sub cr) (fun t => t.commitRun r idx sub cr check apply)
    if c = queuedReason then s1
    else if c ≠ 0 then s1.refuse r idx sub c else s1.succeed r

end Sys2Proof.Machine
end

