-- ==== Sys2Proof/Machine/TalusOps.lean ====
section
/-! DEFINITION. Talus: sets, deskew, voxels, the octree (R106 to R130). -/
namespace Sys2Proof.Machine

/-- Change Talus's own state. -/
def State.mapTalus (s : State) (f : Talus → Talus) : State := { s with talus := f s.talus }

/-- The set in a buffer. -/
def State.vset (s : State) (b : Nat) : Option VSet := smGet (fun _ => none) s.talus.sets b

/-- Set the set in a buffer. -/
def State.setVset (s : State) (b : Nat) (v : Option VSet) : State :=
  s.mapTalus fun t => { t with sets := smSet (fun _ => none) t.sets b v }

/-- The place of a buffer. -/
def State.setPlace (s : State) (b : Nat) : SetPlace :=
  s.talus.places.getD b { base := 0, header := 0, oct := 0, ready := 0, release := 0, releaseTarget := 0 }

/-- Talus writes memory as agent 0x1000. -/
def State.talusWrite (s : State) (a : Nat) (d : Bytes) : State := (s.writeMem 0x1000 a d false).2

/-- An event of R132 carries the epoch number. -/
def State.talusEvent (s : State) (code n : Nat) : State := s.event code 0 [(64, n)]

/-! ### Opening a set (R107, R108) -/

/-- Open set `n` in buffer `b`: anchor pose, Almanac copy, and the settings that apply to the set (R108, R131 (b)). -/
def State.openSet (s : State) (b n : Nat) : State :=
  let inst := s.instant n
  let l := s.lookup 0x1000 inst
  let nv := l.s.ringNewest 0x1000
  let age := match nv.1 with | some e => compactAge inst e.t | none => 0
  let sq := match nv.1 with | some e => e.seqNo | none => 0
  let none_ := l.kind = .none
  let v : VSet :=
    { epoch := n, phase := .opened, anchor := l.pose, src := l.src, anchorSeq := sq, poseAge := age,
      flags := 16 * boolNat none_, alm := s.almOfEpoch n, rmax := s.rd R.CAP_RMAX, ageMax := s.rd R.POSE_AGE_MAX,
      n := 0, pointsIn := 0, lateIn := 0, capDrop := 0, band := false, probe := false, leaves := [], corr := .ident,
      gsrc := none, closeT := 0 }
  let s1 := nv.2.setVset b (some v)
  if none_ then s1.talusEvent 0x2406 n else s1

/-! ### Deskew (R106, R114 to R117) -/

/-- The Talus slice length (R106). -/
def State.talusSlice (s : State) : Nat := 2 ^ s.rd R.TS_LEN * ftUs

/-- The pose of Talus slice `c`, from the cache or the ring (R114), with the entry it came from. -/
def State.slicePose (s : State) (c : Nat) : Pose × Option Nat × State :=
  let tc := c * s.talusSlice + s.talusSlice / 2
  let hit := match smGet (fun _ => none) s.talus.cache (c % 1024) with
    | some (tag, p, q) => if tag = c then some (p, q) else none
    | none => none
  match hit with
  | some (p, q) => (p, q, s)
  | none =>
    let l := s.lookup 0x1000 tc
    (l.pose, l.src,
     l.s.mapTalus fun t => { t with cache := smSet (fun _ => none) t.cache (c % 1024) (some (c, l.pose, l.src)) })

/-- A coordinate of p': within 50 µm + 2^−21 ‖p'‖ of the exact value, the same for the same operands (R117): free within
that bound.
[DEDUCED, log entry 24] -/
def deskewCoord (ops : List Int) (norm exact : Fx) : Nat :=
  let lim := Fx.ofRat 50 1000000 + norm / 2 ^ 21
  let v := fpRound fp32 (Fx.toDy (exact + clampInt (-lim) lim (Config.deskewErr ops)))
  let d := Fx.ofDy (fpDy fp32 v) - exact
  if d ≤ lim && -lim ≤ d then v else fpRound fp32 (Fx.toDy exact)

/-- The numbers of a pose. -/
def Pose.ops (p : Pose) : List Int := [p.q.w, p.q.x, p.q.y, p.q.z, p.x.x, p.x.y, p.x.z]

/-- p' of a point that joins a set, in FP32 (R116), and whether the slice pose was recomputed (R115).
[DEDUCED, log entry 24] -/
def State.deskew (s : State) (v : VSet) (p : Pt) : (Nat × Nat × Nat) × Bool × State :=
  let c := p.t / s.talusSlice
  let (pc0, q, s1) := s.slicePose c
  let tc := c * s.talusSlice + s.talusSlice / 2
  let (pc, re) := s1.sameSide v.src { pose := pc0, kind := .interp, src := q, srcT := 0, s := s1 } tc
  let ex := s.extrinsic v.alm p.slot
  let m := Pose.apply (Pose.rel v.anchor pc) (Pose.apply ex p.vec)
  let ops : List Int := ex.ops ++ v.anchor.ops ++ pc.ops ++ [(p.x : Int), (p.y : Int), (p.z : Int)]
  let n := V3.norm m
  ((deskewCoord (0 :: ops) n m.x, deskewCoord (1 :: ops) n m.y, deskewCoord (2 :: ops) n m.z), re, s1)

/-! ### Voxels (R118 to R125) -/

/-- FP32 subtraction and division of bit patterns, rounded to nearest. -/
def sub32 (a b : Nat) : Nat := fpRound fp32 (Dy.sub (fpDy fp32 a) (fpDy fp32 b))
def div32 (a b : Nat) : Nat := fpDivRound fp32 (fpDy fp32 a) (fpDy fp32 b)

/-- A rational rounded to FP32. -/
def ratTo32 (num den : Int) : Nat := fpDivRound fp32 (Dy.ofInt num) (Dy.ofInt den)

/-- The grid of a set: voxel size and origin in FP32, cells per axis (R118). -/
structure Grid where
  sz : Nat
  szZ : Nat
  x0 : Nat
  y0 : Nat
  z0 : Nat
  n : Nat
  nk : Nat

def State.grid (s : State) (alm : Nat) : Grid :=
  let g := s.geom alm
  let sub := s.rd R.VOX_SUB
  { sz := ratTo32 g.cell (100 * 2 ^ sub), szZ := ratTo32 (s.rd R.VOX_Z) 100, x0 := ratTo32 g.x0 1000,
    y0 := ratTo32 g.y0 1000, z0 := ratTo32 (s.rdI 16 R.VOX_Z0) 100, n := 1024 * 2 ^ sub, nk := s.rd R.VOX_NK }

/-- A voxel coordinate: the quotient in FP32, floored (R118).
[DEDUCED, log entry 24] -/
def voxCoord (v o sz : Nat) : Int := (fpDy fp32 (div32 (sub32 v o) sz)).floor

/-- The Morton key of (i, j, k) (R119). -/
def morton (i j k : Nat) : Nat :=
  (List.range 16).foldl (fun a q =>
    a + boolNat (i.testBit q) * 2 ^ (3 * q) + boolNat (j.testBit q) * 2 ^ (3 * q + 1) +
      boolNat (k.testBit q) * 2 ^ (3 * q + 2)) 0

/-- The coordinates of a key (R119). -/
def unmorton (k : Nat) : Nat × Nat × Nat :=
  (List.range 16).foldl (fun a q =>
    (a.1 + boolNat (k.testBit (3 * q)) * 2 ^ q, a.2.1 + boolNat (k.testBit (3 * q + 1)) * 2 ^ q,
     a.2.2 + boolNat (k.testBit (3 * q + 2)) * 2 ^ q)) (0, 0, 0)

/-- The home bucket of a key (R120). -/
def homeBucket (k : Nat) : Nat := (k * 0x9E3779B97F4A7C15 % 2 ^ 64) / 2 ^ 41

/-- An INTEGER32 count of ns, floored and saturated (R121). -/
def dt32 (t inst : Nat) : Nat :=
  ofSgn 32 (clampInt (-(2 ^ 31)) (2 ^ 31 - 1) (Int.fdiv ((t : Int) - (inst : Int)) ftNs))

/-- `SWEEP_END` of a point (R121 (a)). -/
def State.sweepEnd (s : State) (slot t inst : Nat) : Nat :=
  let w := s.rd (R.SWEEP_T (slot + 1)) * ftUs
  if w = 0 then 0 else dt32 ((t / w + 1) * w) inst

/-- The bucket entry of a point (R121). `RANGE` is floored to a centimetre.
[DEDUCED, log entry 24] -/
def State.bucketEntry (s : State) (v : VSet) (key : Nat) (c : Nat × Nat × Nat) (p : Pt) : Nat :=
  let inst := s.instant v.epoch
  let cmRange := ((Dy.mul (fpDy fp32 p.range) (Dy.ofInt 100)).floor).toNat
  min cmRange 65535 + p.inten % 65536 * 2 ^ 16 + s.sweepEnd p.slot p.t inst * 2 ^ 32 + dt32 p.t inst * 2 ^ 64 +
    c.2.2 * 2 ^ 96 + c.2.1 * 2 ^ 128 + c.1 * 2 ^ 160 + 2 ^ 196 + p.echo % 8 * 2 ^ 197 + boolNat p.keep * 2 ^ 200 +
    p.slot * 2 ^ 201 + key * 2 ^ 208

/-- The squared distance of a bucket entry's point to its voxel centre, in FP32 (R122 test 2).
[DEDUCED, log entry 24] -/
def centreDist (g : Grid) (e : Nat) : Dy :=
  let (i, j, k) := unmorton (bitsOf 255 208 e)
  let ctr := fun (o n sz : Nat) => Dy.add (fpDy fp32 o) (Dy.mul { m := 2 * n + 1, e := -1 } (fpDy fp32 sz))
  let d := fun (v o n sz : Nat) => let x := Dy.sub (fpDy fp32 v) (ctr o n sz); Dy.mul x x
  let sum := Dy.add (Dy.add (d (bitsOf 191 160 e) g.x0 i g.sz) (d (bitsOf 159 128 e) g.y0 j g.sz))
    (d (bitsOf 127 96 e) g.z0 k g.szZ)
  fpDy fp32 (fpRound fp32 sum)

/-- The entry `q` beats the stored entry `p` (R122). -/
def beats (g : Grid) (q p : Nat) : Bool :=
  let se := fun e => sgnOf 32 (bitsOf 63 32 e)
  let dt := fun e => sgnOf 32 (bitsOf 95 64 e)
  if se q ≠ se p then decide (se p < se q)
  else
    let dq := centreDist g q
    let dp := centreDist g p
    if Dy.lt dq dp then true else if Dy.lt dp dq then false
    else if bitsOf 207 201 q ≠ bitsOf 207 201 p then bitsOf 207 201 q < bitsOf 207 201 p
    else if dt q ≠ dt p then decide (dt q < dt p)
    else if bitsOf 199 197 q ≠ bitsOf 199 197 p then bitsOf 199 197 q < bitsOf 199 197 p
    else q < p

/-- What a probe finds (R120): the bucket with the key and its entry, an empty bucket, or neither. -/
inductive Probe where
  | held (bucket entry : Nat)
  | empty (bucket : Nat)
  | full

/-- Probe up to `n` buckets; a poisoned bucket counts as occupied by another key (R416). -/
def probe (base key : Nat) : Nat → Nat → State → Probe × State
  | 0, _, s => (.full, s)
  | n + 1, h, s =>
    let r := s.readMem 0x1000 (base + 32 * h) 32
    let e := leNat r.data
    if r.poison || r.st ≠ .ok then probe base key n ((h + 1) % 2 ^ 23) r.s
    else if !e.testBit 196 then (.empty h, r.s)
    else if bitsOf 255 208 e = key then (.held h e, r.s)
    else probe base key n ((h + 1) % 2 ^ 23) r.s

/-- A point is dropped for want of capacity (R125). -/
def State.capDrop (s : State) (b : Nat) (v : VSet) (slot : Nat) (probeFail : Bool) : State :=
  let s1 := (s.bump (R.CAP_DROP slot)).bump R.CAP_DROP_ALL
  let s2 := if probeFail then s1.bump R.PROBE_DROP else s1
  let s3 := if v.capDrop = 0 then s2.talusEvent 0x2403 v.epoch else s2
  let s4 := if probeFail && !v.probe then s3.talusEvent 0x2404 v.epoch else s3
  let fl := if probeFail then setBit (setBit v.flags 0) 1 else setBit v.flags 0
  s4.setVset b (some { v with capDrop := v.capDrop + 1, flags := fl, probe := v.probe || probeFail })

/-- The capacity of a set (R124, R243). -/
def State.voxCap (s : State) : Nat := s.rd R.SITE_CAP

/-- The width of the band in which only near keep points get a voxel (R124, R243). -/
def State.voxBand (s : State) : Nat := s.voxCap / 16

/-- A point that joined set `v` in buffer `b` is deskewed and inserted (R116 to R125). -/
def State.insertPoint (s : State) (b : Nat) (v0 : VSet) (p : Pt) : State :=
  let (c, re, s1) := s.deskew v0 p
  let v := if re then { v0 with flags := setBit v0.flags 5 } else v0
  let s2 := s1.setVset b (some v)
  let g := s2.grid v.alm
  let i := voxCoord c.1 g.x0 g.sz
  let j := voxCoord c.2.1 g.y0 g.sz
  let k := voxCoord c.2.2 g.z0 g.szZ
  if i < 0 || j < 0 || k < 0 || (g.n : Int) ≤ i || (g.n : Int) ≤ j || (g.nk : Int) ≤ k then s2.bump R.OUT_GRID
  else
    let key := morton i.toNat j.toNat k.toNat
    let e := s2.bucketEntry v key c p
    let base := (s2.setPlace b).base
    match probe base key 32 (homeBucket key) s2 with
    | (.held h old, s3) =>
      let s4 := s3.bump R.VOX_LOST
      if beats g e old then s4.talusWrite (base + 32 * h) (toLe 32 e) else s4
    | (.empty h, s3) =>
      let cap := s2.voxCap
      let bw := s2.voxBand
      let near := Dy.lt (Dy.mul (fpDy fp32 p.range) (Dy.ofInt (100 * bw))) (Dy.ofInt (v.rmax * (cap - v.n)))
      let inBand := cap - bw ≤ v.n && v.n < cap
      let s4 := if inBand && !v.band then s3.talusEvent 0x2402 v.epoch else s3
      let v1 := { v with band := v.band || inBand }
      if v.n < cap - bw || (inBand && p.keep && near) then
        (s4.talusWrite (base + 32 * h) (toLe 32 e)).setVset b
          (some { v1 with n := v1.n + 1, leaves := v1.leaves ++ [(key, h)] })
      else (s4.setVset b (some v1)).capDrop b v1 p.slot false
    | (.full, s3) => s3.capDrop b v p.slot true

/-- Talus takes a point (R107, R109).
[DEDUCED, log entry 25] -/
def State.talusTake (s0 : State) (p : Pt) : State :=
  let s := s0.add64 R.IN_PTS 1
  let n0 := max (s.epochOf p.t) s.talus.firstEpoch
  let late := decide (s.instant n0 + s.lag ≤ s.now)
  let n := if late then max (s.epochOf (s.now - s.lag)) s.talus.firstEpoch else n0
  if s.talus.places = [] then s
  else if late && s.rd R.LATE_WIN * ftUs < s.now - p.t then s.bump R.TALUS_LATE_DROP
  else
    let s1 := if late then s.bump R.LATE_PTS else s
    let b := n % 3
    let join := fun (t : State) => match t.vset b with
      | some v =>
        if v.epoch = n && v.phase = .opened then
          t.insertPoint b { v with pointsIn := v.pointsIn + 1, lateIn := v.lateIn + boolNat late } p
        else (t.bump R.SET_BUSY).talusEvent 0x2407 n
      | none => t
    match s1.vset b with
    | some _ => join s1
    | none => join (s1.openSet b n)

/-! ### Closing, building, releasing (R126 to R130) -/

/-- The bucket entries of a set, in the order of its list. -/
def State.setEntries (s : State) (b : Nat) (v : VSet) : List Nat :=
  v.leaves.map (fun e => s.leAtMem ((s.setPlace b).base + 32 * e.2) 32)

/-- The device address of a local one (R17). -/
def State.devAddr (s : State) (a : Nat) : Nat := s.host.rangeId * 2 ^ 45 + a

/-- The FP32 bits of a real. -/
def fxTo32 (a : Fx) : Nat := fpRound fp32 (Fx.toDy a)

/-- `ANCHOR_CORR` of a set (R126): from the anchor frame to the frame of the corrected pose. -/
def anchorCorr (corr anchor : Pose) : Nat :=
  let m := Pose.rel corr anchor
  fxTo32 m.q.w + fxTo32 m.q.x * 2 ^ 32 + fxTo32 m.q.y * 2 ^ 64 + fxTo32 m.q.z * 2 ^ 96 + fxTo32 m.x.x * 2 ^ 128 +
    fxTo32 m.x.y * 2 ^ 160 + fxTo32 m.x.z * 2 ^ 192

/-- A time as a full time with the flags of now. -/
def State.ftWordNow (s : State) (t : Nat) : Nat := ftWord t s.timeFlags

/-- The 256-byte header (R127). -/
def State.setHeader (s : State) (b : Nat) (v : VSet) : Nat :=
  let es := s.setEntries b v
  let mask := es.foldl (fun m e => setBit m (bitsOf 207 201 e)) 0
  let dts := es.map (fun e => sgnOf 32 (bitsOf 95 64 e))
  let oldest := match dts with | [] => (0 : Int) | d :: r => r.foldl min d
  v.epoch + s.ftWordNow (s.instant v.epoch) * 2 ^ 64 + s.ftWordNow v.closeT * 2 ^ 192 + v.n * 2 ^ 320 +
    v.capDrop * 2 ^ 352 + v.lateIn * 2 ^ 384 + v.flags * 2 ^ 416 + v.poseAge * 2 ^ 448 + v.anchorSeq * 2 ^ 512 +
    anchorCorr v.corr v.anchor * 2 ^ 576 + mask * 2 ^ 800 + ofSgn 32 oldest * 2 ^ 896 + v.alm * 2 ^ 928 +
    v.pointsIn * 2 ^ 960 + s.devAddr (s.setPlace b).oct * 2 ^ 1024

/-- Close the set in buffer `b` (R126): corrected pose, flags, header; the octree build starts.
[DEDUCED, log entry 25] -/
def State.closeSet (s : State) (b : Nat) (v : VSet) : State :=
  let l := s.lookup 0x1000 (s.instant v.epoch)
  let old := decide (v.ageMax * 1000 < v.poseAge)
  let fl := v.flags ||| (4 * boolNat (decide (0 < v.lateIn)) + 8 * boolNat old + 64 * boolNat s.replaying)
  let v1 := { v with phase := .building, flags := fl, corr := l.pose, gsrc := l.src, closeT := s.now }
  let s1 := (l.s.setVset b (some v1)).wr R.VOX_COUNT v.n
  let s2 := s1.talusWrite (s1.setPlace b).header (toLe 256 (s1.setHeader b v1))
  if old then s2.talusEvent 0x2405 v.epoch else s2

/-- Insert by key. -/
def insertKey (e : Nat × Nat) : List (Nat × Nat) → List (Nat × Nat)
  | [] => [e]
  | x :: t => if e.1 < x.1 then e :: x :: t else x :: insertKey e t

/-- A node of an octree level: key, child mask, first child, leaves below (R128). -/
structure Node where
  key : Nat
  mask : Nat
  first : Nat
  leaves : Nat
deriving DecidableEq, Repr

/-- Level 0: one node per voxel in ascending key. -/
def level0 (leaves : List (Nat × Nat)) : List Node :=
  (leaves.foldl (fun l e => insertKey e l) []).map (fun e => { key := e.1, mask := 0, first := e.2, leaves := 1 })

/-- The level above: one node per distinct parent key (R128). -/
def levelUp (l : List Node) : List Node :=
  (l.foldl (fun (acc : Nat × List Node) c =>
    let k := c.key / 8
    let bit := 2 ^ (c.key % 8)
    match acc.2 with
    | p :: t => if p.key = k then (acc.1 + 1, { p with mask := p.mask ||| bit, leaves := p.leaves + c.leaves } :: t)
                else (acc.1 + 1, { key := k, mask := bit, first := acc.1, leaves := c.leaves } :: acc.2)
    | [] => (acc.1 + 1, [{ key := k, mask := bit, first := acc.1, leaves := c.leaves }])) (0, [])).2.reverse

/-- The levels of an octree, lowest first.
[DEDUCED, log entry 24] -/
def octLevels : Nat → List Node → List (List Node)
  | 0, _ => []
  | n + 1, l => l :: octLevels n (levelUp l)

/-- A node's 16 bytes (R128). -/
def nodeBytes (lv : Nat) (n : Node) : Bytes :=
  toLe 16 (n.leaves + n.first * 2 ^ 32 + n.mask * 2 ^ 68 + lv * 2 ^ 76 + n.key * 2 ^ 80)

/-- The levels of a set.
[DEDUCED, log entry 24] -/
def State.setLevels (s : State) (v : VSet) : List (List Node) := octLevels (s.rd R.OCT_LEVELS) (level0 v.leaves)

/-- The octree build completes (R126, R128, R129): the level arrays, lowest first, one after the other; the ready cairn
is signalled. -/
def State.buildSet (s : State) (b : Nat) (v : VSet) : State :=
  let ls := s.setLevels v
  let bytes := (ls.foldl (fun (acc : Nat × Bytes) l => (acc.1 + 1, acc.2 ++ l.flatMap (nodeBytes acc.1))) (0, [])).2
  let s1 := s.talusWrite (s.setPlace b).oct bytes
  let s2 := (s1.setVset b (some { v with phase := .built })).wr R.BUILD_NS (min ((s.now - v.closeT) / ftNs) maxCount)
  s2.sigAdd 0x1000 (s.setPlace b).ready 1

/-- `USED` = 0 to every bucket of a set, and the buffer is free (R130).
[DEDUCED, log entry 25] -/
def State.freeSet (s : State) (b : Nat) (v : VSet) : State :=
  let base := (s.setPlace b).base
  (v.leaves.foldl (fun t e =>
    t.talusWrite (base + 32 * e.2) (toLe 32 (clearBit (t.leAtMem (base + 32 * e.2) 32) 196))) s).setVset b none

/-- At a step every set is closed and released without a further build (R55, R110). -/
def State.stepTalus (s : State) (b : Nat) : State :=
  let s1 := (List.range 3).foldl (fun t i => match t.vset i with
    | some v => t.freeSet i v
    | none => t) s
  { s1.mapTalus fun t => { t with firstEpoch := s.epochOf b + (if s.instantBefore (s.epochOf b) = b then 0 else 1),
                                  cache := [] } with deep := { s1.deep with rb := none } }

/-! ### Writing the ring (R112) -/

/-- A pose entry reaches the ring (R112). The answer says whether it was accepted with `RESET` = 1.
[DEDUCED, log entry 25] -/
def State.ringWrite (s : State) (agent e : Nat) : State × Bool :=
  let t := ftLow e
  if s.talus.accepted && t ≤ s.talus.newest then
    ((s.bump R.PR_REFUSED).talusEvent 0x2401 (s.epochOf t), false)
  else
    let sq := if s.talus.accepted then (s.rd R.PR_HEAD + 1) % 2 ^ 64 else 0
    let w := setBits 831 768 e sq
    let s1 := (s.writeMem agent (s.ringAddr sq) (toLe 128 w) false).2
    ((s1.mapTalus fun t0 => { t0 with accepted := true, newest := t }).wr R.PR_HEAD sq, e.testBit 898)

end Sys2Proof.Machine
end

