-- ==== Sys2Proof/Machine/DescOps.lean ====
section
/-! DEFINITION. Allocations, descriptors and copy objects (chapter 07): fields, validation, creation, freeing, units. -/
namespace Sys2Proof.Machine

/-- Change the deep layer's own state. -/
def State.mapDeep (s : State) (f : Deep → Deep) : State := { s with deep := f s.deep }

/-! ### Allocations (R199 to R201) -/

/-- An allocation. -/
def State.alloc (s : State) (id : Nat) : Option Alloc := smGet (fun _ => none) s.allocs id

/-- Set an allocation. -/
def State.setAlloc (s : State) (id : Nat) (v : Option Alloc) : State :=
  { s with allocs := smSet (fun _ => none) s.allocs id v }

/-- The row of R18 that holds a local address, as base and size; a row the variant lacks is none (R3). -/
def rowOf (variant a : Nat) : Option (Nat × Nat) :=
  ([(0, 0x400000000), (0x400000000, 0x400000000), (0x10000000000, 0xA000000), (0x11000000000, 0x1000000),
    (0x12000000000, 0x400000), (0x20000000000, 0x8000000), (0x21000000000, 0x100000)]).find? (fun r =>
      r.1 ≤ a && a < r.1 + r.2 && !(variant = 1 && r.1 = 0x400000000))

/-- Two byte ranges share a byte. -/
def overlaps (a n b m : Nat) : Bool := a < b + m && b < a + n && 0 < n && 0 < m

/-- The lowest free index of 1 to `n`.
[DEDUCED, log entry 33] -/
def lowestFree (n : Nat) (used : Nat → Bool) : Option Nat :=
  ((List.range n).map (· + 1)).find? (fun i => !used i)

/-- The allocation IDs in use. -/
def State.freeAllocId (s : State) : Option Nat := lowestFree 4095 (fun i => (s.alloc i).isSome)

/-- The check of a new allocation (R200): a code of R219. -/
def State.allocCheck (s : State) (base size : Nat) : Nat :=
  if base % 256 ≠ 0 || size % 256 ≠ 0 || size = 0 then 0x10
  else match rowOf s.variant base with
    | none => 0x11
    | some (b, n) =>
      if b + n < base + size then 0x11
      else if s.allocs.any (fun e => match e.2 with | some a => overlaps a.base a.size base size | none => false) then 0x12
      else if s.freeAllocId = none then 0x0F
      else 0

/-- Create an allocation that passed its check (R199, R200): its ID.
[DEDUCED, log entry 33] -/
def State.allocMake (s : State) (base size creator : Nat) (pinned writable : Bool) : Nat × State :=
  let id := s.freeAllocId.getD 0
  (id, (s.setAlloc id (some { base := base, size := size, creator := creator, descRefs := 0, pinned := pinned,
                              writable := writable, weights := false })).wr R.ALLOC_USED (s.rd R.ALLOC_USED + 1))

/-- Free an allocation, or the code that refuses it (R201).
[DEDUCED, log entry 33] -/
def State.allocFree (s : State) (id : Nat) : Nat × State :=
  match s.alloc id with
  | none => (0x01, s)
  | some a =>
    if a.descRefs ≠ 0 then (0x13, s)
    else if a.pinned then (0x1A, s)
    else (0, (s.setAlloc id none).wr R.ALLOC_USED (s.rd R.ALLOC_USED - 1))

/-! ### Descriptor fields (R202) -/

def dOff (w : Nat) : Nat := bitsOf 47 0 w
def dAlloc (w : Nat) : Nat := bitsOf 59 48 w
def dFmt (w : Nat) : Nat := bitsOf 63 60 w
def dLayout (w : Nat) : Nat := bitsOf 65 64 w
def dAccess (w : Nat) : Nat := bitsOf 67 66 w
def dRank (w : Nat) : Nat := bitsOf 70 68 w
def dCdim (w : Nat) : Nat := bitsOf 73 71 w
def dChan (w : Nat) : Nat := bitsOf 97 74 w
def dSoff (w : Nat) : Nat := bitsOf 465 418 w

/-- The extent of dimension `d`; 1 at and above `RANK`. -/
def dExt (w d : Nat) : Nat := if d < dRank w then bitsOf (121 + 24 * d) (98 + 24 * d) w else 1

/-- The stride of dimension `d` in bytes; 0 at and above `RANK`. -/
def dStride (w d : Nat) : Int := if d < dRank w then sgnOf 40 (bitsOf (257 + 40 * d) (218 + 40 * d) w) else 0

def dReads (w : Nat) : Bool := (dAccess w).testBit 0
def dWrites (w : Nat) : Bool := (dAccess w).testBit 1

/-- An MX format (R173). -/
def isMx (f : Nat) : Bool := 4 ≤ f && f ≤ 9

/-- A 4-bit format. -/
def is4bit (f : Nat) : Bool := f = 1 || f = 8

/-- A 16-bit format. -/
def is16bit (f : Nat) : Bool := f = 0xA || f = 0xB

/-- A 32-bit format. -/
def is32bit (f : Nat) : Bool := f = 0xC || f = 0xD

/-- Elements per block G (R205). -/
def fmtGroup (f : Nat) : Nat := if is4bit f then 64 else 32

/-- Scale bytes per block k (R205). -/
def fmtScales (f : Nat) : Nat := if f = 8 then 2 else if isMx f then 1 else 0

/-- Unit bytes B of a format in a layout (R205). -/
def unitBytes (f layout : Nat) : Nat :=
  if layout = 0 then (if is32bit f then 4 else if is16bit f then 2 else 1)
  else if is32bit f then 128 else if is16bit f then 64 else 32

/-- The layout is allowed for the format (R205). -/
def layoutAllowed (f layout : Nat) : Bool :=
  if layout = 0 then !(is4bit f) && !(isMx f)
  else if layout = 1 then !(is4bit f) else if layout = 2 then is4bit f else false

/-- B of a descriptor. -/
def dUnit (w : Nat) : Nat := unitBytes (dFmt w) (dLayout w)

/-- The lowest and highest byte a descriptor touches, as offsets in its allocation (R209). -/
def dBounds (w : Nat) : Int × Int :=
  let t := (List.range 5).map (fun d => ((dExt w d : Int) - 1) * dStride w d)
  ((dOff w : Int) + ((t.filter (fun x => x < 0)).foldl (· + ·) 0),
   (dOff w : Int) + ((t.filter (fun x => 0 < x)).foldl (· + ·) 0) + dUnit w - 1)

/-- The lowest and highest scale byte (R209). -/
def dScaleBounds (w : Nat) : Int × Int :=
  let k : Int := fmtScales (dFmt w)
  let t := (List.range 5).map (fun d => ((dExt w d : Int) - 1) * (dStride w d / 32))
  ((dSoff w : Int) + k * ((t.filter (fun x => x < 0)).foldl (· + ·) 0),
   (dSoff w : Int) + k * ((t.filter (fun x => 0 < x)).foldl (· + ·) 0) + k - 1)

/-- Sort dimensions by the magnitude of their strides. -/
def insertDim (e : Nat × Nat) : List (Nat × Nat) → List (Nat × Nat)
  | [] => [e]
  | x :: t => if e.1 < x.1 then e :: x :: t else x :: insertDim e t

/-- The write rule (R209, R210) over (magnitude of stride, extent), sorted: every stride reaches past the span. -/
def spanOk : Nat → List (Nat × Nat) → Bool
  | _, [] => true
  | span, (m, n) :: t => span ≤ m && spanOk (span + (n - 1) * m) t

/-- Two closed intervals meet. -/
def meets (a b : Int × Int) : Bool := decide (a.1 ≤ b.2) && decide (b.1 ≤ a.2)

/-- The validation of a new descriptor (R209): a code of R219. -/
def State.descValidate (s : State) (w : Nat) : Nat :=
  match s.alloc (dAlloc w) with
  | none => 0x01
  | some a =>
    let f := dFmt w; let r := dRank w; let b : Int := dUnit w
    let dims := List.range r
    let bd := dBounds w
    let sb := dScaleBounds w
    let live := (dims.filter (fun d => 1 < dExt w d)).map (fun d => ((dStride w d).natAbs, dExt w d))
    if dAlloc w = 0 then 0x01
    else if 0xD < f then 0x02
    else if !layoutAllowed f (dLayout w) then 0x03
    else if dAccess w = 0 then 0x0A
    else if r < 1 || 5 < r then 0x04
    else match dims.find? (fun d => dExt w d = 0 || decide (dStride w d % b ≠ 0)) with
      | some d => if dExt w d = 0 then 0x05 else 0x06
      | none =>
        if (dOff w : Int) % b ≠ 0 then 0x06
        else if dLayout w ≠ 0 && (r ≤ dCdim w || dChan w = 0 ||
            dExt w (dCdim w) ≠ ceilDiv (dChan w) (fmtGroup f)) then 0x07
        else if bd.1 < 0 then 0x08
        else if (a.size : Int) ≤ bd.2 then 0x09
        else if dWrites w && !a.writable then 0x0A
        else if dWrites w && live.any (fun e => e.1 = 0) then 0x0B
        else if dWrites w && !spanOk (dUnit w) (live.foldl (fun l e => insertDim e l) []) then 0x0C
        else if isMx f && (decide (sb.1 < 0) || decide ((a.size : Int) ≤ sb.2)) then 0x0D
        else if isMx f && dWrites w && meets sb bd then 0x0E
        else 0

/-! ### Handles (R203) -/

/-- The generation of an index. -/
def State.descGen (s : State) (i : Nat) : Nat := smGet (fun _ => 0) s.deep.gens i

/-- The handle that names an index now. -/
def State.handleOf (s : State) (i : Nat) : Nat := s.descGen i * 2 ^ 14 + i

/-- The descriptor of a live handle (R203). -/
def State.descOf (s : State) (h : Nat) : Option Desc :=
  let i := h % 2 ^ 14
  if i = 0 || h / 2 ^ 14 ≠ s.descGen i then none else smGet (fun _ => none) s.deep.descs i

/-- The descriptor's word of a live handle. -/
def State.descWord (s : State) (h : Nat) : Option Nat := (s.descOf h).map (·.word)

/-- The lowest index that is neither in use nor retired (R203). -/
def State.freeDesc (s : State) : Option Nat :=
  lowestFree 16383 (fun i => (smGet (fun _ => none) s.deep.descs i).isSome || s.descGen i = 0x3FFFF)

/-- Change the count of descriptors that name an allocation. -/
def State.addRef (s : State) (id : Nat) (d : Int) : State :=
  match s.alloc id with
  | some a => s.setAlloc id (some { a with descRefs := ((a.descRefs : Int) + d).toNat })
  | none => s

/-- Write a table slot of the descriptor table in DRAM (R204). -/
def State.descStore (s : State) (i : Nat) (bytes : Bytes) : State :=
  if s.rd R.DT_BASE = 0 then s else (s.writeMem 0x6000 (s.rd R.DT_BASE + 64 * i) bytes false).2

/-- Create a validated descriptor at the lowest free index (R203, R209): its handle. -/
def State.descMake (s : State) (w : Nat) (image : Bool) : Nat × State :=
  let i := s.freeDesc.getD 0
  let s1 := (s.mapDeep fun d => { d with descs := smSet (fun _ => none) d.descs i (some { word := w, image := image }) })
  (s.handleOf i, ((s1.addRef (dAlloc w) 1).descStore i (toLe 64 w)).wr R.DESC_USED (s.rd R.DESC_USED + 1))

/-- Create a descriptor, or the code that refuses it. -/
def State.descNew (s : State) (w : Nat) (image : Bool) : Nat × Nat × State :=
  let c := s.descValidate w
  if c ≠ 0 then (c, 0, s)
  else if s.freeDesc = none then (0x0F, 0, s)
  else let (h, s1) := s.descMake w image; (0, h, s1)

/-- Destroy the descriptor of an index: its generation moves on (R203). -/
def State.descDestroy (s : State) (i : Nat) : State :=
  match smGet (fun _ => none) s.deep.descs i with
  | none => s
  | some d =>
    let s1 := s.mapDeep fun x => { x with descs := smSet (fun _ => none) x.descs i none,
                                          gens := smSet (fun _ => 0) x.gens i (min (s.descGen i + 1) 0x3FFFF) }
    (s1.addRef (dAlloc d.word) (-1)).wr R.DESC_USED (s.rd R.DESC_USED - 1)

/-! ### Copies (R215 to R217) -/

/-- A copy object. -/
def State.copyObj (s : State) (id : Nat) : Option CopyObj := smGet (fun _ => none) s.deep.copies id

/-- The lowest free copy ID. -/
def State.freeCopy (s : State) : Option Nat := lowestFree 1023 (fun i => (s.copyObj i).isSome)

/-- The source dimension of destination dimension `d`. -/
def permDim (p d : Nat) : Nat := bitsOf (3 * d + 2) (3 * d) p

/-- `PERM` is a permutation of the first `r` dimensions and leaves the others in place (R216). -/
def permOk (p r : Nat) : Bool :=
  (List.range 5).all (fun d => if d < r then permDim p d < r else permDim p d = d) &&
  ((List.range r).all (fun d => (List.range d).all (fun e => permDim p d ≠ permDim p e)))

/-- The intervals of a descriptor's footprint, as local addresses (R217). -/
def State.footprint (s : State) (w : Nat) : List (Int × Int) :=
  let base : Int := match s.alloc (dAlloc w) with | some a => a.base | none => 0
  let mv := fun (i : Int × Int) => (base + i.1, base + i.2)
  mv (dBounds w) :: (if isMx (dFmt w) then [mv (dScaleBounds w)] else [])

/-- Two descriptors are equal in every field except `ACCESS` (R217). -/
def sameButAccess (a b : Nat) : Bool := setBits 67 66 a 0 = setBits 67 66 b 0

/-- The copy is one onto itself (R217). -/
def selfCopy (a b perm r : Nat) : Bool := sameButAccess a b && (List.range r).all (fun d => permDim perm d = d)

/-- The check of a new copy (R216): a code of R219. -/
def State.copyCheck (s : State) (src dst perm : Nat) : Nat :=
  match s.descWord src, s.descWord dst with
  | some a, some b =>
    let r := dRank a
    if !dReads a || !dWrites b then 0x1B
    else if dFmt a ≠ dFmt b || dLayout a ≠ dLayout b || dRank a ≠ dRank b || dChan a ≠ dChan b then 0x14
    else if !permOk perm r then 0x16
    else if (List.range r).any (fun d => dExt b d ≠ dExt a (permDim perm d)) ||
        (dLayout a ≠ 0 && permDim perm (dCdim b) ≠ dCdim a) then 0x15
    else if !selfCopy a b perm r && (s.footprint a).any (fun i => (s.footprint b).any (meets i)) then 0x17
    else if s.freeCopy = none then 0x0F
    else 0
  | _, _ => 0x18

/-- Create a copy, or the code that refuses it. -/
def State.copyNew (s : State) (src dst perm : Nat) (image : Bool) : Nat × Nat × State :=
  let c := s.copyCheck src dst perm
  if c ≠ 0 then (c, 0, s)
  else
    let id := s.freeCopy.getD 0
    let s1 := s.mapDeep fun d =>
      { d with copies := smSet (fun _ => none) d.copies id (some { src := src, dst := dst, perm := perm, image := image }) }
    (0, id, s1.wr R.COPY_USED (s.rd R.COPY_USED + 1))

/-- Free a copy object (R215). -/
def State.copyDrop (s : State) (id : Nat) : State :=
  if (s.copyObj id).isNone then s
  else (s.mapDeep fun d => { d with copies := smSet (fun _ => none) d.copies id none }).wr R.COPY_USED (s.rd R.COPY_USED - 1)

/-! ### Units (R206 to R208) -/

/-- The byte offset of a unit in its allocation. -/
def dUnitOff (w : Nat) (idx : List Nat) : Int :=
  (dOff w : Int) + ((List.range 5).map (fun d => (idx.getD d 0 : Int) * dStride w d)).foldl (· + ·) 0

/-- The byte offset of a unit's scales (R208). -/
def dScaleOff (w : Nat) (idx : List Nat) : Int :=
  (dSoff w : Int) + (fmtScales (dFmt w) : Int) *
    ((List.range 5).map (fun d => (idx.getD d 0 : Int) * (dStride w d / 32))).foldl (· + ·) 0

/-- The local address of an offset in a descriptor's allocation. -/
def State.descAddr (s : State) (w : Nat) (off : Int) : Nat :=
  match s.alloc (dAlloc w) with
  | some a => ((a.base : Int) + off).toNat
  | none => 0

/-- The channels of a unit that are not padding (R207). -/
def liveLanes (w : Nat) (idx : List Nat) : Nat :=
  if dLayout w = 0 then 1 else min (fmtGroup (dFmt w)) (dChan w - fmtGroup (dFmt w) * idx.getD (dCdim w) 0)

/-- A unit with its padding lanes 0 (R207). -/
def padUnit (w : Nat) (idx : List Nat) (u : Bytes) : Bytes :=
  if dLayout w = 0 then u
  else
    let n := liveLanes w idx
    let f := dFmt w
    if is4bit f then
      let v := leNat u % 2 ^ (4 * n)
      toLe u.length v
    else
      let eb := if is32bit f then 4 else if is16bit f then 2 else 1
      padTo u.length (u.take (eb * n))

/-- The indices of a descriptor are within its extents, and 0 at and above `RANK` (R211, R212). -/
def idxOk (w : Nat) (idx : List Nat) : Bool := (List.range 5).all (fun d => idx.getD d 0 < dExt w d)

end Sys2Proof.Machine
end

