-- ==== Sys2Proof/Machine/RulebookOps.lean ====
section
/-! DEFINITION. Rulebooks (chapter 08): specs, site sets, generated sets, tiles, records and lists as a function of the
spec, the voxel set and the octree (R231). -/
namespace Sys2Proof.Machine

/-! ### Specs (R224) -/

/-- The spec of rulebook `r`, read as DOMAIN object 0x5380 + r; none when undeclared. -/
def State.rbSpec (s : State) (r : Nat) : Option Nat :=
  let b := s.obj (0x5380 + r)
  if b.isEmpty then none else some (leNat b)

def rDilCap (w : Nat) : Nat := bitsOf 127 96 w
def rProg (w : Nat) : Nat := bitsOf 95 82 w
def rMode (w : Nat) : Nat := bitsOf 81 80 w
def rDilMin (w : Nat) : Nat := max 1 (bitsOf 79 72 w)
def rKmax (w : Nat) : Nat := bitsOf 71 56 w
def rKmin (w : Nat) : Nat := bitsOf 55 40 w
def rTileRows (w : Nat) : Nat := bitsOf 39 30 w
def rKz (w : Nat) : Nat := bitsOf 29 27 w
def rKy (w : Nat) : Nat := bitsOf 26 24 w
def rKx (w : Nat) : Nat := bitsOf 23 21 w
def rInSet (w : Nat) : Nat := bitsOf 20 14 w

/-- The kernel volume V. -/
def rVol (w : Nat) : Nat := rKx w * rKy w * rKz w

/-- The output site set (R222, R226). -/
def rOutSet (w r : Nat) : Nat :=
  if rMode w = 0 then rInSet w else if rMode w = 1 then 64 + r
  else if rMode w = 2 then rInSet w + 1 else rInSet w - 1

/-- The cap of a site set (R224); rulebook IDs fall along the chain of GEN sets. -/
def State.setCap (s : State) : Nat → Nat → Nat
  | 0, _ => s.rd R.SITE_CAP
  | fuel + 1, id =>
    if id < 64 then s.rd R.SITE_CAP
    else match s.rbSpec (id - 64) with
      | some w => if rDilCap w = 0 then s.setCap fuel (rInSet w) else rDilCap w
      | none => s.rd R.SITE_CAP

/-- N_cap: the cap of the output set, for DOWN and UP of the input set (R233). -/
def State.rbCap (s : State) (w r : Nat) : Nat := if rMode w = 1 then s.setCap 65 (64 + r) else s.setCap 65 (rInSet w)

/-- TREC: bytes of a tile record (R233). -/
def rTrec (w : Nat) : Nat := ceilDiv (32 + 8 * rVol w) 64 * 64

/-- T_max (R233). -/
def State.rbTmax (s : State) (w r : Nat) : Nat := ceilDiv (s.rbCap w r) (min (rTileRows w) (4096 / rVol w))

/-- The worst-case size (R233). -/
def State.rbWorst (s : State) (w r : Nat) : Nat := 256 + s.rbTmax w r * rTrec w + 32 * s.rbCap w r * rVol w

/-! ### Kernels and grids (R222, R226) -/

/-- The displacements of a kernel, by offset index. -/
def kernelOffs (w : Nat) : List (Int × Int × Int) :=
  let kx := rKx w; let ky := rKy w
  (List.range (rVol w)).map fun o =>
    (((o % kx : Nat) : Int) - ((kx - 1) / 2 : Nat), ((o / kx % ky : Nat) : Int) - ((ky - 1) / 2 : Nat),
     ((o / (kx * ky) : Nat) : Int) - ((rKz w - 1) / 2 : Nat))

/-- A place plus a displacement. -/
def plus3 (a b : Int × Int × Int) : Int × Int × Int := (a.1 + b.1, a.2.1 + b.2.1, a.2.2 + b.2.2)

/-- A place less a displacement. -/
def minus3 (a b : Int × Int × Int) : Int × Int × Int := (a.1 - b.1, a.2.1 - b.2.1, a.2.2 - b.2.2)

/-- The place of a key. -/
def placeOf (k : Nat) : Int × Int × Int := let (i, j, l) := unmorton k; (i, j, l)

/-- The key of a place; none when a coordinate is negative. -/
def keyOf (p : Int × Int × Int) : Option Nat :=
  if p.1 < 0 || p.2.1 < 0 || p.2.2 < 0 then none else some (morton p.1.toNat p.2.1.toNat p.2.2.toNat)

/-- The index of a place in a site set. -/
def siteAt (keys : List Nat) (p : Int × Int × Int) : Option Nat := match keyOf p with
  | some k => keys.findIdx? (· = k)
  | none => none

/-- A place lies within the grid extent of a level (R222). -/
def State.inExtent (s : State) (lv : Nat) (p : Int × Int × Int) : Bool :=
  let n : Int := (1024 * 2 ^ s.rd R.VOX_SUB) / 2 ^ lv
  let nk : Int := ceilDiv (s.rd R.VOX_NK) (2 ^ lv)
  0 ≤ p.1 && p.1 < n && 0 ≤ p.2.1 && p.2.1 < n && 0 ≤ p.2.2 && p.2.2 < nk

/-! ### Generated sets (R227) -/

/-- A generated output set: its keys, candidates suppressed and dropped, whether the cap was met. -/
structure GenSet where
  keys : List Nat
  sup : Nat
  dil : Nat
  capped : Bool

/-- Insert a candidate if it is new. -/
def addNew (p : Int × Int × Int) (l : List (Int × Int × Int)) : List (Int × Int × Int) := if l.contains p then l else l ++ [p]

/-- Insert into a list of (count, key) by descending count, then ascending key. -/
def insertCand (e : Nat × Nat) : List (Nat × Nat) → List (Nat × Nat)
  | [] => [e]
  | x :: t => if x.1 < e.1 || (x.1 = e.1 && e.2 < x.2) then e :: x :: t else x :: insertCand e t

/-- Insert a number into an ascending list without repeats. -/
def insertNat (e : Nat) : List Nat → List Nat
  | [] => [e]
  | x :: t => if e < x then e :: x :: t else if e = x then x :: t else x :: insertNat e t

/-- An ascending list without repeats. -/
def sortNats (l : List Nat) : List Nat := l.foldl (fun a e => insertNat e a) []

/-- Generate the output set of a GEN rulebook (R227). -/
def State.genOut (s : State) (w cap lv : Nat) (ins : List Nat) : GenSet :=
  let offs := kernelOffs w
  let cands := ins.foldl (fun l k => offs.foldl (fun l o => addNew (minus3 (placeOf k) o) l) l) []
  let count := fun q => (offs.filter (fun o => (siteAt ins (plus3 q o)).isSome)).length
  let isIn := fun q => (siteAt ins q).isSome
  let kept := cands.filter (fun q => isIn q || (s.inExtent lv q && (rKmin w : Int) ≤ q.2.2 && q.2.2 ≤ (rKmax w : Int) && rDilMin w ≤ count q))
  let fresh := (kept.filter (fun q => !isIn q)).foldl (fun l q => insertCand (count q, (keyOf q).getD 0) l) []
  let excess := kept.length - cap
  let take := (fresh.take (fresh.length - excess)).map (·.2)
  { keys := sortNats (ins ++ take), sup := cands.length - kept.length, dil := excess, capped := decide (cap < kept.length) }

/-- A site set: its level and its keys in site order. -/
structure Sites where
  lv : Nat
  keys : List Nat

/-- The site set of an ID, from the octree levels of a voxel set (R222). -/
def State.sites (s : State) (ls : List (List Node)) : Nat → Nat → Sites
  | 0, _ => ⟨0, []⟩
  | fuel + 1, id =>
    if id < 64 then ⟨id, (ls.getD id []).map (·.key)⟩
    else match s.rbSpec (id - 64) with
      | some w =>
        let i := s.sites ls fuel (rInSet w)
        ⟨i.lv, (s.genOut w (s.setCap 65 id) i.lv i.keys).keys⟩
      | none => ⟨0, []⟩

/-! ### Pairs and tiles (R226, R228) -/

/-- The pairs of an output site: (offset, input site index) by ascending offset. -/
abbrev RbRow := List (Nat × Nat)

/-- The rows of a rulebook, by output site (R226). -/
def State.rbRows (s : State) (ls : List (List Node)) (w r : Nat) : List RbRow :=
  let i := s.sites ls 65 (rInSet w)
  if rMode w ≤ 1 then
    let outs := (s.sites ls 65 (rOutSet w r)).keys
    let offs := kernelOffs w
    outs.map fun k => ((offs.mapIdx fun o d => (siteAt i.keys (plus3 (placeOf k) d)).map (fun x => (o, x)))).filterMap id
  else if rMode w = 2 then
    (ls.getD (rInSet w + 1) []).map fun nd =>
      ((List.range 8).filter (fun b => nd.mask.testBit b)).map fun b => (b, nd.first + popCount 8 (nd.mask &&& (2 ^ b - 1)))
  else
    (ls.getD (rInSet w - 1) []).map fun nd => match i.keys.findIdx? (· = nd.key / 8) with
      | some x => [(nd.key % 8, x)]
      | none => []

/-- A tile: its first output site, its rows, closed at the halo limit. -/
structure RbTile where
  first : Nat
  rows : List RbRow
  split : Bool

/-- The halo with the inputs of one more row. -/
def addHalo (h : List Nat) (r : RbRow) : List Nat := r.foldl (fun h p => if h.contains p.2 then h else p.2 :: h) h

/-- Cut rows into tiles (R228): `cur` are the rows of the open tile, last first, `h` its halo. -/
def cutTiles (tr : Nat) : List RbRow → Nat → List RbRow → List Nat → List RbTile
  | [], first, cur, _ => if cur.isEmpty then [] else [⟨first, cur.reverse, false⟩]
  | r :: t, first, cur, h =>
    let h1 := addHalo h r
    if cur.length = tr then ⟨first, cur.reverse, false⟩ :: cutTiles tr t (first + cur.length) [r] (addHalo [] r)
    else if 4096 < h1.length && !cur.isEmpty then
      ⟨first, cur.reverse, true⟩ :: cutTiles tr t (first + cur.length) [r] (addHalo [] r)
    else cutTiles tr t first (r :: cur) h1

/-- The tiles of a rulebook; an empty output set gives one tile without rows (R235). -/
def State.rbTiles (s : State) (ls : List (List Node)) (w r : Nat) : List RbTile :=
  match cutTiles (rTileRows w) (s.rbRows ls w r) 0 [] [] with
  | [] => [⟨0, [], false⟩]
  | l => l

/-- The halo of a tile, ascending (R228). -/
def RbTile.halo (t : RbTile) : List Nat := sortNats (t.rows.flatMap (fun r => r.map (·.2)))

/-- The pairs of a tile. -/
def RbTile.pairs (t : RbTile) : Nat := (t.rows.map (·.length)).foldl (· + ·) 0

/-- The rows of a tile that have a pair at offset `o`. -/
def RbTile.rowsAt (t : RbTile) (o : Nat) : List Nat :=
  (List.range t.rows.length).filter (fun i => (t.rows.getD i []).any (fun p => p.1 = o))

/-- The `LEAD` offset (R236). -/
def RbTile.lead (t : RbTile) (w : Nat) : Nat :=
  if t.rows.isEmpty then 0xFF
  else if rMode w = 0 then (rVol w - 1) / 2
  else ((List.range (rVol w)).find? (fun o => !(t.rowsAt o).isEmpty)).getD 0xFF

/-- `ROW0` and `NROWS` of offset `o` (R236). -/
def RbTile.span (t : RbTile) (w o : Nat) : Nat × Nat :=
  if o = t.lead w then (0, t.rows.length)
  else match t.rowsAt o with
    | [] => (0, 0)
    | a :: l => (a, (l.getLast?.getD a) + 1 - a)

/-- A list entry (R211, R236): `I1`, or `SKIP`. -/
def listEntry16 (x : Option Nat) : Bytes := match x with
  | some i => toLe 16 (i * 2 ^ 24)
  | none => toLe 16 (2 ^ 127)

/-- The bytes of offset `o`'s list. -/
def RbTile.listBytes (t : RbTile) (w o : Nat) : Bytes :=
  let h := t.halo
  let (a, n) := t.span w o
  (List.range n).flatMap fun m => listEntry16
    (((t.rows.getD (a + m) []).find? (fun p => p.1 = o)).bind (fun p => h.findIdx? (· = p.2)))

/-- Offset list entries of a tile. -/
def RbTile.rowsN (t : RbTile) (w : Nat) : Nat := ((List.range (rVol w)).map (fun o => (t.span w o).2)).foldl (· + ·) 0

/-- Bytes of a tile's lists. -/
def RbTile.listLen (t : RbTile) (w : Nat) : Nat := 16 * (t.halo.length + t.rowsN w)

/-- The lists of a tile: the halo list, then the offsets' lists in ascending offset. -/
def RbTile.lists (t : RbTile) (w : Nat) : Bytes :=
  t.halo.flatMap (fun i => listEntry16 (some i)) ++ (List.range (rVol w)).flatMap (fun o => t.listBytes w o)

/-- The record of a tile whose lists begin at byte `off` of the rulebook (R235). -/
def RbTile.record (t : RbTile) (w off : Nat) (last : Bool) : Bytes :=
  let h := t.halo.length
  let noff := ((List.range (rVol w)).filter (fun o => !(t.rowsAt o).isEmpty)).length
  let head := t.first * 2 ^ 96 + t.rows.length * 2 ^ 128 + h * 2 ^ 144 + (off / 16) * 2 ^ 160 + t.pairs * 2 ^ 192 +
    noff * 2 ^ 232 + t.lead w * 2 ^ 240 + boolNat t.split * 2 ^ 248 + boolNat last * 2 ^ 249
  let ents := (List.range (rVol w)).foldl (fun (a : Nat × Bytes) o =>
    let (r0, n) := t.span w o
    (a.1 + 16 * n, a.2 ++ toLe 8 (if n = 0 then 0 else n * 2 ^ 12 + r0 * 2 ^ 22 + (a.1 / 16) * 2 ^ 32))) (off + 16 * h, [])
  padTo (rTrec w) (toLe 32 head ++ ents.2)

/-- The byte offset of tile record 0: right after the header.
[DESIGN CHOICE, log entry 34] -/
abbrev rTileOff : Nat := 256

/-- The byte offset of the lists of tile `t`: the lists follow the space of the tile records, tile by tile.
[DESIGN CHOICE, log entry 34] -/
def State.rbListOff (s : State) (w r : Nat) (ts : List RbTile) (t : Nat) : Nat :=
  rTileOff + s.rbTmax w r * rTrec w + ((ts.take t).map (fun x => x.listLen w)).foldl (· + ·) 0

/-- The local address of rulebook `r` in the area of set buffer `b` (R233). -/
def State.rbBase (s : State) (b r : Nat) : Nat := s.rd R.RB_AREA_BASE + b * s.rd R.RB_AREA + s.rd (R.RB_OFF r)

/-! ### The site point array (R223) -/

/-- The 32 bytes of a site from its bucket entry (R121, R223). -/
def pointBytes (g : Grid) (e : Nat) : Bytes :=
  let (i, j, k) := unmorton (bitsOf 255 208 e)
  let d := fun (v o n sz : Nat) => fpRound fp32 (Dy.sub (fpDy fp32 v)
    (Dy.add (fpDy fp32 o) (Dy.mul { m := 2 * n + 1, e := -1 } (fpDy fp32 sz))))
  toLe 4 (d (bitsOf 191 160 e) g.x0 i g.sz) ++ toLe 4 (d (bitsOf 159 128 e) g.y0 j g.sz) ++
  toLe 4 (d (bitsOf 127 96 e) g.z0 k g.szZ) ++ toLe 4 (ratTo32 (bitsOf 31 16 e) 65535) ++
  toLe 4 (ratTo32 (sgnOf 32 (bitsOf 95 64 e)) 1000000) ++ toLe 4 (ratTo32 (bitsOf 15 0 e) 100) ++
  toLe 4 (ratTo32 (bitsOf 199 197 e) 1) ++ toLe 4 (ratTo32 (bitsOf 207 201 e) 1)

/-- Write the site point array of a set (R223); a poisoned bucket writes poison.
[DESIGN CHOICE, log entry 34] -/
def State.writePoints (s : State) (b : Nat) (v : VSet) : State :=
  if s.rd R.RB_AREA = 0 then s
  else
    let g := s.grid v.alm
    let at0 := s.rd R.RB_AREA_BASE + b * s.rd R.RB_AREA
    ((level0 v.leaves).foldl (fun (x : Nat × State) nd =>
      let r := x.2.readMem 0x1000 ((s.setPlace b).base + 32 * nd.first) 32
      (x.1 + 32, (r.s.writeMem 0x1000 x.1 (pointBytes g (leNat r.data)) r.poison).2)) (at0, s)).2

/-! ### A build (R229 to R232) -/

/-- The bookkeeping of an epoch. -/
def State.epochRt (s : State) (n : Nat) : EpochRt := smGet (fun _ => EpochRt.empty) s.deep.ag.epochs n

/-- Change Astrograph's own state. -/
def State.mapAg (s : State) (f : Astro → Astro) : State := s.mapDeep fun d => { d with ag := f d.ag }

/-- Change the bookkeeping of an epoch. -/
def State.mapEpoch (s : State) (n : Nat) (f : EpochRt → EpochRt) : State :=
  s.mapAg fun a => { a with epochs := smSet (fun _ => EpochRt.empty) a.epochs n (f (smGet (fun _ => EpochRt.empty) a.epochs n)) }

/-- Change the build in progress. -/
def State.setRb (s : State) (b : Option RbBuild) : State := s.mapDeep fun d => { d with rb := b }

/-- The lowest declared rulebook from `r` up. -/
def State.rbFrom (s : State) (r : Nat) : Option Nat :=
  (List.range 64).find? (fun i => r ≤ i && (s.rbSpec i).isSome)

/-- The input set of a rulebook comes from a generated set whose build failed (R232). -/
def State.rbInFailed (s : State) (w : Nat) : Bool :=
  64 ≤ rInSet w && (s.rd (R.RB_FLAGS (rInSet w - 64))).testBit 3

/-- Start the next declared build from `r` up for a set (R229). -/
def State.rbStart (s : State) (b n r : Nat) : State :=
  match s.rbFrom r with
  | none => s.setRb none
  | some i =>
    let w := (s.rbSpec i).getD 0
    s.setRb (some { buf := b, epoch := n, rid := i, tiles := 0, fail := s.rbInFailed w, start := s.now })

/-- The address and length of the word that holds input site `i` of a set: its octree node, or its generated key. -/
def State.siteWord (s : State) (b : Nat) (ls : List (List Node)) (id i : Nat) : Nat × Nat :=
  if id < 64 then
    let below := ((ls.take id).map (·.length)).foldl (· + ·) 0
    ((s.setPlace b).oct + 16 * (below + i), 16)
  else
    let base := s.rbBase b (id - 64)
    (base + bitsOf 319 256 (s.leAtMem base 256) + 8 * i, 8)

/-- Read words as the builder; whether one of them is poisoned. -/
def State.readWords (s : State) (l : List (Nat × Nat)) : Bool × State :=
  l.foldl (fun (x : Bool × State) a => let r := x.2.readMem 0x1000 a.1 a.2; (x.1 || r.poison, r.s)) (false, s)

/-- The words that a tile reads: those of its halo, and for DOWN and UP those of its output sites. -/
def State.tileWords (s : State) (b : Nat) (ls : List (List Node)) (w r : Nat) (t : RbTile) : List (Nat × Nat) :=
  t.halo.map (fun i => s.siteWord b ls (rInSet w) i) ++
  (if 2 ≤ rMode w then (List.range t.rows.length).map (fun i => s.siteWord b ls (rOutSet w r) (t.first + i)) else [])

/-- The rulebook events carry the epoch number and the rulebook ID (R245). -/
def State.rbEvent (s : State) (code : Nat) (x : RbBuild) : State := s.event code 0 [(64, x.epoch), (8, x.rid)]

/-- Add to `PROG_CAIRN` (R230). -/
def State.rbSignal (s : State) (w v : Nat) : State := s.sigAdd 0x1000 (rProg w) v

/-- The next tile of the build in progress is written and announced (R228, R230, R232).
[DESIGN CHOICE, log entry 34] -/
def State.rbTile (s : State) (x : RbBuild) (v : VSet) (w : Nat) : State :=
  let ls := s.setLevels v
  let ts := s.rbTiles ls w x.rid
  match ts[x.tiles]? with
  | none => s
  | some t =>
    let (bad, s1) := s.readWords (s.tileWords x.buf ls w x.rid t)
    if bad then s1.setRb (some { x with fail := true })
    else
      let base := s.rbBase x.buf x.rid
      let off := s.rbListOff w x.rid ts x.tiles
      let s2 := s1.talusWrite (base + off) (t.lists w)
      let s3 := s2.talusWrite (base + rTileOff + x.tiles * rTrec w) (t.record w off (x.tiles + 1 = ts.length))
      let s4 := if t.split then
          let s' := s3.bump R.SPLIT_CNT
          if (ts.take x.tiles).any (·.split) then s' else s'.rbEvent 0x2409 x
        else s3
      (s4.setRb (some { x with tiles := x.tiles + 1 })).rbSignal w 1

/-- The generated set of a build, if its mode is GEN.
[DESIGN CHOICE, log entry 34] -/
def State.rbGen (s : State) (ls : List (List Node)) (w r : Nat) : Option GenSet :=
  if rMode w = 1 then
    let i := s.sites ls 65 (rInSet w)
    some (s.genOut w (s.setCap 65 (64 + r)) i.lv i.keys)
  else none

/-- `SPLIT` of a build: a tile written was closed early. -/
def anySplit (ts : List RbTile) : Bool := ts.any (·.split)

/-- The flags of a build's header (R234). -/
def State.rbFlags (s : State) (x : RbBuild) (v : VSet) (done : List RbTile) (nOut : Nat) (gen : Option GenSet) : Nat :=
  boolNat (match gen with | some g => g.capped | none => false) + 2 * boolNat (anySplit done) +
  4 * boolNat (v.flags.testBit 0) + 8 * boolNat x.fail + 16 * boolNat (nOut = 0) + 32 * boolNat s.replaying

/-- The build in progress completes (R227, R230, R232, R234): keys, header, counters, the completion add, and the next
build.
[DESIGN CHOICE, log entry 34] -/
def State.rbFinish (s : State) (x : RbBuild) (v : VSet) (w : Nat) : State :=
  let ls := s.setLevels v
  let dead := s.rbInFailed w
  let ts := if dead then [] else s.rbTiles ls w x.rid
  let done := ts.take x.tiles
  let gen := if dead then none else s.rbGen ls w x.rid
  let nIn := if dead then 0 else (s.sites ls 65 (rInSet w)).keys.length
  let nOut := if dead then 0 else (s.rbRows ls w x.rid).length
  let base := s.rbBase x.buf x.rid
  let keysOff := match gen with | some _ => s.rbListOff w x.rid ts done.length | none => 0
  let s1 := match gen with | some g => s.talusWrite (base + keysOff) (g.keys.flatMap (toLe 8)) | none => s
  let s2 := if x.fail && 0 < x.tiles then
      let a := base + rTileOff + (x.tiles - 1) * rTrec w
      s1.talusWrite a (toLe 32 (setBit (s1.leAtMem a 32) 249))
    else s1
  let sum := fun (f : RbTile → Nat) => (done.map f).foldl (· + ·) 0
  let fl := s.rbFlags x v done nOut gen
  let ns := min ((s.now - x.start) / ftNs) maxCount
  let sup := match gen with | some g => g.sup | none => 0
  let dil := match gen with | some g => g.dil | none => 0
  let hdr := x.epoch + x.rid * 2 ^ 64 + rMode w * 2 ^ 72 + rInSet w * 2 ^ 128 + rOutSet w x.rid * 2 ^ 136 +
    rKx w * 2 ^ 144 + rKy w * 2 ^ 152 + rKz w * 2 ^ 160 + rVol w * 2 ^ 168 + rTileRows w * 2 ^ 176 + rTileOff * 2 ^ 192 +
    keysOff * 2 ^ 256 + fl * 2 ^ 320 + nIn * 2 ^ 352 + nOut * 2 ^ 384 + done.length * 2 ^ 416 +
    sum RbTile.pairs * 2 ^ 448 + sum (fun t => t.rowsN w) * 2 ^ 480 + sum (fun t => t.halo.length) * 2 ^ 512 +
    (done.filter (·.split)).length * 2 ^ 544 + dil * 2 ^ 576 + sup * 2 ^ 608 + ns * 2 ^ 640
  let s3 := s2.talusWrite base (toLe 256 hdr)
  let s4 := ((s3.wr (R.RB_TILES x.rid) done.length).wr (R.RB_NS x.rid) ns).wr (R.RB_FLAGS x.rid) fl
  let s5 := s4.bumpN R.DIL_DROP_ALL dil
  let s6 := if fl.testBit 0 then
      (s5.mapEpoch x.epoch fun e => { e with dilCapped := true }).rbEvent 0x2408 x
    else s5
  let s7 := if x.fail then (let s' := s6.bump R.RB_FAIL; if dead then s' else s'.rbEvent 0x240A x) else s6
  let s8 := s7.mapEpoch x.epoch fun e =>
    { e with rbDone := setBit e.rbDone x.rid, rbFail := if x.fail then setBit e.rbFail x.rid else e.rbFail }
  (s8.rbSignal w 0x100000).rbStart x.buf x.epoch (x.rid + 1)

/-- The build in progress with its set and spec. -/
def State.rbNow (s : State) : Option (RbBuild × VSet × Nat) :=
  match s.deep.rb with
  | none => none
  | some x => match s.vset x.buf, s.rbSpec x.rid with
    | some v, some w => if v.epoch = x.epoch then some (x, v, w) else none
    | _, _ => none

/-- All tiles of the build are written, or it has failed. -/
def State.rbAllDone (s : State) (x : RbBuild) (v : VSet) (w : Nat) : Bool :=
  x.fail || (s.rbTiles (s.setLevels v) w x.rid).length ≤ x.tiles

end Sys2Proof.Machine
end

