-- ==== Sys2Proof/Machine/SentinelOps.lean ====
section
/-! DEFINITION. Sentinel's shared operations (chapter 05): the Plate, evidence, pose sources, the integrator, corridors,
the safe state and the safety outputs. -/
namespace Sys2Proof.Machine

/-- Change Sentinel's own state. -/
def State.mapSnt (s : State) (f : Snt → Snt) : State := { s with snt := f s.snt }

/-! ### Settings -/

/-- The value of one of Sentinel's settings in effect: a write takes effect at the next slice start (R166 (b)). -/
def State.sntVal (s : State) (k : Nat) : Nat :=
  match smGet (fun _ => 0) s.snt.pendSet k with
  | 0 => s.rd k
  | n => n - 1

/-- Write one of these settings: the old value stays in effect until the next slice starts. -/
def State.sntWrite (s : State) (k v : Nat) : State :=
  let s1 := s.wr k v
  if !s.snt.running || smGet (fun _ => 0) s.snt.pendSet k ≠ 0 then s1
  else s1.mapSnt fun n => { n with pendSet := smSet (fun _ => 0) n.pendSet k (s.rd k + 1) }

/-- The slice length T. -/
def State.sliceLen (s : State) : Nat := s.rd R.SLICE_LEN * ftUs

/-- The end of slice `k` (R27). -/
def State.sliceEnd (s : State) (k : Nat) : Nat := (k + 1) * s.sliceLen

/-- The slice of a time (R27). -/
def State.sliceOf (s : State) (t : Nat) : Nat := t / s.sliceLen

/-- The close of slice `k` (R28). -/
def State.sliceCloseT (s : State) (k : Nat) : Nat := s.sliceEnd k + s.lag

/-- Microseconds modulo 2^22 (R135). -/
def us22 (t : Nat) : Nat := t / ftUs % 2 ^ 22

/-! ### The safe state and the safety outputs (R157 to R160) -/

/-- A cause asserts `SAFE_N` at this moment (R159). -/
def State.safeCauseNow (s : State) : Bool :=
  let bit := fun (v : Nat) => v = 3 || (s.sntVal R.SAFE_MASK).testBit v
  (match s.snt.lastVerdict with
   | none => true
   | some v => bit v) ||
  !s.pdOn 4 || !s.pdOn 5 || s.rd R.SNT_STATE ≠ 2 || s.replaying

/-- Bring `SAFE_N` up to date: it asserts with a cause and releases no sooner than `SAFE_HOLD` after the last (R159).
[DEDUCED, log entry 28] -/
def State.updateSafe (s : State) : State :=
  let n := s.snt
  if s.safeCauseNow then s.mapSnt fun n => { n with safeN := true, safeActive := true, safeCause := s.now }
  else
    let last := if n.safeActive then s.now else n.safeCause
    s.mapSnt fun n => { n with safeActive := false, safeCause := last,
                               safeN := n.safeN && decide (s.now < last + s.sntVal R.SAFE_HOLD * ftUs) }

/-- Sentinel enters SAFE (R158): latched; the result of the slice in which the fault was found and every later one is
the fixed emitter's. A Sentinel that does not run does not enter it.
[DEDUCED, log entry 28] -/
def State.enterSafe (s : State) : State :=
  if s.rd R.SNT_STATE = 0 || s.rd R.SNT_STATE = 3 then s
  else
    let s1 := (s.wr R.SNT_STATE 3).event 0x2501 0 []
    let k := match s.snt.waiting with
      | x :: _ => x.slice
      | [] => s.snt.nextClose
    (s1.mapSnt fun n => { n with failFrom := some k, nextClose := k, waiting := [] }).updateSafe

/-! ### The Plate (R133 to R136) -/

/-- A world cell. -/
abbrev Cell := Int × Int

/-- The offset of a world cell's state in a copy's half (R134). -/
def cellOff (c : Cell) : Nat := 8 * ((c.1 % 1024).toNat * 1024 + (c.2 % 1024).toNat)

/-- The base of a copy's half (R133): 0 Sentinel A, 1 Sentinel B. -/
def plateBase (copy : Nat) : Nat := 0x11000000000 + copy * 0x800000

/-- The cell lies in the window (R134). -/
def State.inWindow (s : State) (c : Cell) : Bool :=
  let k := s.snt.corner
  decide (k.1 ≤ c.1) && decide (c.1 < k.1 + 1024) && decide (k.2 ≤ c.2) && decide (c.2 < k.2 + 1024)

/-- Both copies read a cell state; a poisoned or uncorrectable word is D021, and Sentinel enters SAFE (R157). -/
def State.readCell (s : State) (c : Cell) : Nat × State :=
  let a := s.readMem 0x2000 (plateBase 0 + cellOff c) 8
  let b := a.s.readMem 0x2001 (plateBase 1 + cellOff c) 8
  if a.poison || b.poison then (leNat a.data, (b.s.detect 21 (if a.poison then 0x2000 else 0x2001) []).enterSafe)
  else (leNat a.data, b.s)

/-- Both copies write a cell state. -/
def State.writeCell (s : State) (c : Cell) (v : Nat) : State :=
  let s1 := (s.writeMem 0x2000 (plateBase 0 + cellOff c) (toLe 8 v) false).2
  (s1.writeMem 0x2001 (plateBase 1 + cellOff c) (toLe 8 v) false).2

/-- A cell state as it is stored, without a read of its own. -/
def State.cellRaw (s : State) (c : Cell) : Nat := s.leAtMem (plateBase 0 + cellOff c) 8

/-- Write the cleared state to every Plate cell whose window position (row, column) satisfies `p`, in both halves. -/
def State.clearCells (s : State) (p : Nat → Nat → Bool) : State :=
  let hit := fun (a : Nat) =>
    decide (0x11000000000 ≤ a) && decide (a < 0x11001000000) &&
      (let i := (a - 0x11000000000) % 0x800000 / 8; p (i / 1024) (i % 1024))
  let word := fun (k : Nat) => decide (k < 2 ^ 48) && hit (16 * k) && hit (16 * k + 8)
  { s with mem := { s.mem with bytes := smDrop hit s.mem.bytes, werr := smDrop word s.mem.werr } }

/-- Clear the whole Plate (R144); the clear runs until `PLATE_CLEAR_DONE`.
[DEDUCED, log entry 27] -/
def State.clearPlate (s : State) : State :=
  ((s.clearCells (fun _ _ => true)).mapSnt fun n => { n with clearing := true, cleared := true }).event 0x2508 0 []

/-- The window moves so that its corner is at `k`; entering rows and columns are cleared (R134).
[DEDUCED, log entry 27] -/
def State.moveWindow (s : State) (k : Cell) : State :=
  let o := s.snt.corner
  let newRow := fun (i : Nat) => let a := k.1 + ((i : Int) - k.1) % 1024; !(decide (o.1 ≤ a) && decide (a < o.1 + 1024))
  let newCol := fun (j : Nat) => let b := k.2 + ((j : Int) - k.2) % 1024; !(decide (o.2 ≤ b) && decide (b < o.2 + 1024))
  if o = k then s
  else (s.clearCells (fun i j => newRow i || newCol j)).mapSnt fun n => { n with corner := k }

/-! ### Fields of a cell state (R135) -/

def cOccT (v : Nat) : Nat := bitsOf 63 42 v
def cFreeT (v : Nat) : Nat := bitsOf 41 20 v
def cSrcOcc (v : Nat) : Nat := bitsOf 19 13 v
def cSrcFree (v : Nat) : Nat := bitsOf 12 6 v
def cFreeCnt (v : Nat) : Nat := bitsOf 5 3 v
def cOccV (v : Nat) : Bool := v.testBit 2
def cFreeV (v : Nat) : Bool := v.testBit 1
def cConf (v : Nat) : Bool := v.testBit 0

/-- A cell state from its fields. -/
def mkCell (occT freeT srcOcc srcFree cnt : Nat) (occV freeV conf : Bool) : Nat :=
  occT * 2 ^ 42 + freeT * 2 ^ 20 + srcOcc * 2 ^ 13 + srcFree * 2 ^ 6 + cnt * 8 + boolNat occV * 4 + boolNat freeV * 2 +
    boolNat conf

/-- Occupied evidence of mask bit `m` in the slice that ends at `e` (µs mod 2^22) (R139). -/
def foldOcc (v m e : Nat) : Nat :=
  let conf :=
    if cFreeV v && cFreeT v = e && cSrcFree v ≠ m then true
    else if cOccT v ≠ e then false else cConf v
  mkCell e (cFreeT v) m (cSrcFree v) 0 true (cFreeV v) conf

/-- Free evidence (R139). -/
def foldFree (v m e : Nat) : Nat :=
  let occNow := cOccV v && cOccT v = e
  let conf := if occNow && cSrcOcc v ≠ m then true else cConf v
  let cnt := if (cFreeT v ≠ e || !cFreeV v) && !occNow then min 7 (cFreeCnt v + 1) else cFreeCnt v
  mkCell (cOccT v) e (cSrcOcc v) m cnt (cOccV v) true conf

/-! ### Sources -/

/-- The local slot with a mask bit (R162). -/
def State.slotOfBit (s : State) (bit : Nat) : Option Nat :=
  (List.range 96).find? (fun i => s.rd (R.MASK_BIT (i + 1)) = bit && s.rd (R.SLOT_KIND i) = 1)

/-- The source of a mask bit is reachable (R140): not a peer's that is unreachable, nor a DEAD slot's. -/
def State.bitReachable (s : State) (bit : Nat) : Bool :=
  match smGet (fun _ => 0) s.snt.peerBits bit with
  | 0 => match s.slotOfBit bit with
    | some i => s.rd (R.SLOT_STATE i) ≠ 4
    | none => true
  | n => s.reachable (n - 1)

/-- The states of a cell (R140). -/
inductive CellState where
  | unobserved | free | occupied
deriving DecidableEq, Repr

/-- The state of a cell at `t` (µs mod 2^22) (R140). -/
def State.cellState (s : State) (v t : Nat) : CellState :=
  let age := fun (x : Nat) => (t + 2 ^ 22 - x) % 2 ^ 22
  if cOccV v && age (cOccT v) ≤ s.sntVal R.OCC_HOLD && cFreeCnt v < s.sntVal R.CLEAR_N then .occupied
  else if cFreeV v && age (cFreeT v) ≤ s.sntVal R.OBS_WIN && s.bitReachable (cSrcFree v) then .free
  else .unobserved

/-! ### The integrator (R143) -/

/-- Compose an anchor with a pose of the integrator's own frame. -/
def Pose.comp (a p : Pose) : Pose := { q := Quat.mul a.q p.q, x := Pose.apply a p.x }

/-- A slot of `INT_SRC`: byte 0 the IMU, bytes 1 to 4 the wheels; a byte of 96 or more names none.
[DESIGN CHOICE, log entry 26] -/
def State.intSlot (s : State) (i : Nat) : Option Nat :=
  let b := bitsOf (8 * i + 7) (8 * i) (s.rd R.INT_SRC)
  if b < 96 then some b else none

/-- The wheel slots (R143).
[DESIGN CHOICE, log entry 26] -/
def State.wheelSlots (s : State) : List Nat := ((List.range 4).filterMap (fun i => s.intSlot (i + 1))).eraseDups

/-- A slot is LIVE. -/
def State.slotLive (s : State) (i : Nat) : Bool := s.rd (R.SLOT_STATE i) = 2

/-- The integrator is valid: its IMU slot and at least one wheel slot are LIVE (R143). -/
def State.integValid (s : State) : Bool :=
  match s.intSlot 0 with
  | some i => s.slotLive i && s.wheelSlots.any (fun w => w ≠ i && s.slotLive w)
  | none => false

/-- A FP32 value of a sample by role. -/
def Sample.role (x : Sample) (r : Nat) : Option Nat := (x.vals.find? (fun e => e.1 = r)).map (fun e => e.2)

/-- Keep a pose in a history of `n` entries with grid `g`. -/
def keepPose (h : List (Nat × Pose)) (g : Nat) (p : Pose) (n : Nat) : List (Nat × Pose) :=
  let h1 := h.filter (fun e => e.1 ≠ g && g < e.1 + n)
  h1 ++ [(g, p)]

/-- A pose from a history at time `t`: interpolated between its entries on both sides (R143). -/
def histPose (h : List (Nat × Pose)) (step : Nat) (t : Nat) : Option Pose :=
  let before := (h.filter (fun e => e.1 * step ≤ t)).getLast?
  let after := h.find? (fun e => t < e.1 * step)
  match before, after with
  | some a, some b => some (Pose.lerp a.2 b.2 (Fx.ofRat ((t : Int) - (a.1 * step : Nat)) ((b.1 * step : Nat) - (a.1 * step : Nat))))
  | some a, none => some a.2
  | none, some b => some b.2
  | none, none => none

/-- The fine grid of the integrator, 64 µs, and the coarse one, 1,024 µs (R143). -/
abbrev fineStep : Nat := 64 * ftUs
abbrev coarseStep : Nat := 1024 * ftUs

/-- The integrator's pose in its own frame at `t`, from the fine history where it reaches, else the coarse one. -/
def State.integOwn (s : State) (t : Nat) : Pose :=
  let g := s.snt.integ
  if g.t ≤ t then g.pose
  else
    let fineStart := (g.fine.head?.map (fun e => e.1 * fineStep)).getD g.t
    ((if fineStart ≤ t then histPose g.fine fineStep t else histPose g.coarse coarseStep t)).getD g.pose

/-- The integrator's pose in the odometry frame.
[DESIGN CHOICE, log entry 26] -/
def State.integPose (s : State) (t : Nat) : Pose := Pose.comp s.snt.integ.anchor (s.integOwn t)

/-- A sample of the IMU or of a wheel source reaches the integrator (R143). The attitude's formula is free; position
advances by R × (v, 0, 0) × Δt.
[DEDUCED, log entry 21; DESIGN CHOICE, log entry 26] -/
def State.integSample (s : State) (x : Sample) : State :=
  let g := s.snt.integ
  let f := fun (r : Nat) => Fx.ofDy (fpDy fp32 ((x.role r).getD 0))
  if s.intSlot 0 = some x.slot then
    if g.t = 0 then s.mapSnt fun n => { n with integ := { n.integ with t := x.t } }
    else if x.t ≤ g.t then s
    else
      let dt := secs x.t g.t
      let w := Config.integAtt [g.pose.q.w, g.pose.q.x, g.pose.q.y, g.pose.q.z, f 0x13, f 0x14, f 0x15, f 0x10, f 0x11,
                                f 0x12, dt, s.sntVal R.INT_TAU]
      let e := fun (i : Nat) => sgnOf 64 (bitsOf (64 * i + 63) (64 * i) w) * 2 ^ 66
      let q := Quat.normalize { w := e 0, x := e 1, y := e 2, z := e 3 }
      let v : V3 := { x := g.speed, y := 0, z := 0 }
      let p : Pose := { q := q, x := V3.add g.pose.x (V3.smul dt (Quat.rotate g.pose.q v)) }
      s.mapSnt fun n => { n with integ := { n.integ with
        pose := p, t := x.t, fine := keepPose g.fine (x.t / fineStep) p 1024,
        coarse := keepPose g.coarse (x.t / coarseStep) p 1024 } }
  else if s.wheelSlots.contains x.slot then
    let val := (x.role 0x16).getD 0
    let old := smGet (fun _ => none) g.wheels x.slot
    let sp : Fx :=
      if s.rd (R.SLOT_KIND x.slot) = 5 then
        match old with
        | some (t0, c0, _) =>
          if x.t ≤ t0 then 0
          else Fx.div (Fx.mul (Fx.ofInt (sgnOf 32 ((x.role 0x100).getD 0 + 2 ^ 32 - c0))) (f 0x101)) (secs x.t t0)
        | none => 0
      else Fx.ofDy (fpDy fp32 val)
    let wheels := smSet (fun _ => none) g.wheels x.slot (some (x.t, (x.role 0x100).getD 0, sp))
    let live := s.wheelSlots.filterMap (fun i =>
      if s.slotLive i then (smGet (fun _ => none) wheels i).map (fun e => e.2.2) else none)
    let mean : Fx := if live = [] then g.speed else live.foldl (· + ·) 0 / (live.length : Int)
    s.mapSnt fun n => { n with integ := { n.integ with wheels := wheels, speed := mean } }
  else s

/-- The integrator re-anchors to the ring pose at a slice end (R143).
[DESIGN CHOICE, log entry 26] -/
def State.reanchor (s : State) (t : Nat) (p : Pose) : State :=
  let o := s.integOwn t
  let q := Quat.mul p.q (Quat.conj o.q)
  s.mapSnt fun n => { n with integ := { n.integ with anchor := { q := q, x := V3.sub p.x (Quat.rotate q o.x) } } }

/-! ### The pose source of a slice (R142) -/

/-- The ring meets the three conditions of R142 for slice `k`; its poses at the start and the end.
[DESIGN CHOICE, log entry 26] -/
def State.ringGood (s : State) (k : Nat) : Bool × Pose × Pose × State :=
  let ts := k * s.sliceLen
  let te := s.sliceEnd k
  let nw := s.ringNewest 0x2000
  let l0 := nw.2.lookup 0x2000 ts
  let l1 := l0.s.lookup 0x2000 te
  let fresh := match nw.1 with
    | some e => decide (te ≤ e.t + s.sntVal R.PR_STALE * ftUs)
    | none => false
  let kindOk := fun (x : LookupKind) => x = .interp || x = .fromBefore
  let noReset := match l0.src, l1.src with
    | some a, some b => !s.resetBetween (min a b) (max a b)
    | _, _ => false
  let from0 := te - s.sntVal R.CMP_WIN * ftUs
  let start := match s.ringOldest with
    | some o => max from0 o.t
    | none => from0
  let m0 := (l1.s.lookup 0x2000 start)
  let ring := Pose.rel m0.pose l1.pose
  let own := Pose.rel (s.integOwn start) (s.integOwn te)
  let dPos := V3.norm (V3.sub ring.x own.x)
  let dAtt := Quat.angle (Quat.mul (Quat.conj ring.q) own.q)
  let agree := s.integValid && decide (dPos ≤ Fx.ofRat (s.sntVal R.POSE_TOL_POS) 1000) &&
    decide (dAtt ≤ Fx.ofRat (s.sntVal R.POSE_TOL_ATT) 1000)
  (fresh && kindOk l0.kind && kindOk l1.kind && noReset && agree, l0.pose, l1.pose, m0.s)

/-- The source of a slice as chosen. -/
def State.sliceSrc (s : State) (k : Nat) : Option SliceSrc := smGet (fun _ => none) s.snt.srcs k

/-- The low corner of the window for a pose (R134); the cell size is that of the Almanac copy in use, in cm. -/
def cornerFor (cellCm : Nat) (p : Pose) : Cell :=
  let c := fun (v : Fx) => v / (Fx.ofRat cellCm 100) - 512
  (c p.x.x, c p.x.y)

/-- The cell size in use for slice `k` (R134, R253). -/
def State.cellCm (s : State) (k : Nat) : Nat := (s.geom (s.almOfTime (k * s.sliceLen))).cell

/-- The window follows the pose at the end of slice `k` once the slice has ended and its source is known; a ring source
re-anchors the integrator (R134, R143). -/
def State.followSlice (s : State) (k : Nat) : State :=
  match s.sliceSrc k with
  | some c =>
    if k < s.snt.nextEnd then
      let s1 := s.moveWindow (cornerFor (s.cellCm k) c.p1)
      if c.ring then s1.reanchor (s.sliceEnd k) c.p1 else s1
    else s
  | none => s

/-- Choose the pose source of slice `k`, once (R142, R143). -/
def State.chooseSrc (s : State) (k : Nat) : State :=
  match s.sliceSrc k with
  | some _ => s
  | none =>
    let (ok, p0, p1, s1) := s.ringGood k
    let n := s1.snt
    let good := if ok then n.good + 1 else 0
    let useRing := ok && (!n.fallback || s.sntVal R.RETURN_N ≤ good)
    let iv := s1.integValid
    let src : SliceSrc :=
      if useRing then { ring := true, valid := true, p0 := p0, p1 := p1 }
      else if iv then { ring := false, valid := true, p0 := s1.integPose (k * s.sliceLen), p1 := s1.integPose (s.sliceEnd k) }
      else { ring := false, valid := false, p0 := n.lastPose, p1 := n.lastPose }
    let s2 := s1.mapSnt fun n => { n with good := good, fallback := !useRing, lastPose := src.p1,
                                          srcs := smSet (fun _ => none) n.srcs k (some src) }
    let s3 := if useRing then s2 else s2.bump R.FALLBACK_CNT
    let s4 := if useRing && n.fallback then s3.event 0x2503 0 []
      else if !useRing && !n.fallback then s3.event 0x2502 0 [] else s3
    s4.followSlice k

/-- The pose at time `t` from the source of slice `k` (R138): within the slice by interpolation of its two poses, for a
late point from the source at the time itself. -/
def State.pointPose (s : State) (k t : Nat) : Pose × State :=
  match s.sliceSrc k with
  | none => (s.snt.lastPose, s)
  | some c =>
    let ts := k * s.sliceLen
    let te := s.sliceEnd k
    if ts ≤ t && t ≤ te then (Pose.lerp c.p0 c.p1 (Fx.ofRat ((t : Int) - ts) ((te : Int) - ts)), s)
    else if !c.valid then (s.snt.lastPose, s)
    else if c.ring then let l := s.lookup 0x2000 t; (l.pose, l.s)
    else (s.integPose t, s)

/-! ### Corridors (R145 to R147) -/

/-- A vertex of a polyline in metres, with its half width. -/
structure PolyPt where
  x : Fx
  y : Fx
  w : Fx
deriving DecidableEq, Repr

/-- The polyline as given, in the vehicle frame at `COR_T`. -/
def polyVehicle (c : Corridor) : List PolyPt :=
  c.verts.map (fun v => { x := Fx.ofRat v.x 100, y := Fx.ofRat v.y 100, w := Fx.ofRat v.w 100 })

/-- The polyline in the odometry frame (R146). -/
def polyOdo (c : Corridor) : List PolyPt :=
  (polyVehicle c).map (fun v => let p := Pose.apply c.pose { x := v.x, y := v.y, z := 0 }; { x := p.x, y := p.y, w := v.w })

/-- The segments of a polyline. -/
def segments : List PolyPt → List (PolyPt × PolyPt)
  | a :: b :: t => (a, b) :: segments (b :: t)
  | _ => []

/-- Where a point projects on a segment: the fraction along it (0 to 1), the distance, the half width there, and the
segment's length. -/
structure Proj where
  u : Fx
  dist : Fx
  w : Fx
  len : Fx
deriving DecidableEq, Repr

def projSeg (x y : Fx) (g : PolyPt × PolyPt) : Proj :=
  let dx := g.2.x - g.1.x
  let dy := g.2.y - g.1.y
  let l2 := Fx.mul dx dx + Fx.mul dy dy
  let u0 := if l2 = 0 then 0 else Fx.div (Fx.mul (x - g.1.x) dx + Fx.mul (y - g.1.y) dy) l2
  let u := if u0 < 0 then 0 else if Fx.one < u0 then Fx.one else u0
  let ex := x - (g.1.x + Fx.mul u dx)
  let ey := y - (g.1.y + Fx.mul u dy)
  { u := u, dist := Fx.sqrt (Fx.mul ex ex + Fx.mul ey ey), w := g.1.w + Fx.mul u (g.2.w - g.1.w), len := Fx.sqrt l2 }

/-- The point lies within the half width, widened by `m`, of the polyline (R97, R146). -/
def withinPoly (poly : List PolyPt) (m x y : Fx) : Bool :=
  (segments poly).any (fun g => let p := projSeg x y g; decide (p.dist ≤ p.w + m))

/-- The arc length of a point's projection onto the polyline: the nearest segment decides (R147). -/
def arcOf (poly : List PolyPt) (x y : Fx) : Fx :=
  let r := (segments poly).foldl (fun (acc : Fx × Option (Fx × Fx)) g =>
    let p := projSeg x y g
    let arc := acc.1 + Fx.mul p.u p.len
    let best := match acc.2 with
      | some (d, a) => if p.dist < d then (p.dist, arc) else (d, a)
      | none => (p.dist, arc)
    (acc.1 + p.len, some best)) (0, none)
  match r.2 with
  | some (_, a) => a
  | none => 0

/-- The centre of a world cell. -/
def cellCentre (cellCm : Nat) (c : Cell) : Fx × Fx :=
  (Fx.ofRat ((2 * c.1 + 1) * cellCm) 200, Fx.ofRat ((2 * c.2 + 1) * cellCm) 200)

/-- The world cell of a position. -/
def cellOf (cellCm : Nat) (x y : Fx) : Cell := (x / Fx.ofRat cellCm 100, y / Fx.ofRat cellCm 100)

/-- The integers from `lo` to `hi`. -/
def intRange (lo hi : Int) : List Int := (List.range (hi + 1 - lo).toNat).map (fun (i : Nat) => lo + (i : Int))

/-- The corridor cells of a polyline in the window (R146).
[DEDUCED, log entry 27] -/
def State.rasterize (s : State) (cellCm : Nat) (poly : List PolyPt) : List Cell :=
  let wmax := poly.foldl (fun m p => max m p.w) 0
  let bound := fun (f : PolyPt → Fx) =>
    let vs := poly.map f
    let lo := vs.foldl min (vs.headD 0)
    let hi := vs.foldl max (vs.headD 0)
    ((lo - wmax) / Fx.ofRat cellCm 100, (hi + wmax) / Fx.ofRat cellCm 100)
  let bx := bound (fun p => p.x)
  let by_ := bound (fun p => p.y)
  let k := s.snt.corner
  let xs := intRange (max bx.1 k.1) (min bx.2 (k.1 + 1023))
  let ys := intRange (max by_.1 k.2) (min by_.2 (k.2 + 1023))
  xs.flatMap (fun a => (ys.filter (fun b =>
    let c := cellCentre cellCm (a, b); withinPoly poly 0 c.1 c.2)).map (fun b => (a, b)))

/-- The keep region at a point in the vehicle frame (R97): the corridor in use widened by `KEEP_MARGIN`, inside the
Plate of Almanac copy `alm`. -/
def State.keepAt (s : State) (alm : Nat) (x y : Fx) : Bool :=
  let g := s.geom alm
  let inPlate := fun (v : Fx) (o : Int) =>
    decide (Fx.ofRat o 1000 ≤ v) && decide (v < Fx.ofRat o 1000 + Fx.ofRat (1024 * g.cell) 100)
  inPlate x g.x0 && inPlate y g.y0 &&
  match s.snt.cor with
  | some c => withinPoly (polyVehicle c) (Fx.ofRat (s.rd R.KEEP_MARGIN) 100) x y
  | none => true

/-! ### Results -/

/-- The 64-byte header of a result or deep result (R151). -/
def resHeader (typ seqNo slice validWord mask age outDt dist flags verdict len : Nat) : Nat :=
  typ + len * 2 ^ 16 + verdict * 2 ^ 30 + flags * 2 ^ 32 + dist * 2 ^ 48 + (min outDt 0xFFFFFFFF) * 2 ^ 64 +
  age * 2 ^ 96 + mask * 2 ^ 160 + validWord * 2 ^ 256 + slice * 2 ^ 384 + seqNo * 2 ^ 448

/-- The age of a result with no contribution (R150). -/
abbrev noAge : Nat := 0x7FFFFFFFFFFFFFFF

/-- The first slice result after the reset release sets `STARTUP_NS` (R538, R541); TCLK runs at 500 MHz.
[DEDUCED, log entry 28] -/
def State.markStartup (s : State) : State :=
  if s.rd R.STARTUP_NS = 0 then s.wr R.STARTUP_NS (2 * (s.tclk - s.power.startTclk)) else s

/-- Emit a slice result now (R154): the packet to `OUT_QUEUE`, without its change list when it does not fit; `SAFE_N`
follows. -/
def State.emitResult (s : State) (x : Res) : State :=
  let q := s.rd R.OUT_QUEUE
  let fits := 8 + x.changes.length ≤ s.qFree q
  let ch := if fits then x.changes else []
  let flags := if fits then x.flags else setBit x.flags 6
  let seqNo := s.rd R.SEQ_NEXT
  let age := match x.oldest with
    | some t => compactAge s.now t
    | none => noAge
  let len := 64 + 8 * ch.length
  let h := resHeader 1 seqNo x.slice (ftWord x.validT s.timeFlags) x.mask age ((s.now - x.validT) / ftNs) x.dist flags
    x.verdict len
  let s1 := s.qPacket q 0x2000 (toLe 64 h ++ ch.flatMap (fun e => toLe 8 e))
  let s2 := (s1.wr R.SEQ_NEXT ((seqNo + 1) % 2 ^ 64)).markStartup
  (s2.mapSnt fun n => { n with lastVerdict := some x.verdict,
                               emitted := lastN 64 (n.emitted ++ [{ x with out := s.now, flags := flags }]) }).updateSafe

end Sys2Proof.Machine
end

