-- ==== Sys2Proof/Machine/AlmCmds.lean ====
section
/-! DEFINITION. The Almanac: its objects, clone, switch (chapter 09, R246 to R253). -/
namespace Sys2Proof.Machine

/-- The copy that an Almanac object belongs to. -/
def almCopy (idx : Nat) : Nat :=
  if idx < 0x5410 then idx - 0x5400 else if idx < 0x5500 then (idx - 0x5410) / 96 else (idx - 0x5500) / 96

/-- An index names an Almanac object. -/
def isAlm (idx : Nat) : Bool := idx = 0x5400 || idx = 0x5401 || (0x5410 ≤ idx && idx ≤ 0x54CF) || (0x5500 ≤ idx && idx ≤ 0x55BF)

/-- The copy not in use. -/
def State.almInactive (s : State) : Nat := 1 - s.rd R.ALM_ACTIVE

/-- The old copy of the last switch is busy: its last epoch m has neither sent its deep result nor passed
instant(m) + P (R253). -/
def State.almBusy (s : State) : Bool := match s.almSw with
  | some (m, _) => !(s.epochRt m).sent && decide (s.now < s.instant (m + 1))
  | none => false

/-- `ALM_PEND` (R280). -/
def State.almPendView (s : State) : Nat := if s.deep.ag.almPend.isSome then 1 else if s.almBusy then 2 else 0

/-- Why the inactive copy may not be written (R251). -/
def State.almLocked (s : State) : Nat := if s.deep.ag.almPend.isSome then 0x2702 else if s.almBusy then 0x2711 else 0

/-- The effect of a write of an Almanac object (R251). -/
def State.almWrite (s : State) (idx : Nat) (data : Bytes) : State × Nat :=
  if almCopy idx ≠ s.almInactive then (s, 0x2710)
  else if s.almLocked ≠ 0 then (s, s.almLocked)
  else (s.setObj idx data, 0)

/-- `ALMANAC_OBJECT_WRITE` (R251). -/
def execAlmanacObjectWrite (r : Route) (idx : BitVec 16) (data : Bytes) (s : State) : Host.Outcome State Fault Refusal :=
  s.run fun s =>
    if !isAlm idx.toNat then s
    else s.hostWrite r.val idx.toNat 0 data fun s =>
      s.deferred r.val idx.toNat 0 (.write idx.toNat 0 data) fun s => s.almWrite idx.toNat data

/-- Every object of the active copy goes to the inactive one (R251). -/
def State.almCloneRun (s : State) : State × Nat :=
  if s.almLocked ≠ 0 then (s, s.almLocked)
  else
    let src := almIndexes s.slotCount (s.rd R.ALM_ACTIVE)
    let dst := almIndexes s.slotCount s.almInactive
    ((src.zip dst).foldl (fun t p => t.setObj p.2 (s.obj p.1)) s, 0)

/-- `ALM_CLONE` (R251): a write of 1. -/
def execAlmClone (r : Route) (s : State) : Host.Outcome State Fault Refusal :=
  s.run fun s => s.hostWrite r.val 0x2700 8 [1] fun s => s.deferred r.val 0x2700 8 .almClone fun s => s.almCloneRun

/-! ### The switch (R252, R253) -/

/-- The bytes of a copy in ascending index. -/
def State.almBytes (s : State) (c : Nat) : Bytes := (almIndexes s.slotCount c).flatMap (fun i => s.almObj i)

/-- A slot record is in use.
[DEDUCED, log entry 35] -/
def recValid (w : Nat) : Bool := w.testBit 707

/-- The quaternion norm of a record is within 1 ± 2^−20: exactly, on the squared norm.
[DEDUCED, log entry 35] -/
def quatOk (w : Nat) : Bool :=
  let f := fun (lo : Nat) => fpDy fp64 (bitsOf (lo + 63) lo w)
  let sq := fun (d : Dy) => Dy.mul d d
  let n := Dy.add (Dy.add (sq (f 0)) (sq (f 64))) (Dy.add (sq (f 128)) (sq (f 192)))
  [0, 64, 128, 192].all (fun lo => fpFinite fp64 (bitsOf (lo + 63) lo w)) &&
    Dy.le (sq { m := 2 ^ 20 - 1, e := -20 }) n && Dy.le n (sq { m := 2 ^ 20 + 1, e := -20 })

/-- Entry `i` of a lens table. -/
def lutAt (b : Bytes) (i : Nat) : Nat := leAt b (4 * i) 4

/-- A lens table starts at 0 and rises strictly (R252). -/
def lutOk (b : Bytes) : Bool :=
  (List.range 256).all (fun i => fpFinite fp32 (lutAt b i)) && (fpDy fp32 (lutAt b 0)).isZero &&
    (List.range 255).all (fun i => Dy.lt (fpDy fp32 (lutAt b i)) (fpDy fp32 (lutAt b (i + 1))))

/-- An FP32 field is a positive finite number. -/
def posFp32 (b : Nat) : Bool := fpFinite fp32 b && decide (0 < (fpDy fp32 b).m)

/-- A slot is a camera slot (R80).
[DEDUCED, log entry 35] -/
def State.isCamera (s : State) (slot : Nat) : Bool := s.rd (R.SLOT_KIND slot) = 2 || s.rd (R.SLOT_KIND slot) = 3

/-- The check of a commit of `ALM_SWITCH` (R252); the ninth code is refused with every commit in replay (R483).
[DEDUCED, log entry 35] -/
def State.almSwitchCheck (v : Bytes) (s : State) : Nat :=
  let c := s.almInactive
  let slots := List.range s.slotCount
  let live := slots.filter (fun i => recValid (s.slotRec c i))
  let m := s.epochOf s.now
  if leAt v 0 4 ≤ s.rd R.ALM_GEN then 0x2701
  else if s.deep.ag.almPend.isSome then 0x2702
  else if slice v 4 32 ≠ shake256 (s.almBytes c) 32 then 0x2703
  else if (s.geom c).cell < 5 || 40 < (s.geom c).cell then 0x2704
  else if live.any (fun i => !quatOk (s.slotRec c i)) then 0x2705
  else if live.any (fun i => s.isCamera i && !(lutOk (s.almObj (0x5500 + 0x60 * c + i)) &&
      posFp32 (bitsOf 511 480 (s.slotRec c i)) && posFp32 (bitsOf 543 512 (s.slotRec c i)))) then 0x2706
  else if slots.any (fun i => s.rd (R.SLOT_KIND i) ≠ 0 && !recValid (s.slotRec c i)) then 0x2707
  else if (List.range 3).any (fun b => match s.vset b with | some x => m < x.epoch | none => false) then 0x2708
  else 0

/-- An accepted switch waits for the first epoch instant after it (R253).
[DEDUCED, log entry 35] -/
def State.almSwitchApply (v : Bytes) (s : State) : State := s.mapAg fun a => { a with almPend := some (leAt v 0 4, s.epochOf s.now) }

/-- `ALM_SWITCH` (R252). -/
def execAlmSwitch (r : Route) (cr : CommitRec) (s : State) : Host.Outcome State Fault Refusal :=
  s.run fun s => s.commit r.val 0x2700 4 cr State.almSwitchCheck State.almSwitchApply

/-- The switch takes effect (R144, R253): the copies change places; a changed cell size clears the Plate.
[DEDUCED, log entry 35] -/
def State.almTake (s : State) (gen m : Nat) : State :=
  let c := s.almInactive
  let changed := (s.geom c).cell ≠ (s.geom (s.rd R.ALM_ACTIVE)).cell
  let s1 := ((s.wr R.ALM_ACTIVE c).wr R.ALM_GEN gen).wr R.ALM_SW_EPOCH m
  let s2 := ({ s1 with almSw := some (m, s.instant m) }.mapAg fun a => { a with almPend := none, oldGen := s.rd R.ALM_GEN }).event 0x2701 0 [(64, m)]
  if changed && s.rd R.SNT_STATE = 2 then s2.clearPlate else s2

/-- `ALMANAC_SWITCHED` (R253): at instant(m). -/
def execAlmanacSwitched (s : State) : Host.Outcome State Fault Refusal :=
  s.run fun s => match s.deep.ag.almPend with
    | some (gen, m) => if s.now < s.instant m then s else s.almTake gen m
    | none => s

end Sys2Proof.Machine
end

