-- ==== Sys2Proof/Machine/Cairns.lean ====
section
/-! DEFINITION. The commands of the Cairn Store other than a spur's own instructions (chapter 12). -/
namespace Sys2Proof.Machine

/-- A sleeping wait times out (R354): it wakes with `TIMEOUT` and is counted, recorded and reported. -/
def State.waitTimeout (s : State) (w : Nat) : State :=
  match s.waiter w with
  | none => s
  | some x =>
    if s.now < x.deadline then s
    else
      let s1 := ((s.wakeWaiter w .timeout).bump R.TMO_CNT).wr R.LAST_TMO (x.cairn + x.agent * 65536)
      s1.event 0x2A01 x.agent [(14, x.cairn), (2, x.cond), (32, x.target)]

/-- `WAIT_TIMEOUT` (R354). Before its expiry the wait sleeps on. -/
def execWaitTimeout (w : Fin 8192) (s : State) : Host.Outcome State Fault Refusal :=
  s.run fun s => s.waitTimeout w.val

/-- A host write to the cairn page in replay is refused (R521). -/
def State.pageWrite (s : State) (agent : Nat) (f : State → State) : State :=
  if s.replaying && agent / 4096 = 7 then s.refuse (agent % 4) 0 0 0x2008 else f s

/-- A write of `ARM` (R345, R363). -/
def State.armWrite (s : State) (agent c v : Nat) (whole : Bool) : State :=
  let r := s.cairn c
  if !whole then s.bump R.BAD_WRITE
  else if r.cstate ≠ .free && r.owner = agent then s.rearm c v
  else
    let s1 := (s.bump R.SIG_REFUSED).event 0x2A03 agent [(14, c)]
    if agent / 4096 = 7 then s1.refuse (agent % 4) 0 0 0x2A02 else s1

/-- `ARM` (R363). -/
def execArm (agent : BitVec 16) (c : Fin 16384) (v : BitVec 32) (whole : Bool) (s : State) :
    Host.Outcome State Fault Refusal :=
  s.run fun s => s.pageWrite agent.toNat fun s =>
    let s1 := s.armWrite agent.toNat c.val v.toNat whole
    if agent.toNat / 4096 = 7 then s1.lbRecord agent.toNat 0x12 (toLe 4 (64 * c.val + 36) ++ toLe 4 v.toNat) else s1

/-- A write of the `NOTIFY` word: its RW fields are set, `PEND` is cleared, and the condition is tested at once
(R345, R365, R366). -/
def State.notifyWrite (s : State) (c v : Nat) (whole : Bool) : State :=
  if !whole then s.bump R.BAD_WRITE
  else
    let n := (bitsOf 63 60 v) * 2 ^ 60 + (bitsOf 47 40 v) * 2 ^ 40 + v % 2 ^ 32
    ((s.disarmCairn c).setCairn c { s.cairn c with notify := n }).testNotify c

/-- `NOTIFY_WRITE` (R366): BAR4 writes carry agent 0x7000. -/
def execNotifyWrite (c : Fin 16384) (v : BitVec 64) (whole : Bool) (s : State) : Host.Outcome State Fault Refusal :=
  s.run fun s => s.pageWrite 0x7000 fun s =>
    (s.notifyWrite c.val v.toNat whole).lbRecord 0x7000 0x12 (toLe 4 (64 * c.val + 40) ++ toLe 8 v.toNat)

/-- The effect of a claim (R364). -/
def State.claim (s : State) (r c : Nat) : State × Nat :=
  let x := s.cairn c
  if x.cstate ≠ .free then (s, 0x2A01)
  else ((s.disarmCairn c).setCairn c { x with cstate := .armed, value := 0, rest := 0, owner := 0x7000 + r }, 0)

/-- `CLAIM` (R364). -/
def execClaim (r : Route) (c : BitVec 16) (s : State) : Host.Outcome State Fault Refusal :=
  s.run fun s => s.hostWrite r.val 0x2A00 0x0E (toLe 2 c.toNat) fun s => s.claim r.val c.toNat

/-- The effect of an unclaim (R364): poison under R361, then FREE. -/
def State.unclaim (s : State) (r c : Nat) : State × Nat :=
  let x := s.cairn c
  if x.cstate = .free || x.owner ≠ 0x7000 + r then (s, 0x2A02)
  else ((s.poisonCairn c).setCairn c Cairn.idle, 0)

/-- `UNCLAIM` (R364). -/
def execUnclaim (r : Route) (c : BitVec 16) (s : State) : Host.Outcome State Fault Refusal :=
  s.run fun s => s.hostWrite r.val 0x2A00 0x0F (toLe 2 c.toNat) fun s => s.unclaim r.val c.toNat

/-- The effect of a host wait request (R367). -/
def State.hwReq (s : State) (r : Nat) (data : Bytes) : State × Nat :=
  let cw := leAt data 0 2; let vw := leAt data 2 2; let t := leAt data 4 4; let tmo := leAt data 8 4
  if s.rd (R.HW_STAT r) = 1 then (s, 0x2A03)
  else if tmo < 1 || 10000000 < tmo then (s, 0x2004)
  else
    let vec := if vw.testBit 15 then some (vw % 256) else none
    match s.wait (0x7000 + r) (cw % 2 ^ 14) (cw / 2 ^ 14) t tmo vec with
    | (s1, none) => (s1.wr (R.HW_STAT r) 1, 0)
    | (s1, some st) => (s1.endWait (0x7000 + r) vec st, 0)

/-- `HW_REQ` (R367). -/
def execHwReq (r : Route) (data : Bytes) (s : State) : Host.Outcome State Fault Refusal :=
  s.run fun s => s.hostWrite r.val (0x2A04 + r.val) 1 data fun s => s.hwReq r.val data

/-- Free the record of a route's sleeping wait without a message; `HW_STAT` reads 0 (R367). -/
def State.hwCancel (s : State) (r : Nat) : State :=
  match s.cs.waiters.find? (fun e => match e.2 with | some x => x.agent = 0x7000 + r | none => false) with
  | none => s.wr (R.HW_STAT r) 0
  | some (w, some x) =>
    let c := s.cairn x.cairn
    let s1 := (s.setWaiter w none).setCairn x.cairn { c with waiters := c.waiters.filter (fun i => i ≠ w) }
    (s1.wr R.WAITERS_USED (s1.rd R.WAITERS_USED - 1)).wr (R.HW_STAT r) 0
  | some (_, none) => s

/-- `HW_CANCEL` (R367): a write of 1 cancels a sleeping wait. -/
def execHwCancel (r : Route) (v : Bool) (s : State) : Host.Outcome State Fault Refusal :=
  s.run fun s => s.hostWrite r.val (0x2A04 + r.val) 3 (toLe 1 (boolNat v)) fun s =>
    (if v then s.hwCancel r.val else s, 0)

/-- `CAIRN_RECORD_ERROR` (R362): D050, and the cairn becomes POISONED. -/
def execCairnRecordError (c : Fin 16384) (s : State) : Host.Outcome State Fault Refusal :=
  s.run fun s => ((s.bump (R.UE_CNT 7)).detect 50 0 [(14, c.val)]).poisonCairn c.val

/-- `WAITER_RECORD_PARITY` (R362): the waiter wakes with `POISON`, its record is freed, D051. -/
def execWaiterRecordParity (w : Fin 8192) (s : State) : Host.Outcome State Fault Refusal :=
  s.run fun s => ((s.wakeWaiter w.val .poison).bump (R.UE_CNT 11)).detect 51 0 []

end Sys2Proof.Machine
end

