-- ==== Sys2Proof/Machine/DevAccess.lean ====
section
/-! DEFINITION. Accesses of the device's own agents by device address (R17, R383, R448, R461): local memory, queue windows,
other devices of the Range. -/
namespace Sys2Proof.Machine

/-- The payload bytes of one flit (R443). -/
abbrev flitMax : Nat := 224

/-- Cut bytes into payloads of one flit each. -/
def flitParts (bs : Bytes) : List Bytes := (List.range (ceilDiv bs.length flitMax)).map (fun i => slice bs (flitMax * i) flitMax)

/-- The lowest tag that no remote access in flight carries. -/
def State.freeTag (s : State) : Nat :=
  ((List.range 65536).find? (fun t => s.host.remote.all (fun a => a.tag ≠ t))).getD 0

/-- One write flit to another device; it stays in flight until it is acknowledged (R448). -/
def State.writeFlit (s : State) (agent addr : Nat) (data : Bytes) (poison : Bool) : State :=
  let rid := bitsOf 47 45 addr
  let tag := s.freeTag
  let a : RemoteAcc := { tag := tag, agent := agent, write := true, addr := addr, len := data.length, dest := 0, start := s.tclk }
  ({ s with host := { s.host with remote := s.host.remote ++ [a] } }).sendFlit 1 agent rid tag (localPart addr) poison data

/-- A write to another device (R448); `false` when it fails at once because the device is not reachable. -/
def State.remoteWrite (s : State) (agent addr : Nat) (data : Bytes) (poison : Bool) : Bool × State :=
  if !s.reachable (bitsOf 47 45 addr) then (false, s.bump R.REMOTE_FAIL)
  else (true, ((flitParts data).foldl (fun (x : Nat × State) p => (x.1 + p.length, x.2.writeFlit agent x.1 p poison)) (addr, s)).2)

/-- How a device access ends. -/
inductive DevSt where
  | ok | unmapped | stall | failed
deriving DecidableEq, Repr

/-- What a device read delivers; `far` is what is left of the bytes that other devices answered. -/
structure DevRes where
  st : DevSt
  data : Bytes
  poison : Bool
  far : Option Bytes
  s : State

/-- The queue whose pop (or push) window a dictionary-space address lies in (R383). -/
def windowQueue (push : Bool) (a : Nat) : Option Nat :=
  let o := a - 0x20000000000
  let idx := o / 2048
  let sub := o % 2048 / 8
  let lo := if push then 0x20 else 0x40
  if 0x2B00 ≤ idx && idx ≤ 0x2BFF && lo ≤ sub && sub ≤ lo + 0x1F then some (idx - 0x2B00) else none

/-- A read of a pop window by an agent of the device (R380, R383 to R385): it stalls while too few words are committed. -/
def State.windowPop (s : State) (q agent n : Nat) (far : Option Bytes) : DevRes :=
  if !s.qEnabled q then ⟨.unmapped, [], false, far, s⟩
  else if !agentMatches (s.rd (R.Q_CONS q)) agent then ⟨.ok, markers (n / 8), false, far, s.qForeign q agent⟩
  else if s.qCount q < n / 8 then ⟨.stall, [], false, far, s⟩
  else let (d, p, s1) := qTakeN q agent (n / 8) s; ⟨.ok, d, p, far, s1⟩

/-! ### The cairn page (R344, R345) -/

/-- The WO and RW fields of a cairn record in ascending offset, with their lengths: `SIGADD`, `SIGSET`, `ARM`, `NOTIFY`. -/
def cairnFields : List (Nat × Nat) := [(28, 4), (32, 4), (36, 4), (40, 8)]

/-- A field of a cairn that a write covers completely takes its value (R345). -/
def State.cairnField (s : State) (agent c off v : Nat) : State :=
  if off = 28 then s.signal agent c true v
  else if off = 32 then s.signal agent c false v
  else if off = 36 then s.armWrite agent c v true
  else s.notifyWrite c v true

/-- A write of bytes from offset `off` of the cairn page as an agent (R345).
[DEDUCED, log entry 45] -/
def State.cairnPageWrite (s : State) (agent off : Nat) (data : Bytes) : State :=
  let n := data.length
  (List.range ((off + n - 1) / 64 - off / 64 + 1)).foldl (fun t i =>
    let c := off / 64 + i
    cairnFields.foldl (fun u f =>
      let a := 64 * c + f.1
      if a + f.2 ≤ off || off + n ≤ a then u
      else if off ≤ a && a + f.2 ≤ off + n then u.cairnField agent c f.1 (leNat (slice data (a - off) f.2))
      else u.bump R.BAD_WRITE) t) s

/-- A read of `n` bytes from offset `off` of the cairn page (R344).
[DEDUCED, log entry 45] -/
def State.cairnPageRead (s : State) (off n : Nat) : Bytes :=
  slice ((List.range ((off + n - 1) / 64 - off / 64 + 1)).flatMap (fun i => toLe 64 (s.cairnWord (off / 64 + i)))) (off % 64) n

/-- A local address lies in the cairn page, which is open, with the `n` bytes from it.
[DEDUCED, log entry 49] -/
def State.isCairnPage (s : State) (a n : Nat) : Bool :=
  regionOf s.variant a = .cairnStore && 0 < n && s.accStatus a n = .ok

/-- Read request flits for `n` bytes, one for each flit of payload; a request carries the length it asks for.
[DEDUCED, log entry 49] -/
def State.readFlits (s : State) (agent addr n : Nat) (tag : Nat) : State :=
  (List.range (ceilDiv n flitMax)).foldl (fun t i =>
    t.sendFlit 3 agent (bitsOf 47 45 addr) tag (localPart (addr + flitMax * i)) false
      (toLe 4 (min flitMax (n - flitMax * i)))) s

/-- Read `n` bytes at a device address as an agent (R17, R383, R448). `far` holds what other devices answer to the reads
of this command, in order; none when an answer does not come. -/
def State.devRead (s : State) (agent addr n : Nat) (far : Option Bytes) : DevRes :=
  if !s.isLocal addr then
    match far with
    | none => ⟨.ok, List.replicate n 0, true, far, s.bump R.REMOTE_FAIL⟩
    | some b =>
      if !s.reachable (bitsOf 47 45 addr) then ⟨.ok, List.replicate n 0, true, far, s.bump R.REMOTE_FAIL⟩
      else ⟨.ok, padTo n b, false, some (b.drop n), s.readFlits agent addr n 0⟩
  else
    let a := localPart addr
    match windowQueue false a with
    | some q => s.windowPop q agent n far
    | none =>
      if s.isCairnPage a n then ⟨.ok, s.cairnPageRead (a - 0x21000000000) n, false, far, s⟩
      else
        let r := s.readMem agent a n
        ⟨if r.st = .ok then .ok else .unmapped, r.data, r.poison, far, r.s⟩

/-- Write bytes at a device address as an agent (R17, R383, R448). -/
def State.devWrite (s : State) (agent addr : Nat) (data : Bytes) (poison : Bool) : DevSt × State :=
  if !s.isLocal addr then
    let (ok, s1) := s.remoteWrite agent addr data poison
    (if ok then .ok else .failed, s1)
  else
    let a := localPart addr
    match windowQueue true a with
    | some q => (.ok, s.qPush q agent data poison)
    | none =>
      if s.isCairnPage a data.length then (.ok, s.cairnPageWrite agent (a - 0x21000000000) data)
      else
        let (st, s1) := s.writeMem agent a data poison
        (if st = .ok then .ok else .unmapped, s1)

end Sys2Proof.Machine
end

