-- ==== Sys2Proof/Machine/SpurNum.lean ====
section
/-! DEFINITION. The arithmetic of the spurs (chapter 06): element formats, dot products, rounding, the lane operations. -/
namespace Sys2Proof.Machine

/-! ### Values -/

/-- The canonical NaN of FP32 (R175). -/
abbrev nan32 : Nat := 0x7FC00000

/-- A value is negative, a zero by its sign. -/
def FpVal.isNeg : FpVal → Bool
  | .num n _ => n
  | .inf n => n
  | .nan => false

/-- Exact sum; a zero sum is −0 only of two zeros −0. -/
def FpVal.add (a b : FpVal) : FpVal := match a, b with
  | .nan, _ => .nan
  | _, .nan => .nan
  | .inf n, .inf m => if n = m then .inf n else .nan
  | .inf n, _ => .inf n
  | _, .inf n => .inf n
  | .num n x, .num m y =>
    let s := Dy.add x y
    if s.isZero then .num (n && m && x.isZero && y.isZero) s else .num (decide (s.m < 0)) s

/-- Exact product; an infinity times zero is NaN (R175). -/
def FpVal.mul (a b : FpVal) : FpVal := match a, b with
  | .nan, _ => .nan
  | _, .nan => .nan
  | .inf n, .inf m => .inf (n != m)
  | .inf n, .num m y => if y.isZero then .nan else .inf (n != m)
  | .num n x, .inf m => if x.isZero then .nan else .inf (n != m)
  | .num n x, .num m y => .num (n != m) (Dy.mul x y)

/-- A value with the other sign. -/
def FpVal.neg : FpVal → FpVal
  | .nan => .nan
  | .inf n => .inf (!n)
  | .num n x => .num (!n) (Dy.neg x)

/-- Round to FP32, to nearest with ties to even (R179, R185). -/
def FpVal.to32 : FpVal → Nat
  | .nan => nan32
  | .inf n => boolNat n * 2 ^ 31 + 0x7F800000
  | .num n x => fpRoundWith fp32 .even n x

/-- An FP32 bit pattern as a value. -/
def val32 (b : Nat) : FpVal := fpDecode fp32 b

/-! ### Element formats (R173, R174) -/

def fE4M3 : FpFmt := { eb := 4, mb := 3, ieee := false }
def fE5M2 : FpFmt := { eb := 5, mb := 2, ieee := true }
def fE2M3 : FpFmt := { eb := 2, mb := 3, ieee := false }
def fE3M2 : FpFmt := { eb := 3, mb := 2, ieee := false }
def fE2M1 : FpFmt := { eb := 2, mb := 1, ieee := false }

/-- The element of a format code, read from its bits. -/
def elemVal (f bits : Nat) : FpVal :=
  let int := fun (w : Nat) (e : Int) => let v := sgnOf w bits; FpVal.num (decide (v < 0)) { m := v, e := e }
  match f with
  | 0 => int 8 0
  | 1 => int 4 0
  | 2 => if bits % 128 = 127 then .nan else fpDecode fE4M3 (bits % 256)
  | 3 => fpDecode fE5M2 (bits % 256)
  | 4 => if bits % 128 = 127 then .nan else fpDecode fE4M3 (bits % 256)
  | 5 => fpDecode fE5M2 (bits % 256)
  | 6 => fpDecode fE2M3 (bits % 64)
  | 7 => fpDecode fE3M2 (bits % 64)
  | 8 => fpDecode fE2M1 (bits % 16)
  | 9 => int 8 (-6)
  | 0xA => fpDecode bf16 (bits % 2 ^ 16)
  | 0xB => fpDecode fp16 (bits % 2 ^ 16)
  | 0xC => fpDecode fp32 (bits % 2 ^ 32)
  | _ => int 32 0

/-- Bits an element takes in memory (R174). -/
def elemBits (f : Nat) : Nat := if is4bit f then 4 else if is32bit f then 32 else if is16bit f then 16 else 8

/-- Element `j` of packed bytes (R174). -/
def elemAt (f : Nat) (bs : Bytes) (j : Nat) : Nat :=
  let w := elemBits f
  if w = 4 then leAt bs (j / 2) 1 / (if j % 2 = 0 then 1 else 16) % 16 else leAt bs (j * (w / 8)) (w / 8)

/-- Pack element bits (R174). -/
def packElems (f : Nat) (es : List Nat) : Bytes :=
  let w := elemBits f
  if w = 4 then (List.range (es.length / 2)).map (fun i => BitVec.ofNat 8 (es.getD (2 * i) 0 % 16 + 16 * (es.getD (2 * i + 1) 0 % 16)))
  else es.flatMap (fun e => toLe (w / 8) e)

/-- A scale byte as a power of two; 0xFF is NaN (R173 (b)). -/
def scaleVal (e : Nat) : FpVal := if e = 255 then .nan else .num false { m := 1, e := (e : Int) - 127 }

/-! ### Dot steps (R175, R177, R179) -/

/-- The exact sum of products. -/
def exactDot (ps : List FpVal) : FpVal := ps.foldl FpVal.add (.num false Dy.zero)

/-- One level of the pairwise tree, each sum rounded to FP32. -/
def treeLevel : List FpVal → List FpVal
  | a :: b :: t => val32 (FpVal.add a b).to32 :: treeLevel t
  | l => l

/-- The fixed tree of five levels. -/
def treeSum (ps : List FpVal) : FpVal :=
  (treeLevel (treeLevel (treeLevel (treeLevel (treeLevel ps))))).head?.getD (.num false Dy.zero)

/-- The products of elements `lo` to `lo` + 31 of a weight row and an input vector. -/
def products (fw fx lo : Nat) (w x : Bytes) : List FpVal :=
  (List.range 32).map (fun k => FpVal.mul (elemVal fw (elemAt fw w (lo + k))) (elemVal fx (elemAt fx x (lo + k))))

/-- The formats may meet in a `MAC` (R178).
[DEDUCED, log entry 31] -/
def fmtMatch (f g : Nat) : Bool := f = g || ((2 ≤ f && f ≤ 7) && (2 ≤ g && g ≤ 7) && f / 2 = g / 2)

/-- The integer of an integer element. -/
def FpVal.toInt : FpVal → Int
  | .num _ d => d.floor
  | _ => 0

/-- One lane of one row: the new accumulator bits and whether an integer sum saturated. `sw` and `sx` are the scale
bytes of the lane's column and of the row, by block. -/
def macLane (fw fx : Nat) (w x : Bytes) (sw sx : List Nat) (acc : Nat) : Nat × Bool :=
  if fx ≤ 1 then
    let n := if fx = 1 then 64 else 32
    let s := (List.range n).foldl (fun a k =>
      a + sgnOf (elemBits fx) (elemAt fw w k) * sgnOf (elemBits fx) (elemAt fx x k)) (0 : Int)
    let t := sgnOf 32 acc + s
    let c := clampInt (-(2 ^ 31)) (2 ^ 31 - 1) t
    (ofSgn 32 c, decide (c ≠ t))
  else if is16bit fx then ((FpVal.add (val32 acc) (treeSum (products fw fx 0 w x))).to32, false)
  else
    let block := fun (a b : Nat) =>
      let sc := if isMx fx then FpVal.mul (scaleVal (sw.getD b 127)) (scaleVal (sx.getD b 127)) else .num false (Dy.ofInt 1)
      (FpVal.add (val32 a) (FpVal.mul sc (exactDot (products fw fx (32 * b) w x)))).to32
    if fx = 8 then (block (block acc 0) 1, false) else (block acc 0, false)

/-! ### Lanes -/

/-- Lane `i` of a vector register or accumulator row. -/
def laneOf (v i : Nat) : Nat := bitsOf (32 * i + 31) (32 * i) v

/-- A register from its 32 lanes. -/
def ofLanes (f : Nat → Nat) : Nat := (List.range 32).foldl (fun a i => a + (f i % 2 ^ 32) * 2 ^ (32 * i)) 0

/-- Write the lanes of `mask` (R181). -/
def mergeLanes (mask old new : Nat) : Nat := ofLanes (fun i => if mask.testBit i then laneOf new i else laneOf old i)

def fadd32 (a b : Nat) : Nat := (FpVal.add (val32 a) (val32 b)).to32
def fsub32 (a b : Nat) : Nat := (FpVal.add (val32 a) (FpVal.neg (val32 b))).to32
def fmul32 (a b : Nat) : Nat := (FpVal.mul (val32 a) (val32 b)).to32
def fma32 (a b c : Nat) : Nat := (FpVal.add (FpVal.mul (val32 a) (val32 b)) (val32 c)).to32

/-- `FABS` and `FNEG`; a NaN result is the canonical one (R181).
[DEDUCED, log entry 31] -/
def fabs32 (a : Nat) : Nat := match val32 a with | .nan => nan32 | _ => a % 2 ^ 31
/--
[DEDUCED, log entry 31] -/
def fneg32 (a : Nat) : Nat := match val32 a with | .nan => nan32 | _ => (a % 2 ^ 32) ^^^ 2 ^ 31

/-- Order of FP32 values; `none` when unordered. -/
def fcmpVal (a b : Nat) : Option Int := match val32 a, val32 b with
  | .nan, _ => none
  | _, .nan => none
  | .inf n, .inf m => some (if n = m then 0 else if n then -1 else 1)
  | .inf n, _ => some (if n then -1 else 1)
  | _, .inf n => some (if n then 1 else -1)
  | .num _ x, .num _ y => some (Dy.sub x y).m

/-- `FMIN` (`less` true) or `FMAX`: a NaN, and zeros of opposite signs, are left open by R190.
[DESIGN CHOICE, log entry 30] -/
def fminmax (less : Bool) (a b : Nat) : Nat :=
  let op := boolNat less
  match fcmpVal a b with
  | none =>
    if Config.minMaxNan op then nan32
    else match val32 a, val32 b with
      | .nan, .nan => nan32
      | .nan, _ => b
      | _, _ => a
  | some d =>
    if d = 0 then (if a % 2 ^ 32 = b % 2 ^ 32 then a else if Config.minMaxZero op then a else b)
    else if (decide (d < 0)) = less then a else b

/-- A condition of `FCMP` (R190); codes 5 to 7 are not given. -/
def fcond (c a b : Nat) : Option Bool :=
  let d := fcmpVal a b
  match c with
  | 0 => some (d = some 0)
  | 1 => some (d ≠ some 0)
  | 2 => some (match d with | some x => decide (x < 0) | none => false)
  | 3 => some (match d with | some x => decide (x ≤ 0) | none => false)
  | 4 => some (d = none)
  | _ => none

/-- A condition of `ICMP` (R190): an integer is never unordered. -/
def icond (c a b : Nat) : Option Bool :=
  let x := sgnOf 32 a; let y := sgnOf 32 b
  match c with
  | 0 => some (decide (x = y))
  | 1 => some (decide (x ≠ y))
  | 2 => some (decide (x < y))
  | 3 => some (decide (x ≤ y))
  | 4 => some false
  | _ => none

/-- `ISATADD`: the sum and whether it saturated. -/
def isatadd32 (a b : Nat) : Nat × Bool :=
  let t := sgnOf 32 a + sgnOf 32 b
  let c := clampInt (-(2 ^ 31)) (2 ^ 31 - 1) t
  (ofSgn 32 c, decide (c ≠ t))

def iadd32 (a b : Nat) : Nat := (a + b) % 2 ^ 32
def isub32 (a b : Nat) : Nat := ofSgn 32 ((a : Int) - (b : Int))
def imul32 (a b : Nat) : Nat := (a * b) % 2 ^ 32
def shl32 (a b : Nat) : Nat := (a * 2 ^ (b % 32)) % 2 ^ 32

/-- `SHR` by b mod 32; whether the vacated bits copy the sign is left open.
[DESIGN CHOICE, log entry 30] -/
def shr32 (a b : Nat) : Nat :=
  if Config.shrSigned then ofSgn 32 (sgnOf 32 a / 2 ^ (b % 32)) else a % 2 ^ 32 / 2 ^ (b % 32)

/-- `ITOF` (R194: 0.5 ulp). -/
def itof32 (a : Nat) : Nat := fpRound fp32 (Dy.ofInt (sgnOf 32 a))

/-! ### The function unit (R181, R194) -/

/-- The spacing of FP32 at a finite bit pattern, as a dyadic number. -/
def ulp32 (b : Nat) : Dy :=
  let e := bitsOf 30 23 b
  { m := 1, e := (max e 1 : Nat) - 150 }

/-- 2^x for a fixed-point x: the fraction by the exponential series, the integer part as an exponent. -/
def expSeries : Nat → Fx → Fx → Nat → Fx
  | 0, _, _, _ => 0
  | n + 1, x, t, k => t + expSeries n x (Fx.mul t x / ((k + 1 : Nat) : Int)) (k + 1)

/-- ln 2 in units of 2^−128. -/
def ln2 : Fx := 235865763225513294137944142764154484399

/-- 2^d. -/
def exp2Dy (d : Dy) : Dy :=
  let n := d.floor
  let f := Fx.ofDy (Dy.sub d (Dy.ofInt n))
  { m := expSeries 40 (Fx.mul f ln2) Fx.one 0, e := n - 128 }

/-- The bits of log2 of `m` in [1, 2) by repeated squaring. -/
def log2Bits : Nat → Fx → Fx → Fx
  | 0, _, _ => 0
  | n + 1, x, w =>
    let y := Fx.mul x x
    if 2 * Fx.one ≤ y then w + log2Bits n (y / 2) (w / 2) else log2Bits n y (w / 2)

/-- log2 of a positive number. -/
def log2Dy (d : Dy) : Dy :=
  let k := Nat.log2 d.m.natAbs
  let x : Fx := Fx.ofDy { m := d.m, e := -(k : Int) }
  Fx.toDy (Fx.ofInt ((k : Int) + d.e) + log2Bits 110 x (Fx.one / 2))

/-- The candidate lies within `tol` of an exact dyadic value. -/
def within (cand exact tol : Dy) : Bool := Dy.le (Dy.abs (Dy.sub cand exact)) tol

/-- 1/√a of a positive number, rounded to FP32 from 80 bits. -/
def rsqRound (a : Dy) : Nat :=
  let e := if a.e % 2 = 0 then a.e else a.e - 1
  let m := if a.e % 2 = 0 then a.m.natAbs else 2 * a.m.natAbs
  let r := Fx.isqrt (2 ^ (160 + 2 * Nat.log2 m) / m)
  fpRound fp32 { m := r, e := -(80 + (Nat.log2 m : Int)) - e / 2 }

/-- The result of the function unit: the free candidate where R194's bound admits it or the spec states no result,
otherwise the rounded exact value.
[DESIGN CHOICE, log entry 30] -/
def fnUnit32 (op a : Nat) : Nat :=
  let c := Config.fnUnit op a % 2 ^ 32
  let cd := fpDy fp32 c
  let fin := fpFinite fp32 c
  match val32 a with
  | .nan => nan32
  | .inf _ => c
  | .num neg d =>
    if op = 0x0B then
      if d.isZero then c
      else
        let ok := fin && within (Dy.mul cd d) (Dy.ofInt 1) (Dy.mul (ulp32 c) (Dy.abs d))
        let ex := fpDivRound fp32 (Dy.ofInt 1) d
        if !fpFinite fp32 ex || ok then c else ex
    else if op = 0x0C then
      if d.isZero || neg then c
      else
        let u := ulp32 c
        let lo := Dy.sub cd u
        let hi := Dy.add cd u
        let ok := fin && decide (0 ≤ lo.m) && Dy.le (Dy.mul (Dy.mul lo lo) d) (Dy.ofInt 1) &&
          Dy.le (Dy.ofInt 1) (Dy.mul (Dy.mul hi hi) d)
        if ok then c else rsqRound d
    else if op = 0x0D then
      if Dy.le (Dy.ofInt 128) d then c
      else
        let ex := if Dy.lt d (Dy.ofInt (-200)) then Dy.zero else exp2Dy d
        if fin && within cd ex (Dy.scale (ulp32 c) 1) then c else fpRound fp32 ex
    else
      if d.isZero || neg then c
      else
        let ex := log2Dy d
        if fin && (within cd ex (Dy.scale (ulp32 c) 1) || within cd ex { m := 1, e := -22 }) then c else fpRound fp32 ex

/-! ### Conversions (R182 to R185) -/

/-- A rounding to an integer. -/
def roundInt (rm : Rounding) (d : Dy) : Int := match rm with
  | .even => d.roundEven
  | .stoch u =>
    let f := d.floor
    let rest := Dy.sub d (Dy.ofInt f)
    if Dy.lt (Dy.ofInt u) (Dy.ofInt ((Dy.scale rest 16).floor)) then f + 1 else f

/-- The bits of an integer format. -/
def toIntFmt (w : Nat) (rm : Rounding) (v : FpVal) : Nat :=
  let lo : Int := -(2 ^ (w - 1) : Nat)
  let hi : Int := (2 ^ (w - 1) : Nat) - 1
  match v with
  | .nan => 0
  | .inf n => ofSgn w (if n then lo else hi)
  | .num _ d => ofSgn w (clampInt lo hi (roundInt rm d))

/-- The bits of a floating-point element format: `maxBits` the largest finite magnitude, `ovf` and `nan` what an
overflow without saturation and a NaN give. -/
def toFpFmt (f : FpFmt) (rm : Rounding) (sat : Bool) (maxBits ovf nan : Nat) (signed : Bool) (v : FpVal) : Nat :=
  let big := fun (n : Bool) =>
    if sat then boolNat n * f.signBit + maxBits else (if signed then boolNat n * f.signBit else 0) + ovf
  match v with
  | .nan => nan
  | .inf n => big n
  | .num n d =>
    let p := fpPack f rm d
    if maxBits < p then big n else boolNat n * f.signBit + p

/-- The formats of 16 bits or fewer, to which stochastic rounding applies (R184). -/
def smallFmt (f : Nat) : Bool := f ≤ 0xB

/-- `CVT` of one FP32 lane (R182). -/
def cvtElem (f : Nat) (sat : Bool) (rm : Rounding) (v : FpVal) : Nat :=
  match f with
  | 0 => toIntFmt 8 rm v
  | 1 => toIntFmt 4 rm v
  | 2 => toFpFmt fE4M3 rm sat 0x7E 0x7F 0x7F false v
  | 3 => toFpFmt fE5M2 rm sat 0x7B 0x7C 0x7E true v
  | 0xA => toFpFmt bf16 rm sat 0x7F7F 0x7F80 0x7FC0 true v
  | 0xB => toFpFmt fp16 rm sat 0x7BFF 0x7C00 0x7E00 true v
  | 0xD => toIntFmt 32 .even v
  | _ => v.to32

/-- e_max of an MX format (R183). -/
def mxEmax (f : Nat) : Int := match f with
  | 4 => 8 | 5 => 15 | 6 => 2 | 7 => 4 | 8 => 2 | _ => 0

/-- An element of `QMX`: x / 2^X rounded, saturated at the largest finite value (R183). -/
def qmxElem (f : Nat) (rm : Rounding) (v : FpVal) : Nat :=
  match f with
  | 4 => toFpFmt fE4M3 rm true 0x7E 0 0 true v
  | 5 => toFpFmt fE5M2 rm true 0x7B 0 0 true v
  | 6 => toFpFmt fE2M3 rm true 0x1F 0 0 true v
  | 7 => toFpFmt fE3M2 rm true 0x1F 0 0 true v
  | 8 => toFpFmt fE2M1 rm true 0x07 0 0 true v
  | _ => toIntFmt 8 rm (match v with | .num n d => .num n (Dy.scale d 6) | x => x)

/-- floor(log2 |d|) of a number that is not 0. -/
def floorLog2 (d : Dy) : Int := (Nat.log2 d.m.natAbs : Int) + d.e

/-- `QMX` of 32 lanes: the element bits and the scale byte (R183). -/
def qmxBlock (f : Nat) (rm : Nat → Rounding) (xs : List FpVal) : List Nat × Nat :=
  if xs.any (fun v => match v with | .num _ _ => false | _ => true) then (List.replicate 32 0, 255)
  else
    let ds := xs.map (fun v => match v with | .num _ d => d | _ => Dy.zero)
    let tops := (ds.filter (fun d => !d.isZero)).map floorLog2
    match tops with
    | [] => (List.replicate 32 0, 0)
    | t :: r =>
      let x := clampInt (-127) 127 (r.foldl max t - mxEmax f)
      (xs.mapIdx (fun i v => qmxElem f (rm i) (match v with | .num n d => .num n (Dy.scale d (-x)) | w => w)), (x + 127).toNat)

/-- An element widened exactly to a 32-bit lane (`LDP`): integers to INT32, the others to FP32; MX scales are not
applied. -/
def widen (f bits : Nat) : Nat :=
  if f = 0 then ofSgn 32 (sgnOf 8 bits) else if f = 1 then ofSgn 32 (sgnOf 4 bits)
  else if f = 0xD then bits % 2 ^ 32
  else (elemVal f bits).to32

end Sys2Proof.Machine
end

