-- ==== Sys2Proof/Machine/SpurOps.lean ====
section
/-! DEFINITION. What every spur instruction does alike (chapter 06): issue, traps, registers, the next word, memory. -/
namespace Sys2Proof.Machine

/-! ### State of a spur -/

/-- A spur. -/
def State.spur (s : State) (n : Nat) : Spur := smGet (fun _ => Spur.reset) s.deep.spurs n

/-- Set a spur. -/
def State.setSpur (s : State) (n : Nat) (v : Spur) : State :=
  s.mapDeep fun d => { d with spurs := smSet (fun _ => Spur.reset) d.spurs n v }

/-- Change a spur. -/
def State.mapSpur (s : State) (n : Nat) (f : Spur → Spur) : State := s.setSpur n (f (s.spur n))

/-- Mask register; `M0` reads all ones (R168). -/
def Spur.mask (x : Spur) (i : Nat) : Nat := if i = 0 then 2 ^ 32 - 1 else smGet (fun _ => 0) x.m i

/-- Write a mask register; `M0` ignores writes (R168). -/
def Spur.setMask (x : Spur) (i v : Nat) : Spur := if i = 0 then x else { x with m := smSet (fun _ => 0) x.m i (v % 2 ^ 32) }

/-- Address register (48 bits). -/
def Spur.addr (x : Spur) (i : Nat) : Nat := smGet (fun _ => 0) x.a i

/-- Write an address register, modulo 2^48. -/
def Spur.setAddr (x : Spur) (i : Nat) (v : Int) : Spur := { x with a := smSet (fun _ => 0) x.a i (ofSgn 48 v) }

/-- Loop counter (16 bits). -/
def Spur.loopCnt (x : Spur) (i : Nat) : Nat := smGet (fun _ => 0) x.l i

/-- Write a loop counter. -/
def Spur.setLoop (x : Spur) (i v : Nat) : Spur := { x with l := smSet (fun _ => 0) x.l i (v % 2 ^ 16) }

/-- Vector register. -/
def Spur.vec (x : Spur) (i : Nat) : Nat := smGet (fun _ => 0) x.v i

/-- A bit of a mask set to a value. -/
def putBit (m i : Nat) (b : Bool) : Nat := if b then setBit m i else clearBit m i

/-- Write the masked lanes of a vector register. Its poison bit is that of the sources; lanes that keep their value keep
their poison (R181, R193).
[DEDUCED, log entry 31] -/
def Spur.putVec (x : Spur) (i mask v : Nat) (poison : Bool) : Spur :=
  { x with v := smSet (fun _ => 0) x.v i (mergeLanes mask (x.vec i) v),
           vP := putBit x.vP i (poison || (x.vP.testBit i && mask % 2 ^ 32 ≠ 2 ^ 32 - 1)) }

/-- Accumulator row. -/
def Spur.accRow (x : Spur) (i : Nat) : Nat := smGet (fun _ => 0) x.acc i

/-- Write the masked lanes of an accumulator row. -/
def Spur.putAcc (x : Spur) (i mask v : Nat) (poison : Bool) : Spur :=
  { x with acc := smSet (fun _ => 0) x.acc i (mergeLanes mask (x.accRow i) v),
           accP := putBit x.accP i (poison || (x.accP.testBit i && mask % 2 ^ 32 ≠ 2 ^ 32 - 1)) }

/-- Weight buffer. -/
def Spur.wbuf (x : Spur) (i : Nat) : WBuf := if i = 0 then x.wb0 else x.wb1

/-- Set a weight buffer. -/
def Spur.setWbuf (x : Spur) (i : Nat) (w : WBuf) : Spur := if i = 0 then { x with wb0 := w } else { x with wb1 := w }

/-- The number of a pipe. -/
def pipeNo : Pipe → Nat
  | .matrix => 0 | .vector => 1 | .move => 2 | .gather => 3 | .control => 4

/-- An instruction enters a pipe (R171). -/
def Spur.enter (x : Spur) (p : Pipe) : Spur :=
  { x with pend := smSet (fun _ => 0) x.pend (pipeNo p) (smGet (fun _ => 0) x.pend (pipeNo p) + 1) }

/-! ### Scoreboard reports and traps -/

/-- Change the scoreboard entry of a task instance. -/
def State.mapEntry (s : State) (k : Nat × Nat × Nat) (f : SbEntry → SbEntry) : State :=
  s.mapDeep fun d => { d with tt := { d.tt with
    sb := d.tt.sb.map (fun e => if e.cycle = k.1 && e.inst = k.2.1 && e.task = k.2.2 then f e else e) } }

/-- The spur's task has failed, its outputs are invalid (R192, R355). -/
def State.spurTaskFailed (s : State) (n : Nat) : State := match (s.spur n).task with
  | some k => s.mapEntry k fun e => { e with report := 2, outBad := true }
  | none => s

/-- A `PARITY` trap of a spur counts for its cirque: the eighth within 1 s is D018 (R513). -/
def State.parityTrap (s : State) (n : Nat) : State :=
  let c := n / 4
  let l := (smGet (fun _ => []) s.diag.parity8 c).filter (fun t => s.tclk < t + 500000000) ++ [s.tclk]
  let s1 := { s with diag := { s.diag with parity8 := smSet (fun _ => []) s.diag.parity8 c l } }
  if 8 ≤ l.length || s.injArmed 18 c then
    { s1.injHere 18 c with diag := { (s1.injHere 18 c).diag with failDue := true } }.detect 18 (4 * c) []
  else s1

/-- A trap (R192). -/
def State.spurTrap (s : State) (n code word : Nat) : State :=
  let pc := (s.spur n).pc
  let s := if code = 0x0B then s.parityTrap n else s
  let s1 := (((s.wr (R.SPUR_STATE n) 3).wr (R.TRAP_CODE n) code).wr (R.TRAP_PC n) pc).wr (R.TRAP_WORD n) word
  ((s1.bump R.TRAP_CNT).event 0x2601 n [(8, code)]).spurTaskFailed n

/-- A wait ended badly: the task fails and the spur returns to IDLE without a trap (R355).
[DEDUCED, log entry 32] -/
def State.spurFail (s : State) (n : Nat) : State :=
  ((s.spurTaskFailed n).mapSpur n fun x => { x with waiting := false }).wr (R.SPUR_STATE n) 1

/-- The first INT32 saturation in a task (R179, R197). -/
def State.spurSat (s : State) (n : Nat) (sat : Bool) : State :=
  if sat && !(s.spur n).isat then
    ((s.mapSpur n fun x => { x with isat := true }).bump R.ISAT_CNT).event 0x2602 n []
  else s

/-- The task stored a poisoned value (R193). -/
def State.spurStored (s : State) (n : Nat) (poison : Bool) : State :=
  if poison then s.mapSpur n fun x => { x with outBad := true } else s

/-! ### Issue (R171, R188) -/

/-- An instruction word from class, operation and the fields below. -/
def spurWord (cls op f : Nat) : Nat := cls * 2 ^ 60 + op * 2 ^ 54 + f

/-- The spur runs a task and nothing stops its issue: no fence, no wait, no end of task (R191, R351).
[DESIGN CHOICE, log entry 2] -/
def State.spurReady (s : State) (n : Nat) : Bool :=
  let x := s.spur n
  s.rd (R.SPUR_STATE n) = 2 && x.fence = none && !x.waiting && !x.ended

/-- The sequencer issues the word at the spur's program counter when it is `word` (R171, R192). A poisoned word and a
parity error trap.
[DEDUCED, log entry 9] -/
def State.spurIssue (s : State) (n word : Nat) (body : State → State) : State :=
  if !s.spurReady n then s
  else
    let x := s.spur n
    let w := smGet (fun _ => 0) x.ibuf x.pc
    if x.parity then (s.mapSpur n fun y => { y with parity := false }).spurTrap n 0x0B w
    else if x.ibufP.testBit x.pc then s.spurTrap n 0x05 w
    else if w ≠ word then s
    else body s

/-- Go on at a word; beyond word 2,047 the spur traps (R192). -/
def State.spurGoto (s : State) (n word : Nat) (t : Int) : State :=
  if t < 0 || 2047 < t then s.spurTrap n 0x09 word else s.mapSpur n fun x => { x with pc := t.toNat }

/-- An instruction word that writes a register, an accumulator or a weight buffer of its spur (R190). -/
def writesFile (word : Nat) : Bool :=
  let cls := bitsOf 63 60 word
  let op := bitsOf 59 54 word
  cls = 1 || cls = 2 || (cls = 3 && !(op = 2 || op = 4 || op = 8)) || (cls = 4 && op = 1)

/-- A write to the parity memories of a spur takes an armed flip mask of class 9 (R419): where it breaks a byte's parity, the
next read is a parity error (R192, R404). Where a spur's registers lie in 8-byte words is not in the spec, so which value a
mask that keeps the parity changes is not held.
[DESIGN CHOICE, log entry 12] -/
def State.fileFlip (s : State) (n : Nat) : State :=
  if s.rd (R.FLIP_ARMED 9) = 1 && !(s.rd (R.FLIP_ADDR 9)).testBit 63 then
    let s1 := s.wr (R.FLIP_ARMED 9) 0
    if parityBad (s.rd (R.FLIP_MASK 9)) = [] then s1 else s1.mapSpur n fun x => { x with parity := true }
  else s

/-- An instruction has issued into a pipe and the next word follows. -/
def State.spurNext (s : State) (n word : Nat) (p : Pipe) : State :=
  let s := if writesFile word then s.fileFlip n else s
  (s.mapSpur n fun x => x.enter p).spurGoto n word ((s.spur n).pc + 1)

/-! ### Fields (R188, R189) -/

def fSr (f : Nat) : Bool := f.testBit 53
def fMask (f : Nat) : Nat := bitsOf 52 50 f
def fVD (f : Nat) : Nat := bitsOf 49 44 f
def fVA (f : Nat) : Nat := bitsOf 43 38 f
def fVB (f : Nat) : Nat := bitsOf 37 32 f
def fVC (f : Nat) : Nat := bitsOf 31 26 f
def fVFmt (f : Nat) : Nat := bitsOf 25 22 f
def fMD (f : Nat) : Nat := bitsOf 21 19 f
def fVImm (f : Nat) : Nat := bitsOf 18 0 f
def fMV (f : Nat) : Nat := bitsOf 49 44 f
def fMAr (f : Nat) : Nat := bitsOf 43 39 f
def fMFmt (f : Nat) : Nat := bitsOf 38 35 f
def fMAcc (f : Nat) : Nat := bitsOf 34 26 f
def fMOff (f : Nat) : Int := sgnOf 26 (bitsOf 25 0 f)

/-- The address of a MOV instruction: A[`AR`] + `OFF`, modulo 2^48. -/
def Spur.movAddr (x : Spur) (f : Nat) : Nat := ofSgn 48 ((x.addr (fMAr f) : Int) + fMOff f)

/-! ### Lane operations -/

/-- A VEC operation on lanes: result lanes from the lane index, into `VD` under `MASK` (R181, R193). -/
def State.spurVec (s : State) (n op f : Nat) (src : List Nat) (g : Spur → Nat → Nat) : State :=
  let w := spurWord 2 op f
  s.spurIssue n w fun s =>
    let x := s.spur n
    let p := src.any (fun i => x.vP.testBit i)
    (s.setSpur n (x.putVec (fVD f) (x.mask (fMask f)) (ofLanes (g x)) p)).spurNext n w .vector

/-- A VEC operation of two sources, lane by lane. -/
def State.spurVec2 (s : State) (n op f : Nat) (g : Nat → Nat → Nat) : State :=
  s.spurVec n op f [fVA f, fVB f] fun x i => g (laneOf (x.vec (fVA f)) i) (laneOf (x.vec (fVB f)) i)

/-- A VEC operation of one source, lane by lane. -/
def State.spurVec1 (s : State) (n op f : Nat) (g : Nat → Nat) : State :=
  s.spurVec n op f [fVA f] fun x i => g (laneOf (x.vec (fVA f)) i)

/-- A comparison: the masked bits of `MD` (R181, R190). A condition code that R190 does not list leaves a free mask.
[DESIGN CHOICE, log entry 30] -/
def State.spurCmp (s : State) (n op f : Nat) (g : Nat → Nat → Nat → Option Bool) : State :=
  let w := spurWord 2 op f
  s.spurIssue n w fun s =>
    let (d, s1) := s.draw
    let x := s1.spur n
    let c := fVImm f % 8
    let mask := x.mask (fMask f)
    let old := x.mask (fMD f)
    let new := (List.range 32).foldl (fun a i =>
      let b := if mask.testBit i then (g c (laneOf (x.vec (fVA f)) i) (laneOf (x.vec (fVB f)) i)).getD (d.testBit i)
               else old.testBit i
      a + boolNat b * 2 ^ i) 0
    (s1.setSpur n (x.setMask (fMD f) new)).spurNext n w .vector

/-! ### Rounding draws (R184 to R186) -/

/-- The rounding of the `i`-th rounded element of an instruction whose `SR` bit and target are given.
[DESIGN CHOICE, log entry 30] -/
def Spur.rounding (x : Spur) (sr : Bool) (fmt i : Nat) : Rounding :=
  if sr && smallFmt fmt then .stoch (Config.srDraw x.srSeed (x.srN + i) % 2 ^ 16) else .even

/-- Draws used. -/
def Spur.drew (x : Spur) (sr : Bool) (fmt k : Nat) : Spur :=
  if sr && smallFmt fmt then { x with srN := x.srN + k } else x

/-- Seed the generator at a task start (R186). -/
def State.spurSeed (s : State) (n : Nat) : State :=
  if s.rd R.SR_MODE = 1 then
    s.mapSpur n fun x => { x with srSeed := s.rd R.SR_SEED ^^^ n, srN := 0, srFixed := true, srT := s.tclk }
  else
    let (b, s1) := s.drawTrng 8
    s1.mapSpur n fun x => { x with srSeed := leNat b, srN := 0, srFixed := false, srT := s.tclk }

/-! ### Memory of a spur (R169, R172, R190, R192) -/

/-- A store of a spur: an unmapped address traps, a stored poison marks the task, a write that fails at once is kept
for the next fence (R191, R193). -/
def State.spurStore (s : State) (n word addr : Nat) (data : Bytes) (poison : Bool) : State :=
  match s.devWrite n addr data poison with
  | (.unmapped, s1) => s1.spurTrap n 0x06 word
  | (.failed, s1) => ((s1.mapSpur n fun x => { x with failedWrite := true }).spurStored n poison).spurNext n word .move
  | (_, s1) => (s1.spurStored n poison).spurNext n word .move

/-- A load of a spur: `g` takes the bytes and their poison. A pop that must wait leaves the load unissued. -/
def State.spurLoad (s : State) (n word addr len : Nat) (far : Option Bytes) (g : State → Bytes → Bool → State) : State :=
  let r := s.devRead n addr len far
  match r.st with
  | .unmapped => r.s.spurTrap n 0x06 word
  | .stall => s
  | _ => g r.s r.data r.poison

/-- The base of a spur's own store (R170). -/
def spurStoreBase (n : Nat) : Nat := 0x10000000000 + n * 0x80000

/-- A device address range lies in the spur's own store. -/
def State.inOwnStore (s : State) (n addr len : Nat) : Bool :=
  s.isLocal addr && spurStoreBase n ≤ localPart addr && localPart addr + len ≤ spurStoreBase n + 0x80000

/-- The parts of `len` bytes from `a` that lie in single 16-byte words. -/
def wordParts (a len : Nat) : List (Nat × Nat) :=
  (wordsOf a len).map (fun w => let lo := max a w; (lo, min (a + len) (w + 16) - lo))

/-- Read a range word by word: each part with its poison. -/
def State.readParts (s : State) (agent a len : Nat) : List (Bytes × Bool) × State :=
  (wordParts a len).foldl (fun (x : List (Bytes × Bool) × State) p =>
    let r := x.2.readMem agent p.1 p.2
    (x.1 ++ [(padTo p.2 r.data, r.poison)], r.s)) ([], s)

/-- Whether byte `i` of a range read in parts is poisoned. -/
def partPoison : List (Bytes × Bool) → Nat → Bool
  | [], _ => false
  | (d, p) :: t, i => if i < d.length then p else partPoison t (i - d.length)

/-- Write a range word by word, each part poisoned when a byte of it is. -/
def State.writeParts (s : State) (agent a : Nat) (data : Bytes) (bad : Nat → Bool) : State :=
  (wordParts a data.length).foldl (fun t p =>
    (t.writeMem agent p.1 (slice data (p.1 - a) p.2) ((List.range p.2).any (fun i => bad (p.1 - a + i)))).2) s

/-- The local address of the unit of an index, and of its scales. -/
def State.unitAddr (s : State) (d : Nat) (idx : List Nat) : Nat := s.descAddr d (dUnitOff d idx)
def State.scaleAddr (s : State) (d : Nat) (idx : List Nat) : Nat := s.descAddr d (dScaleOff d idx)

/-- The joined bytes of parts. -/
def partBytes (ps : List (Bytes × Bool)) : Bytes := ps.flatMap (·.1)

end Sys2Proof.Machine
end

