-- ==== Sys2Proof/Machine/AstroOps.lean ====
section
/-! DEFINITION. Astrograph (chapter 09): specs, grid poses, camera geometry, tensors, and the four operations. -/
namespace Sys2Proof.Machine

/-! ### Specs (R257, R258) -/

/-- The bytes of an operation spec. -/
def State.agSpec (s : State) (i : Nat) : Bytes := s.obj (0x55C0 + i)

def gInAlt (w : Nat) : Nat := bitsOf 463 432 w
def gOut (w : Nat) : Nat := bitsOf 431 400 w
def gIn (w : Nat) : Nat := bitsOf 399 368 w
def gDis (w : Nat) : Nat := bitsOf 367 336 w
def gPmin (w : Nat) : Nat := bitsOf 335 304 w
def gD0 (w : Nat) : Nat := bitsOf 303 272 w
def gDstep (w : Nat) : Nat := bitsOf 271 240 w
def gZlo (w : Nat) : Int := sgnOf 16 (bitsOf 239 224 w)
def gZhi (w : Nat) : Int := sgnOf 16 (bitsOf 223 208 w)
def gMemZ (w : Nat) : Int := sgnOf 16 (bitsOf 207 192 w)
def gC (w : Nat) : Nat := bitsOf 191 176 w
def gNb (w : Nat) : Nat := bitsOf 175 168 w
def gNs (w : Nat) : Nat := bitsOf 167 160 w
def gStride (w : Nat) : Nat := max 1 (bitsOf 159 152 w)
def gNcam (w : Nat) : Nat := bitsOf 151 144 w
def gInSet (w : Nat) : Nat := bitsOf 143 136 w
def gDone (w : Nat) : Nat := bitsOf 135 122 w
def gDisMode (w : Nat) : Nat := bitsOf 121 120 w
def gSr (w : Nat) : Bool := w.testBit 119
def gPoolMax (w : Nat) : Bool := w.testBit 118
def gOp (w : Nat) : Nat := bitsOf 111 104 w

/-- The header of a spec as a number. -/
def specHead (b : Bytes) : Nat := leAt b 0 64

/-- The camera entries of a spec. -/
def specCams (b : Bytes) : List Nat := (List.range (gNcam (specHead b))).map (fun i => leAt b (64 + 32 * i) 32)

def kWin (e : Nat) : Nat := bitsOf 255 224 e
def kFeat (e : Nat) : Nat := bitsOf 223 192 e
def kAux (e : Nat) : Nat := bitsOf 191 160 e
def kW (e : Nat) : Nat := bitsOf 127 112 e
def kH (e : Nat) : Nat := bitsOf 111 96 e
def kStride (e : Nat) : Nat := bitsOf 95 88 e
def kSlot (e : Nat) : Nat := bitsOf 87 81 e

/-! ### The grid pose (R255) -/

/-- FP64 bits of a real. -/
def fxTo64 (a : Fx) : Nat := fpRound fp64 (Fx.toDy a)

/-- G_n: the set's corrected pose, or Astrograph's own lookup (R255). -/
def State.gridOf (s : State) (n : Nat) : GridPose × State :=
  match (s.epochRt n).grid with
  | some g => (g, s)
  | none =>
    let g := fun (p : Pose) (src : Option Nat) (t : State) =>
      let x : GridPose := { pose := p, frameId := t.frameId src, poseNone := src.isNone, alm := t.almOfEpoch n, src := src }
      (x, t.mapEpoch n fun e => { e with grid := some x })
    match s.vset (n % 3) with
    | some v => if v.epoch = n && v.phase ≠ .opened then g v.corr v.gsrc s else
        let l := s.lookup 0x3000 (s.instant n); g l.pose l.src l.s
    | none => let l := s.lookup 0x3000 (s.instant n); g l.pose l.src l.s

/-! ### Tensors (R206 to R208) -/

/-- A tensor as read: its descriptor, its units with their scales, dimension 0 fastest, and whether a word was poisoned. -/
structure Tensor where
  w : Nat
  units : List (Bytes × Bytes)
  poison : Bool

/-- The units of a descriptor. -/
def dCount (w : Nat) : Nat := (List.range 5).foldl (fun a d => a * dExt w d) 1

/-- The indices of unit `n` in ascending order, dimension 0 fastest. -/
def dIdx (w n : Nat) : List Nat :=
  ((List.range 5).foldl (fun (a : Nat × List Nat) d => (a.1 / dExt w d, a.2 ++ [a.1 % dExt w d])) (n, [])).2

/-- The place of an index among the units. -/
def dLin (w : Nat) (idx : List Nat) : Nat :=
  ((List.range 5).foldl (fun (a : Nat × Nat) d => (a.1 * dExt w d, a.2 + a.1 * idx.getD d 0)) (1, 0)).2

/-- Read a tensor as an agent; a stale handle reads as poison. -/
def State.readTensor (s : State) (agent h : Nat) : Tensor × State :=
  match s.descWord h with
  | none => (⟨0, [], true⟩, s)
  | some w =>
    let r := (List.range (dCount w)).foldl (fun (a : List (Bytes × Bytes) × Bool × State) n =>
      let idx := dIdx w n
      let (u, s1) := a.2.2.readParts agent (s.unitAddr w idx) (dUnit w)
      let (q, s2) := s1.readParts agent (s.scaleAddr w idx) (fmtScales (dFmt w))
      (a.1 ++ [(padUnit w idx (partBytes u), partBytes q)], a.2.1 || u.any (·.2) || q.any (·.2), s2)) ([], false, s)
    (⟨w, r.1, r.2.1⟩, r.2.2)

/-- The value of a lane of a unit, its MX scale applied. -/
def Tensor.val (t : Tensor) (idx : List Nat) (lane : Nat) : FpVal :=
  let f := dFmt t.w
  let u := t.units.getD (dLin t.w idx) ([], [])
  let v := elemVal f (elemAt f u.1 lane)
  if isMx f then FpVal.mul v (scaleVal (leAt u.2 (lane / 32) 1)) else v

/-- Channel `c` of a CV32 tensor with channel groups in dimension 0. -/
def Tensor.chan (t : Tensor) (c x y : Nat) : FpVal := t.val [c / 32, x, y] (c % 32)

/-- Round 32 FP32 values into a unit of a format: its bytes and its scale bytes (R183 to R185, R263). -/
def packUnit (f : Nat) (rm : Nat → Rounding) (vs : List Nat) : Bytes × Bytes :=
  if isMx f then
    let (es, sc) := qmxBlock f rm (vs.map val32)
    (packElems f es, toLe 1 sc)
  else (packElems f (vs.mapIdx fun i v => cvtElem f false (rm i) (val32 v)), [])

/-- Write a CV32 tensor: `g` gives the FP32 bits of a channel at (x, y). Stochastic rounding draws afresh. -/
def State.writeTensor (s : State) (agent h : Nat) (sr poison : Bool) (g : Nat → Nat → Nat → Nat) : State :=
  match s.descWord h with
  | none => s
  | some w =>
    let f := dFmt w
    let (seed, s1) := s.draw
    (List.range (dCount w)).foldl (fun t n =>
      let idx := dIdx w n
      let c0 := 32 * idx.getD 0 0
      let rm := fun (i : Nat) => if sr && smallFmt f then Rounding.stoch (Config.srDraw seed (32 * n + i) % 2 ^ 16) else .even
      let vs := (List.range 32).map fun i => if c0 + i < dChan w then g (c0 + i) (idx.getD 1 0) (idx.getD 2 0) else 0
      let (u, q) := packUnit f rm vs
      let t1 := t.writeParts agent (s.unitAddr w idx) u (fun _ => poison)
      t1.writeParts agent (s.scaleAddr w idx) q (fun _ => poison)) s1

/-! ### Camera geometry (R248 to R250, R256) -/

/-- A real rounded to FP32. -/
def r32 (a : Fx) : Fx := Fx.ofDy (fpDy fp32 (fxTo32 a))

/-- A vector rounded to FP32. -/
def V3.r32 (v : V3) : V3 := { x := Machine.r32 v.x, y := Machine.r32 v.y, z := Machine.r32 v.z }

/-- A transform of a row: images of the axes and of the origin, in FP32. -/
structure RowTf where
  cx : V3
  cy : V3
  cz : V3
  o : V3

/-- A point carried by a transform. -/
def RowTf.apply (m : RowTf) (p : V3) : V3 :=
  V3.add (V3.add (V3.smul p.x m.cx) (V3.smul p.y m.cy)) (V3.add (V3.smul p.z m.cz) m.o)

/-- A point carried by the inverse of a transform, which is a rotation and a shift. -/
def RowTf.inv (m : RowTf) (p : V3) : V3 :=
  let q := V3.sub p m.o
  { x := V3.dot m.cx q, y := V3.dot m.cy q, z := V3.dot m.cz q }

/-- The numbers of a transform. -/
def RowTf.ops (m : RowTf) : List Int :=
  [m.cx.x, m.cx.y, m.cx.z, m.cy.x, m.cy.y, m.cy.z, m.cz.x, m.cz.y, m.cz.z, m.o.x, m.o.y, m.o.z]

/-- Camera fields of a slot record (R248). -/
def cFx (w : Nat) : Fx := fx32 w 480
def cFy (w : Nat) : Fx := fx32 w 512
def cCx (w : Nat) : Fx := fx32 w 544
def cCy (w : Nat) : Fx := fx32 w 576
def cTheta (w : Nat) : Fx := fx32 w 608
def cWidth (w : Nat) : Nat := bitsOf 687 672 w
def cHeight (w : Nat) : Nat := bitsOf 703 688 w
def cRsMode (w : Nat) : Nat := bitsOf 705 704 w
def cRsDir (w : Nat) : Bool := w.testBit 706
def cToff (w : Nat) : Int := sgnOf 32 (bitsOf 479 448 w)

/-- The time of exposure index `e` less FS − E/2, in 2^−16 ns (R250). -/
def lineOffset (w : Nat) (f : FrameRt) (e : Nat) : Int :=
  match cRsMode w with
  | 1 => if f.rows ≤ 1 then 0 else ((e * (f.fe - f.fs) / (f.rows - 1) : Nat) : Int)
  | 2 => (Dy.scale (Dy.mul (Dy.ofInt e) (fpDy fp32 (bitsOf 671 640 w))) 16).floor
  | _ => 0

/-- FS − E/2 of a frame, in 2^−16 ns. -/
def expoStart (f : FrameRt) : Int := (f.fs : Int) - ((f.expo.getD 0) * ftNs / 2 : Nat)

/-- The time of row `r` (R250).
[DEDUCED, log entry 36] -/
def rowTime (w : Nat) (u : CamUse) (f : FrameRt) (r : Nat) : Nat :=
  let e := if cRsDir w then cHeight w - 1 - r else r
  let t := if cRsMode w = 1 || cRsMode w = 2 then expoStart f + lineOffset w f e else (u.ref : Int)
  (t + cToff w * (ftNs : Int)).toNat

/-- The row that holds the reference time (R256): the last exposure index not later than it.
[DEDUCED, log entry 36] -/
def refRow (w : Nat) (u : CamUse) (f : FrameRt) : Nat :=
  let h := cHeight w
  let e := ((List.range h).filter (fun i => decide (expoStart f + lineOffset w f i ≤ (u.ref : Int)))).length - 1
  let e1 := if cRsMode w = 0 then 0 else e
  if cRsDir w then h - 1 - e1 else e1

/-- The transform of the row exposed at time `t` (R256), with R115 applied to G_n's side.
[DEDUCED, log entry 36] -/
def State.rowTf (s : State) (g : GridPose) (slot t : Nat) : RowTf × State :=
  let l := s.lookup 0x3000 t
  let p := (l.s.sameSide g.src l t).1
  let ex := s.extrinsic g.alm slot
  let f := fun (v : V3) => Pose.unapply ex (Pose.unapply p (Pose.apply g.pose v))
  let o := f V3.zero
  let ax := fun (v : V3) => (V3.sub (f v) o).r32
  (⟨ax { x := Fx.one, y := 0, z := 0 }, ax { x := 0, y := Fx.one, z := 0 }, ax { x := 0, y := 0, z := Fx.one }, o.r32⟩, l.s)

/-- `LUT` interpolated linearly at an angle (R249). -/
def lutRadius (b : Bytes) (tmax th : Fx) : Fx :=
  let x := Fx.div (255 * th) tmax
  let i := (x / Fx.one).toNat
  let v := fun (k : Nat) => Fx.ofDy (fpDy fp32 (lutAt b (min k 255)))
  v i + Fx.mul (x - Fx.ofInt i) (v (i + 1) - v i)

/-- The exact projection of a camera-frame point (R249): none when not visible by its angle. -/
def project (w : Nat) (lut : Bytes) (p : V3) : Option (Fx × Fx) :=
  let rho := Fx.sqrt (Fx.mul p.x p.x + Fx.mul p.y p.y)
  let th := Fx.atan2 rho p.z
  if cTheta w < th then none
  else if rho = 0 then some (cCx w, cCy w)
  else
    let rd := lutRadius lut (cTheta w) th
    some (cCx w + Fx.mul (cFx w) (Fx.div (Fx.mul rd p.x) rho), cCy w + Fx.mul (cFy w) (Fx.div (Fx.mul rd p.y) rho))

/-- A coordinate within 0.02 px of the exact one (R256).
[DEDUCED, log entry 36] -/
def projFree (ops : List Int) (x : Fx) : Fx :=
  let lim := Fx.ofRat 2 100
  x + clampInt (-lim) lim (Config.projErr ops)

/-- The two-pass projection of a grid point into a camera frame (R256): none when it is not visible (R249). -/
def State.projectGrid (s : State) (g : GridPose) (u : CamUse) (f : FrameRt) (p : V3) : Option (Fx × Fx) × State :=
  let w := s.slotRec g.alm u.slot
  let lut := s.almObj (0x5500 + 0x60 * g.alm + u.slot)
  let (m1, s1) := s.rowTf g u.slot (rowTime w u f (refRow w u f))
  match project w lut (m1.apply p) with
  | none => (none, s1)
  | some (_, v1) =>
    let row := clampInt 0 ((cHeight w : Int) - 1) (v1 / Fx.one)
    let (m2, s2) := s1.rowTf g u.slot (rowTime w u f row.toNat)
    match project w lut (m2.apply p) with
    | none => (none, s2)
    | some (a, b) =>
      let ops := m2.ops ++ [p.x, p.y, p.z]
      let a1 := projFree (0 :: ops) a
      let b1 := projFree (1 :: ops) b
      (if 0 ≤ a1 && a1 < Fx.ofInt (cWidth w) && 0 ≤ b1 && b1 < Fx.ofInt (cHeight w) then some (a1, b1) else none, s2)

/-- The ray angle of a radius: the table inverted linearly (R249). -/
def lutAngle (b : Bytes) (tmax r : Fx) : Fx :=
  let v := fun (k : Nat) => Fx.ofDy (fpDy fp32 (lutAt b k))
  let i := ((List.range 255).filter (fun k => decide (v (k + 1) ≤ r))).length
  let j := min i 254
  Fx.mul tmax (Fx.ofInt j + Fx.div (r - v j) (v (j + 1) - v j)) / 255

/-- The unit ray of an image point (R249, R260). -/
def rayOf (w : Nat) (lut : Bytes) (u v : Fx) : V3 :=
  let a := Fx.div (u - cCx w) (cFx w)
  let b := Fx.div (v - cCy w) (cFy w)
  let r := Fx.sqrt (Fx.mul a a + Fx.mul b b)
  let th := lutAngle lut (cTheta w) r
  if r = 0 then { x := 0, y := 0, z := Fx.one }
  else { x := Fx.mul (Fx.sin th) (Fx.div a r), y := Fx.mul (Fx.sin th) (Fx.div b r), z := Fx.cos th }

/-! ### The grid (R247) -/

/-- The cell of a grid point, and none outside the Plate. -/
def cellOfPoint (g : PlateGeom) (p : V3) : Option (Nat × Nat) :=
  let s := Fx.ofRat g.cell 100
  let a := Fx.div (p.x - Fx.ofRat g.x0 1000) s / Fx.one
  let b := Fx.div (p.y - Fx.ofRat g.y0 1000) s / Fx.one
  if 0 ≤ a && a < 1024 && 0 ≤ b && b < 1024 then some (a.toNat, b.toNat) else none

/-- The centre of a cell at a stride of `q` cells, at height `z`. -/
def gridCentre (g : PlateGeom) (q a b : Nat) (z : Fx) : V3 :=
  { x := Fx.ofRat g.x0 1000 + Fx.ofRat ((2 * a + 1) * q * g.cell : Nat) 200,
    y := Fx.ofRat g.y0 1000 + Fx.ofRat ((2 * b + 1) * q * g.cell : Nat) 200, z := z }

/-- A height lies in [`Z_LO`, `Z_HI`). -/
def inHeights (w : Nat) (z : Fx) : Bool := Fx.ofRat (gZlo w) 100 ≤ z && z < Fx.ofRat (gZhi w) 100

/-! ### Accumulation (R263) -/

/-- One FP32 accumulation: the product is exact, the addition rounded.
[DEDUCED, log entry 36] -/
def accum (a : Nat) (w f : FpVal) : Nat := (FpVal.add (val32 a) (FpVal.mul w f)).to32

/-- A contribution: the cell, the camera, its weight, its features. -/
structure Contrib where
  cell : Nat × Nat
  cam : Nat
  wt : FpVal
  feat : Nat → FpVal

/-- A channel of a cell: the contributions in order. -/
def cellSum (cs : List Contrib) (c x y : Nat) : Nat :=
  (cs.filter (fun k => k.cell = (x, y))).foldl (fun a k => accum a k.wt (k.feat c)) 0

/-- mass_c of a cell, and whether the camera covers it (R265). -/
def cellMass (cs : List Contrib) (cam x y : Nat) : Option Nat :=
  match cs.filter (fun k => k.cell = (x, y) && k.cam = cam) with
  | [] => none
  | l => some (l.foldl (fun a k => accum a k.wt (.num false (Dy.ofInt 1))) 0)

/-! ### Sites (R222, R262) -/

/-- A site of an epoch's set in the grid frame: its centre carried through `ANCHOR_CORR`.
[DEDUCED, log entry 36] -/
def State.sitePoint (s : State) (v : VSet) (lv key : Nat) : V3 :=
  let g := s.grid v.alm
  let (i, j, k) := unmorton key
  let ctr := fun (o n sz : Nat) => Fx.ofDy (Dy.add (fpDy fp32 o) (Dy.mul { m := (2 * n + 1) * 2 ^ lv, e := -1 } (fpDy fp32 sz)))
  let c := anchorCorr v.corr v.anchor
  let m : Pose := { q := { w := fx32 c 0, x := fx32 c 32, y := fx32 c 64, z := fx32 c 96 },
                    x := { x := fx32 c 128, y := fx32 c 160, z := fx32 c 192 } }
  let p : V3 := { x := ctr g.x0 i g.sz, y := ctr g.y0 j g.sz, z := ctr g.z0 k g.szZ }
  let q := Pose.apply m p
  let ops := m.ops ++ [p.x, p.y, p.z]
  { x := q.x + Config.poolErr (0 :: ops), y := q.y + Config.poolErr (1 :: ops), z := q.z + Config.poolErr (2 :: ops) }

/-- The closed set of an epoch, while it is held. -/
def State.setOf (s : State) (n : Nat) : Option VSet := match s.vset (n % 3) with
  | some v => if v.epoch = n && v.phase ≠ .opened then some v else none
  | none => none

/-- The sites of a set that lie on the Plate within a spec's heights: cell and site index. -/
def State.placedSites (s : State) (w n alm id : Nat) : List ((Nat × Nat) × Nat) :=
  match s.setOf n with
  | none => []
  | some v =>
    let st := s.sites (s.setLevels v) 65 id
    (st.keys.mapIdx fun i k =>
      let p := s.sitePoint v st.lv k
      if inHeights w p.z then (cellOfPoint (s.geom alm) p).map (fun c => (c, i)) else none).filterMap (fun x => x)

/-! ### The cameras of an operation (R266, R267) -/

/-- A stream is fed (R273): `FRESH`, `LATE_FED` or `REUSE`. -/
def CamUse.fed (u : CamUse) : Bool := u.status ≤ 2

/-- The camera entries of a spec that are fed in an epoch, with their places in the spec. -/
def State.fedCams (s : State) (b : Bytes) (n : Nat) : List (Nat × Nat × CamUse × FrameRt) :=
  ((specCams b).mapIdx fun i e =>
    match (s.epochRt n).cams.find? (fun u => u.slot = kSlot e) with
    | some u => if u.fed then u.frame.map (fun f => (i, e, u, f)) else none
    | none => none).filterMap id

/-! ### LIFT_DEPTH and LIFT_ATTN (R260, R261) -/

/-- What a gathering of contributions carries: contributions, whether a word was poisoned, and the state. -/
structure Lift where
  cs : List Contrib
  bad : Bool
  s : State

/-- The contributions of one camera under `LIFT_DEPTH` (R260): rows, columns, bins.
[DEDUCED, log entry 36] -/
def State.liftDepthCam (s : State) (w : Nat) (g : GridPose) (i e : Nat) (u : CamUse) (f : FrameRt) : Lift :=
  let (ft, s1) := s.readTensor 0x3000 (kFeat e)
  let (ax, s2) := s1.readTensor 0x3000 (kAux e)
  let rec0 := s.slotRec g.alm u.slot
  let lut := s.almObj (0x5500 + 0x60 * g.alm + u.slot)
  let geo := s.geom g.alm
  let px := (List.range (kH e)).flatMap fun r => (List.range (kW e)).map fun c => (r, c)
  let r := px.foldl (fun (a : List Contrib × State) rc =>
    let uu := Fx.ofRat ((2 * rc.2 + 1) * kStride e : Nat) 2
    let vv := Fx.ofRat ((2 * rc.1 + 1) * kStride e : Nat) 2
    let row := min (vv / Fx.one).toNat (cHeight rec0 - 1)
    let (m, t) := a.2.rowTf g u.slot (rowTime rec0 u f row)
    let ray := rayOf rec0 lut uu vv
    let cs := (List.range (gNb w)).filterMap fun b =>
      let p := ax.chan b rc.2 rc.1
      match fcmpVal p.to32 (gPmin w) with
      | some d =>
        if d < 0 then none
        else
          let dist := Fx.ofDy (Dy.add (fpDy fp32 (gD0 w)) (Dy.mul (Dy.ofInt b) (fpDy fp32 (gDstep w))))
          let q := m.inv (V3.smul dist ray)
          let ops := m.ops ++ [ray.x, ray.y, ray.z, dist]
          let q1 : V3 := { x := q.x + Config.unprojErr (0 :: ops), y := q.y + Config.unprojErr (1 :: ops),
                           z := q.z + Config.unprojErr (2 :: ops) }
          if !inHeights w q1.z then none
          else (cellOfPoint geo q1).map fun c => ⟨c, i, p, fun ch => ft.chan ch rc.2 rc.1⟩
      | none => none
    (a.1 ++ cs, t)) ([], s2)
  ⟨r.1, ft.poison || ax.poison, r.2⟩

/-- A bilinear sample of a channel at (x, y) in pixels; taps outside the map are zero.
[DEDUCED, log entry 36] -/
def bilinear (t : Tensor) (wd ht c : Nat) (x y : Fx) : FpVal :=
  let x0 := x / Fx.one
  let y0 := y / Fx.one
  let dx := x - Fx.ofInt x0
  let dy := y - Fx.ofInt y0
  [(x0, y0, Fx.mul (Fx.one - dx) (Fx.one - dy)), (x0 + 1, y0, Fx.mul dx (Fx.one - dy)),
   (x0, y0 + 1, Fx.mul (Fx.one - dx) dy), (x0 + 1, y0 + 1, Fx.mul dx dy)].foldl (fun a k =>
     if k.2.2 = 0 || k.1 < 0 || (wd : Int) ≤ k.1 || k.2.1 < 0 || (ht : Int) ≤ k.2.1 then a
     else FpVal.add a (FpVal.mul (.num false (Fx.toDy k.2.2)) (t.chan c k.1.toNat k.2.1.toNat))) (.num false Dy.zero)

/-- The contributions of one camera under `LIFT_ATTN` (R261): cells, heights, samples. -/
def State.liftAttnCam (s : State) (w : Nat) (g : GridPose) (i e : Nat) (u : CamUse) (f : FrameRt) : Lift :=
  let (ft, s1) := s.readTensor 0x3000 (kFeat e)
  let (ax, s2) := s1.readTensor 0x3000 (kAux e)
  let geo := s.geom g.alm
  let q := gStride w
  let n := 1024 / q
  let cells := (List.range n).flatMap fun y => (List.range n).map fun x => (x, y)
  let r := cells.foldl (fun (a : List Contrib × State) c =>
    (List.range (gNb w)).foldl (fun (b : List Contrib × State) (h : Nat) =>
      let z := Fx.ofRat (gZlo w) 100 + Fx.ofRat ((2 * (h : Int) + 1) * (gZhi w - gZlo w)) (200 * (gNb w : Int))
      let (uv, t) := b.2.projectGrid g u f (gridCentre geo q c.1 c.2 z)
      match uv with
      | none => (b.1, t)
      | some (pu, pv) =>
        let cs := (List.range (gNs w)).map fun k =>
          let aux := fun (j : Nat) => ax.val [j, k, h, c.1, c.2] 0
          let dy := fun (v : FpVal) => match v with | .num _ d => Fx.ofDy d | _ => 0
          let sx := Fx.div pu (Fx.ofInt (kStride e)) - Fx.one / 2 + dy (aux 0)
          let sy := Fx.div pv (Fx.ofInt (kStride e)) - Fx.one / 2 + dy (aux 1)
          (⟨c, i, aux 2, fun ch => bilinear ft (kW e) (kH e) ch sx sy⟩ : Contrib)
        (b.1 ++ cs, t)) a) ([], s2)
  ⟨r.1, ft.poison || ax.poison, r.2⟩

/-- The contributions of every fed camera, in spec order. -/
def State.liftAll (s : State) (b : Bytes) (n : Nat)
    (cam : State → Nat → GridPose → Nat → Nat → CamUse → FrameRt → Lift) : Lift :=
  let w := specHead b
  let (g, s0) := s.gridOf n
  (s0.fedCams b n).foldl (fun a k =>
    let r := cam a.s w g k.1 k.2.1 k.2.2.1 k.2.2.2
    ⟨a.cs ++ r.cs, a.bad || r.bad, r.s⟩) ⟨[], false, s0⟩

/-! ### Disagreement (R265) -/

/-- The FP32 value of a channel of `DIS` at a cell. -/
def disValue (cs : List Contrib) (cams : List Nat) (occ : List (Nat × Nat)) (c x y : Nat) : Nat :=
  let ms := cams.filterMap (fun k => cellMass cs k x y)
  let big := fun (l : List Nat) => l.foldl (fun a b => fminmax false a b) (l.headD 0)
  let small := fun (l : List Nat) => l.foldl (fun a b => fminmax true a b) (l.headD 0)
  if c = 0 then (if ms.length < 2 then 0 else fsub32 (big ms) (small ms))
  else
    let o := if occ.contains (x, y) then 0x3F800000 else 0
    fsub32 o (fminmax true 0x3F800000 (big ms))

/-- A value that was stored in FP16 has a magnitude of at least `DIS_THR`. -/
def State.disAlarm (s : State) (v : Nat) : Bool :=
  let h := cvtElem 0xB false .even (val32 v)
  match fpDecode fp16 (h % 2 ^ 15) with
  | .nan => false
  | .inf _ => true
  | .num _ d => Dy.le (fpDy fp32 (s.rd R.DIS_THR)) d

/-- Write `DIS` and raise the conflict of the epoch (R265). -/
def State.writeDis (s : State) (w n : Nat) (bad : Bool) (cs : List Contrib) (cams : List Nat) : State :=
  if gDisMode w = 0 then s
  else
    let q := gStride w
    let m := 1024 / q
    let alm := ((s.epochRt n).grid.map (·.alm)).getD 0
    let occ := if gDisMode w = 2 then (s.placedSites w n alm 0).map (fun p => (p.1.1 / q, p.1.2 / q)) else []
    let val := disValue cs cams occ
    let s1 := s.writeTensor 0x3000 (gDis w) (gSr w) bad val
    let hit := (List.range m).any fun y => (List.range m).any fun x => (List.range (gDisMode w)).any fun c => s.disAlarm (val c x y)
    if !hit then s1
    else
      let s2 := s1.mapEpoch n fun e => { e with conflict := true, disRaised := true }
      if (s.epochRt n).disRaised then s2 else s2.event 0x2706 0 [(64, n)]

/-! ### The end of an operation (R268) -/

/-- The task of Astrograph that runs a spec.
[DEDUCED, log entry 36] -/
def State.agTask (s : State) (i : Nat) : Option (SbEntry × TaskRec) :=
  (s.deep.tt.sb.find? (fun e => e.st = 3 && e.report = 0 && (match s.deep.tt.tasks.find? (fun t => t.cycle = e.cycle && t.task = e.task) with
    | some t => t.unit = 0x3000 && t.prog = i
    | none => false))).bind fun e =>
  (s.deep.tt.tasks.find? (fun t => t.cycle = e.cycle && t.task = e.task)).map fun t => (e, t)

/-- The operation completes: its cairn is signalled; a poisoned word or an invalid input makes its outputs invalid. -/
def State.agDone (s : State) (w : Nat) (e : SbEntry) (bad : Bool) : State :=
  let fail := bad || e.inbad ≠ 0
  let s1 := s.mapEntry (e.cycle, e.inst, e.task) fun x => { x with report := 1, outBad := x.outBad || fail }
  let s2 := if fail then (s1.bump R.OP_FAIL).event 0x2707 0 [(64, e.inst)] else s1
  (s2.wr R.AG_STATE 1).sigAdd 0x3000 (gDone w) 1

/-- Run an operation of a kind for its task: `body` answers whether a word was poisoned. Without such a task nothing
happens.
[DEDUCED, log entry 36] -/
def State.agRun (s : State) (i op : Nat) (body : State → Bytes → Nat → Bool × State) : State :=
  let b := s.agSpec i
  if b.isEmpty || gOp (specHead b) ≠ op then s
  else match s.agTask i with
    | none => s
    | some (e, _) =>
      let (bad, s1) := body s b e.inst
      s1.agDone (specHead b) e bad

/-- A lift's outputs (R260, R261, R265). -/
def State.liftRun (s : State) (b : Bytes) (n : Nat)
    (cam : State → Nat → GridPose → Nat → Nat → CamUse → FrameRt → Lift) : Bool × State :=
  let w := specHead b
  let l := s.liftAll b n cam
  let cams := (s.fedCams b n).map (·.1)
  let s1 := l.s.writeTensor 0x3000 (gOut w) (gSr w) l.bad (cellSum l.cs)
  (l.bad, s1.writeDis w n l.bad l.cs cams)

/-! ### VOX_POOL (R262) -/

/-- The pooled value of a channel of a cell. -/
def poolCell (mx : Bool) (sites : List ((Nat × Nat) × Nat)) (t : Tensor) (c x y : Nat) : Nat :=
  let vs := (sites.filter (fun p => p.1 = (x, y))).map (fun p => t.chan c p.2 0)
  if mx then (match vs with | [] => 0 | v :: r => r.foldl (fun a b => fminmax false a b.to32) v.to32)
  else vs.foldl (fun a v => (FpVal.add (val32 a) v).to32) 0

/-- `VOX_POOL` for an epoch. -/
def State.voxPoolRun (s : State) (b : Bytes) (n : Nat) : Bool × State :=
  let w := specHead b
  let (g, s1) := s.gridOf n
  if (s1.setOf n).isNone then (false, s1.writeTensor 0x3000 (gOut w) (gSr w) false fun _ _ _ => 0)
  else
    let (t, s2) := s1.readTensor 0x3000 (gIn w)
    (t.poison, s2.writeTensor 0x3000 (gOut w) (gSr w) t.poison (poolCell (gPoolMax w) (s1.placedSites w n g.alm (gInSet w)) t))

/-! ### WARP and the grid memory (R269 to R271) -/

/-- The header of grid memory buffer `k`. -/
def State.memHdr (s : State) (k : Nat) : Nat := if k = 0 then s.deep.ag.hdr0 else s.deep.ag.hdr1

/-- The header that M_n has once the fusion layers have written it (R269). -/
def State.memHdrNew (s : State) (n : Nat) (g : GridPose) (valid : Bool) : Nat :=
  let geo := s.geom g.alm
  n + fxTo64 g.pose.x.x * 2 ^ 64 + fxTo64 g.pose.x.y * 2 ^ 128 + fxTo64 g.pose.x.z * 2 ^ 192 +
  fxTo64 g.pose.q.w * 2 ^ 256 + fxTo64 g.pose.q.x * 2 ^ 320 + fxTo64 g.pose.q.y * 2 ^ 384 + fxTo64 g.pose.q.z * 2 ^ 448 +
  g.frameId * 2 ^ 512 + ofSgn 32 geo.x0 * 2 ^ 576 + ofSgn 32 geo.y0 * 2 ^ 608 + geo.cell * 2 ^ 640 +
  boolNat valid * 2 ^ 656 + boolNat g.poseNone * 2 ^ 657

/-- The grid memory may not be carried into epoch n (R271). -/
def State.warpReset (s : State) (n : Nat) (g : GridPose) (hdr : Nat) : Bool :=
  let geo := s.geom g.alm
  n = s.deep.ag.firstEpoch || !hdr.testBit 656 || bitsOf 63 0 hdr + 1 ≠ n || bitsOf 575 512 hdr ≠ g.frameId ||
  hdr.testBit 657 || g.poseNone || bitsOf 655 640 hdr ≠ geo.cell || bitsOf 607 576 hdr ≠ ofSgn 32 geo.x0 ||
  bitsOf 639 608 hdr ≠ ofSgn 32 geo.y0

/-- The weights of the taps inside the grid. -/
def tapWeight (x y : Fx) : FpVal :=
  let x0 := x / Fx.one
  let y0 := y / Fx.one
  let dx := x - Fx.ofInt x0
  let dy := y - Fx.ofInt y0
  [(x0, y0, Fx.mul (Fx.one - dx) (Fx.one - dy)), (x0 + 1, y0, Fx.mul dx (Fx.one - dy)),
   (x0, y0 + 1, Fx.mul (Fx.one - dx) dy), (x0 + 1, y0 + 1, Fx.mul dx dy)].foldl (fun a k =>
     if k.1 < 0 || 1024 ≤ k.1 || k.2.1 < 0 || 1024 ≤ k.2.1 then a else FpVal.add a (.num false (Fx.toDy k.2.2))) (.num false Dy.zero)

/-- `WARP` for an epoch (R270, R271). -/
def State.warpRun (s : State) (b : Bytes) (n : Nat) : Bool × State :=
  let w := specHead b
  let (g, s1) := s.gridOf n
  let k := (n + 1) % 2
  let hdr := s1.memHdr k
  if s1.warpReset n g hdr then
    let s2 := s1.mapEpoch n fun e => { e with memReset := true }
    (false, ((s2.bump R.MEM_RESETS).event 0x2705 0 [(64, n)]).writeTensor 0x3000 (gOut w) (gSr w) false fun _ _ _ => 0)
  else
    let (t, s2) := s1.readTensor 0x3000 (if k = 0 then gIn w else gInAlt w)
    let geo := s1.geom g.alm
    let prev : Pose := { q := { w := fx64 hdr 256, x := fx64 hdr 320, y := fx64 hdr 384, z := fx64 hdr 448 },
                         x := { x := fx64 hdr 64, y := fx64 hdr 128, z := fx64 hdr 192 } }
    let cs := Fx.ofRat geo.cell 100
    let place := fun (x y : Nat) =>
      let p := (Pose.unapply prev (Pose.apply g.pose (gridCentre geo 1 x y (Fx.ofRat (gMemZ w) 100)))).r32
      (Fx.div (p.x - Fx.ofRat geo.x0 1000) cs - Fx.one / 2, Fx.div (p.y - Fx.ofRat geo.y0 1000) cs - Fx.one / 2)
    (t.poison, s2.writeTensor 0x3000 (gOut w) (gSr w) t.poison fun c x y =>
      let (u, v) := place x y
      (if c = gC w then tapWeight u v else bilinear t 1024 1024 c u v).to32)

end Sys2Proof.Machine
end

