-- ==== Sys2Proof/Machine/AstroCmds.lean ====
section
/-! DEFINITION. Astrograph's operations as commands (R260 to R262, R270): each runs for the task of Astrograph that names
its spec. -/
namespace Sys2Proof.Machine

/-- `LIFT_DEPTH` (R260). -/
def execLiftDepth (spec : Fin 32) (s : State) : Host.Outcome State Fault Refusal :=
  s.run fun s => s.agRun spec.val 0 fun s b n => s.liftRun b n State.liftDepthCam

/-- `LIFT_ATTN` (R261). -/
def execLiftAttn (spec : Fin 32) (s : State) : Host.Outcome State Fault Refusal :=
  s.run fun s => s.agRun spec.val 1 fun s b n => s.liftRun b n State.liftAttnCam

/-- `VOX_POOL` (R262). -/
def execVoxPool (spec : Fin 32) (s : State) : Host.Outcome State Fault Refusal :=
  s.run fun s => s.agRun spec.val 2 State.voxPoolRun

/-- `WARP` (R270). -/
def execWarp (spec : Fin 32) (s : State) : Host.Outcome State Fault Refusal :=
  s.run fun s => s.agRun spec.val 3 State.warpRun

end Sys2Proof.Machine
end

