-- ==== Sys2Proof/Machine/Ed448.lean ====
section
/-! DEFINITION. Ed448 as RFC 8032 gives it (section 5.2), with the rejections of R487: the curve
x² + y² = 1 + d x² y² over the field of p = 2^448 − 2^224 − 1 elements, d = −39081. -/
namespace Sys2Proof.Machine

/-- The field's order. -/
def edP : Nat := 2 ^ 448 - 2 ^ 224 - 1

/-- The group's order. -/
def edL : Nat := 2 ^ 446 - 13818066809895115352007386748515426880336692474882178609894547503885

/-- The curve constant. -/
def edD : Nat := edP - 39081

/-- The base point. -/
def edBase : Nat × Nat :=
  (224580040295924300187604334099896036246789641632564134246125461686950415467406032909029192869357953282578032075146446173674602635247710,
   298819210078481492676017930443930673437544040154080242095928241372331506189835876003536878655418784733982303233503462500531545062832660)

/-- `b` to the power `e` modulo `m`, by squaring over the `n` low bits of `e`. -/
def powMod (m : Nat) : Nat → Nat → Nat → Nat
  | 0, _, _ => 1 % m
  | n + 1, b, e =>
    let h := powMod m n (b * b % m) (e / 2)
    if e % 2 = 1 then b * h % m else h

/-- The inverse in the field. -/
def edInv (x : Nat) : Nat := powMod edP 448 (x % edP) (edP - 2)

/-- A point in projective coordinates X, Y, Z. -/
structure EdPoint where
  x : Nat
  y : Nat
  z : Nat
deriving DecidableEq, Repr

/-- The neutral point. -/
def edZero : EdPoint := { x := 0, y := 1, z := 1 }

/-- A point of affine coordinates. -/
def edOf (p : Nat × Nat) : EdPoint := { x := p.1, y := p.2, z := 1 }

/-- The sum of two points (RFC 8032, 5.2.4). -/
def edAdd (p q : EdPoint) : EdPoint :=
  let a := p.z * q.z % edP
  let b := a * a % edP
  let c := p.x * q.x % edP
  let d := p.y * q.y % edP
  let e := edD * (c * d % edP) % edP
  let f := (b + (edP - e)) % edP
  let g := (b + e) % edP
  let h := (p.x + p.y) * (q.x + q.y) % edP
  let hcd := (h + (edP - c) + (edP - d)) % edP
  { x := a * (f * hcd % edP) % edP, y := a * (g * ((d + (edP - c)) % edP) % edP) % edP, z := f * g % edP }

/-- `k` times a point, over the `n` low bits of `k`. -/
def edMul : Nat → Nat → EdPoint → EdPoint
  | 0, _, _ => edZero
  | n + 1, k, p =>
    let r := edMul n (k / 2) (edAdd p p)
    if k % 2 = 1 then edAdd p r else r

/-- Two points are equal. -/
def edEq (p q : EdPoint) : Bool :=
  p.x * q.z % edP = q.x * p.z % edP && p.y * q.z % edP = q.y * p.z % edP

/-- The 57 bytes of a point. -/
def edEncode (p : EdPoint) : Bytes :=
  let zi := edInv p.z
  let x := p.x * zi % edP
  let y := p.y * zi % edP
  toLe 57 (y + (x % 2) * 2 ^ 455)

/-- The point of 57 bytes; a non-canonical encoding is none (R487). -/
def edDecode (b : Bytes) : Option EdPoint :=
  let v := leNat b
  let y := v % 2 ^ 455
  let sign := v / 2 ^ 455
  if b.length ≠ 57 || edP ≤ y then none
  else
    let u := (y * y + (edP - 1)) % edP
    let w := (edD * (y * y % edP) + (edP - 1)) % edP
    let u3w := powMod edP 2 u 3 * w % edP
    let u5w3 := powMod edP 3 u 5 * powMod edP 2 w 3 % edP
    let x := u3w * powMod edP 448 u5w3 ((edP - 3) / 4) % edP
    if w * (x * x % edP) % edP ≠ u then none
    else if x = 0 && sign = 1 then none
    else some { x := if x % 2 = sign then x else edP - x, y := y, z := 1 }

/-- The prefix of pure Ed448 with an empty context. -/
def edDom : Bytes := asciiBytes "SigEd448" ++ [0, 0]

/-- The point has small order: four times it is neutral. -/
def edSmall (p : EdPoint) : Bool := edEq (edAdd (edAdd p p) (edAdd p p)) edZero

/-- Verification of a 114-byte signature over a message (R487).
[DEDUCED, log entry 10] -/
def edVerify (pub msg sig : Bytes) : Bool :=
  match edDecode pub, edDecode (sig.take 57) with
  | some a, some r =>
    let sv := leNat (sig.drop 57)
    if sig.length ≠ 114 || edL ≤ sv || edSmall a then false
    else
      let k := leNat (shake256 (edDom ++ sig.take 57 ++ pub ++ msg) 114) % edL
      edEq (edMul 3 4 (edMul 446 sv (edOf edBase))) (edMul 3 4 (edAdd r (edMul 446 k a)))
  | _, _ => false

/-- The secret scalar and the prefix of a 57-byte private seed. -/
def edExpand (seed : Bytes) : Nat × Bytes :=
  let h := shake256 seed 114
  let s0 := leNat (h.take 57)
  let s1 := s0 % 2 ^ 447 / 4 * 4
  (if s1.testBit 447 then s1 else s1 + 2 ^ 447, h.drop 57)

/-- The public key of a private seed. -/
def edPublic (seed : Bytes) : Bytes := edEncode (edMul 448 (edExpand seed).1 (edOf edBase))

/-- The signature of a message (R497). -/
def edSign (seed msg : Bytes) : Bytes :=
  let (s, pre) := edExpand seed
  let pub := edEncode (edMul 448 s (edOf edBase))
  let r := leNat (shake256 (edDom ++ pre ++ msg) 114) % edL
  let rb := edEncode (edMul 446 r (edOf edBase))
  let k := leNat (shake256 (edDom ++ rb ++ pub ++ msg) 114) % edL
  rb ++ toLe 57 ((r + k * s) % edL)

end Sys2Proof.Machine
end

