-- ==== Sys2Proof/Machine/DescCmds.lean ====
section
/-! DEFINITION. The commands that create and free allocations, descriptors and copy objects (R200 to R220). -/
namespace Sys2Proof.Machine

/-- A refused creation or free: the route's `R_ERR` takes the code, the request aborts with `DESC_REJECT` (R219). -/
def State.descRefused (s : State) (r code : Nat) : State × Nat := (s.wr (R.R_ERR r) code, 0x2C80)

/-- A refused creation also counts and raises event 0x2C21, and 0x2C23 when a table is full (R220, R221). -/
def State.creationRefused (s : State) (r code : Nat) : State × Nat :=
  let s1 := (s.bump R.DESC_REJ).event 0x2C21 0 [(8, code), (8, r)]
  (if code = 0x0F then s1.event 0x2C23 0 [] else s1).descRefused r code

/-- A creation succeeded: `R_RESULT` of the route; `R_ERR` keeps the code of its last refusal (R220). -/
def State.created (s : State) (r v : Nat) : State × Nat := (s.wr (R.R_RESULT r) v, 0)

/-- The effect of `ALLOC_NEW` (R200). -/
def State.allocNewReq (s : State) (r : Nat) (data : Bytes) : State × Nat :=
  let base := leAt data 0 8; let size := leAt data 8 8
  let c := s.allocCheck base size
  if c ≠ 0 then s.creationRefused r c
  else
    let (id, s1) := s.allocMake base size (0x7000 + r) false ((leAt data 16 8).testBit 0)
    s1.created r id

/-- `ALLOC_NEW` (R200). -/
def execAllocNew (r : Route) (data : Bytes) (s : State) : Host.Outcome State Fault Refusal :=
  s.run fun s => s.hostWrite r.val 0x2C30 1 data fun s =>
    s.deferred r.val 0x2C30 1 (.allocNew data) fun s => s.allocNewReq r.val data

/-- The effect of `ALLOC_FREE` (R201). -/
def State.allocFreeReq (s : State) (r id : Nat) : State × Nat :=
  let (c, s1) := s.allocFree id
  if c ≠ 0 then s1.descRefused r c else (s1, 0)

/-- `ALLOC_FREE` (R201). -/
def execAllocFree (r : Route) (id : BitVec 16) (s : State) : Host.Outcome State Fault Refusal :=
  s.run fun s => s.hostWrite r.val 0x2C30 2 (toLe 2 id.toNat) fun s =>
    s.deferred r.val 0x2C30 2 (.allocFree id.toNat) fun s => s.allocFreeReq r.val id.toNat

/-- The effect of `DESC_NEW` (R209). -/
def State.descNewReq (s : State) (r : Nat) (data : Bytes) : State × Nat :=
  match s.descNew (leNat data) false with
  | (0, h, s1) => s1.created r h
  | (c, _, s1) => s1.creationRefused r c

/-- `DESC_NEW` (R209). -/
def execDescNew (r : Route) (data : Bytes) (s : State) : Host.Outcome State Fault Refusal :=
  s.run fun s => s.hostWrite r.val 0x2C40 1 data fun s =>
    s.deferred r.val 0x2C40 1 (.descNew data) fun s => s.descNewReq r.val data

/-- A task record. -/
def State.taskRec (s : State) (c t : Nat) : Option TaskRec := s.deep.tt.tasks.find? (fun x => x.cycle = c && x.task = t)

/-- Some scoreboard entry or copy object names a handle (R204). -/
def State.descBusy (s : State) (h : Nat) : Bool :=
  s.deep.tt.sb.any (fun e => match s.taskRec e.cycle e.task with
    | some t => t.descs.contains h
    | none => false) ||
  s.deep.copies.any (fun e => match e.2 with | some c => c.src = h || c.dst = h | none => false)

/-- The code that refuses the destruction of a descriptor (R204, R219); 0 when it is allowed.
[DEDUCED, log entry 33] -/
def State.descFreeCheck (s : State) (h : Nat) : Nat :=
  match s.descOf h with
  | none => 0x18
  | some d => if s.descBusy h then 0x19 else if d.image then 0x1A else 0

/-- The effect of `DESC_FREE` (R204).
[DEDUCED, log entry 33] -/
def State.descFreeReq (s : State) (r h : Nat) : State × Nat :=
  let c := s.descFreeCheck h
  if c ≠ 0 then s.descRefused r c else (s.descDestroy (h % 2 ^ 14), 0)

/-- `DESC_FREE` (R204). -/
def execDescFree (r : Route) (h : BitVec 32) (s : State) : Host.Outcome State Fault Refusal :=
  s.run fun s => s.hostWrite r.val 0x2C40 2 (toLe 4 h.toNat) fun s =>
    s.deferred r.val 0x2C40 2 (.descFree h.toNat) fun s => s.descFreeReq r.val h.toNat

/-- The effect of `COPY_NEW` (R216). -/
def State.copyNewReq (s : State) (r : Nat) (data : Bytes) : State × Nat :=
  let w := leNat data
  match s.copyNew (bitsOf 127 96 w) (bitsOf 95 64 w) (bitsOf 14 0 w) false with
  | (0, id, s1) => s1.created r id
  | (c, _, s1) => s1.creationRefused r c

/-- `COPY_NEW` (R216). -/
def execCopyNew (r : Route) (data : Bytes) (s : State) : Host.Outcome State Fault Refusal :=
  s.run fun s => s.hostWrite r.val 0x2C50 1 data fun s =>
    s.deferred r.val 0x2C50 1 (.copyNew data) fun s => s.copyNewReq r.val data

/-- The effect of `COPY_FREE` (R215).
[DEDUCED, log entry 33] -/
def State.copyFreeReq (s : State) (id : Nat) : State × Nat := (s.copyDrop id, 0)

/-- `COPY_FREE` (R215). -/
def execCopyFree (r : Route) (id : BitVec 16) (s : State) : Host.Outcome State Fault Refusal :=
  s.run fun s => s.hostWrite r.val 0x2C50 2 (toLe 2 id.toNat) fun s =>
    s.deferred r.val 0x2C50 2 (.copyFree id.toNat) fun s => s.copyFreeReq id.toNat

end Sys2Proof.Machine
end

