-- ==== Sys2Proof/Machine/TtOps.lean ====
section
/-! DEFINITION. Timetables and scoreboards (chapter 10): cycles, entries, units, loading, resolving, aborting. -/
namespace Sys2Proof.Machine

/-- Change the timetable's own state. -/
def State.mapTt (s : State) (f : Tt → Tt) : State := s.mapDeep fun d => { d with tt := f d.tt }

/-! ### Cycles (R299) -/

/-- Origin (2^−16 ns) and period (ns) of a cycle. -/
def State.cycle (s : State) (c : Nat) : Nat × Nat := s.deep.tt.cycles.getD c (0, 0)

/-- The period Q of a cycle, in 2^−16 ns. -/
def State.cycleQ (s : State) (c : Nat) : Nat := (s.cycle c).2 * ftNs

/-- The origin of instance `q` of cycle `c`. -/
def State.cycOrigin (s : State) (c q : Nat) : Nat := (s.cycle c).1 + q * s.cycleQ c

/-- The first instance whose origin is at or after `t`. -/
def State.firstFrom (s : State) (c t : Nat) : Nat :=
  let (o, _) := s.cycle c
  if t ≤ o then 0 else ceilDiv (t - o) (max 1 (s.cycleQ c))

/-- The next instance of a cycle to load; none when no image is admitted. -/
def State.nextOf (s : State) (c : Nat) : Option Nat :=
  let n := smGet (fun _ => 0) s.deep.tt.nextInst c
  if n = 0 then none else some (n - 1)

/-- Set the next instance of a cycle. -/
def State.setNextOf (s : State) (c q : Nat) : State :=
  s.mapTt fun t => { t with nextInst := smSet (fun _ => 0) t.nextInst c (q + 1) }

/-- The epoch that an instance of a cycle belongs to: for cycle 0 the instance itself (R299), otherwise the newest epoch
whose instant is not after the instance's origin.
[DEDUCED, log entry 38] -/
def State.instEpoch (s : State) (c q : Nat) : Nat := if c = 0 then q else s.epochOf (s.cycOrigin c q) - 1

/-! ### Stops of the deep layer (R41, R308, R534) -/

/-- An ENV_HOLD cause other than KCLK holds the timetable (R534). -/
def State.envStopped (s : State) : Bool :=
  s.rd R.ENV_HOLD / 2 ≠ 0 || (s.rd R.ENV_HOLD ≠ 0 && s.rd R.CLK_FAULT % 64 ≠ 0)

/-- The deep layer is stopped: FAILED_REPLACE or ENV_HOLD. -/
def State.deepStopped (s : State) : Bool := s.rd R.DEV_STATE = 4 || s.envStopped

/-- The first epoch of a stop that begins now: the lowest whose instant + P has not passed and whose result is not sent. -/
def State.firstStopped (s : State) : Nat :=
  let n := max s.deep.ag.firstEpoch (s.epochOf s.now - 1)
  if (s.epochRt n).sent then n + 1 else n

/-! ### Units of a task (R300, R303) -/

/-- The task of a scoreboard entry. -/
def State.entTask (s : State) (e : SbEntry) : Option TaskRec := s.taskRec e.cycle e.task

/-- The task runs on cirques. -/
def TaskRec.isSpur (t : TaskRec) : Bool := t.unit / 4096 = 0

/-- The cirques of a task's span. -/
def TaskRec.cirques (t : TaskRec) : List Nat :=
  if t.isSpur then (List.range (max 1 t.cirqN)).map (fun i => t.unit / 4 + i) else []

/-- The spurs of a task. -/
def TaskRec.spurList (t : TaskRec) : List Nat := t.cirques.flatMap (fun c => (bitsSet 4 t.spurs).map (fun i => 4 * c + i))

/-- Two tasks share a unit (R296). -/
def TaskRec.shares (a b : TaskRec) : Bool :=
  if a.isSpur then b.isSpur && a.spurList.any (fun n => b.spurList.contains n) else a.unit = b.unit

/-- The agent that signals `DONE_CAIRN`: the ridge of the first cirque, or the fixed-unit scheduler (R303). -/
def TaskRec.sched (t : TaskRec) : Nat := if t.isSpur then 0xC000 + t.unit / 32 else 0xC004

/-- The owner domains whose task this is (R360). -/
def TaskRec.owners (t : TaskRec) : List Nat := if t.isSpur then t.cirques.map (4 * ·) else [t.unit]

/-- The unit is idle (R303). -/
def State.unitIdle (s : State) (t : TaskRec) : Bool :=
  if t.isSpur then t.spurList.all (fun n => s.rd (R.SPUR_STATE n) = 1 || s.rd (R.SPUR_STATE n) = 3)
  else if t.unit = 0x3000 then s.rd R.AG_STATE = 1
  else if t.unit / 4096 = 4 then s.rd (R.TH_STATE (t.unit % 4096)) = 1
  else if t.unit / 4096 = 5 then s.rd (R.DMA_STATE (t.unit % 4096)) ≠ 1
  else s.deep.tt.sb.all (fun e => e.st ≠ 3 || (match s.entTask e with | some u => u.unit ≠ t.unit | none => true))

/-- A spur leaves its task: its instruction buffer is cleared, and a wait it sleeps in ends with it (R306). -/
def State.spurDrop (s : State) (n : Nat) : State :=
  let s1 := if s.rd (R.SPUR_STATE n) = 2 then s.wr (R.SPUR_STATE n) 1 else s
  let s2 := s1.mapSpur n fun x =>
    { x with ibuf := [], ibufP := 0, fence := none, waiting := false, ended := false, task := none }
  let ws := s2.cs.waiters.filter (fun e => match e.2 with | some w => w.agent = n | none => false)
  let s3 := ws.foldl (fun t e => match e.2 with
    | some w =>
      let c := t.cairn w.cairn
      ((t.setWaiter e.1 none).setCairn w.cairn { c with waiters := c.waiters.filter (fun i => i ≠ e.1) }).wr R.WAITERS_USED
        (t.rd R.WAITERS_USED - 1)
    | none => t) s2
  { s3 with cs := { s3.cs with wakes := s3.cs.wakes.filter (fun w => w.1 ≠ n) } }

/-- A unit abandons its task (R306). -/
def State.unitStop (s : State) (t : TaskRec) : State :=
  if t.isSpur then t.spurList.foldl (fun u n => u.spurDrop n) s
  else if t.unit = 0x3000 then s.wr R.AG_STATE 1
  else if t.unit / 4096 = 4 then
    (s.mapDeep fun d => { d with th := { d.th with units := smSet (fun _ => none) d.th.units (t.unit % 4096) none } }).wr
      (R.TH_STATE (t.unit % 4096)) 1
  else if t.unit / 4096 = 5 then
    { s with host := { s.host with dma := smSet (fun _ => none) s.host.dma (t.unit % 4096) none } }.wr
      (R.DMA_STATE (t.unit % 4096)) 0
  else s

/-! ### Entries (R309) -/

/-- The entry of a task instance. -/
def State.entry (s : State) (c i t : Nat) : Option SbEntry :=
  s.deep.tt.sb.find? (fun e => e.cycle = c && e.inst = i && e.task = t)

/-- The key of an entry. -/
def SbEntry.key (e : SbEntry) : Nat × Nat × Nat := (e.cycle, e.inst, e.task)

/-- No contribution (R309). -/
abbrev noOldest : Int := 0x7FFFFFFF

/-- The entry that a scheduler loads (R303, R309). -/
def newEntry (q : Nat) (t : TaskRec) : SbEntry :=
  { cycle := t.cycle, inst := q, task := t.task, st := 1, inrdy := 0, fbk := 0, inbad := 0, valid := false,
    oldest := noOldest, tEnd := 0xFFFFFFFF, report := 0, outBad := false }

/-- Nanoseconds from an instance's origin to a time, as `T_END` holds them. -/
def State.offNs (s : State) (c q t : Nat) : Nat := min ((t - s.cycOrigin c q) / ftNs) 0xFFFFFFFF

/-- An entry goes to ABORTED at a time (R306, R308): its unit stops if it ran, its owners' cairns are poisoned and
their packets rewound (R360, R361, R387).
[DEDUCED, log entry 38] -/
def State.abortEntry (s : State) (e : SbEntry) (at_ : Nat) : State :=
  let s1 := s.mapEntry e.key fun x => { x with st := 6, valid := false, tEnd := s.offNs e.cycle e.inst at_ }
  match s.entTask e with
  | none => s1
  | some t =>
    let s2 := if e.st = 3 then s1.unitStop t else s1
    (t.owners.foldl (fun u o => u.ownerReset o) s2) |> fun u =>
      t.spurList.foldl (fun v n => if n % 4 = 0 then v else v.qProducerReset n) u

/-- Abort every entry in WAIT, READY or RUN that satisfies `p`, without D041 (R308). -/
def State.abortWhere (s : State) (at_ : Nat) (p : SbEntry → Bool) : State :=
  (s.deep.tt.sb.filter (fun e => 1 ≤ e.st && e.st ≤ 3 && p e)).foldl (fun t e => t.abortEntry e at_) s

/-- The stopped results of R278 begin, unless they already have: `stoppedNext` holds one more than the next epoch. -/
def State.beginStopped (s : State) : State :=
  if s.deep.tt.stoppedNext ≠ 0 then s else s.mapTt fun t => { t with stoppedNext := s.firstStopped + 1 }

/-- ENV_HOLD begins: every entry is aborted, and the stopped results of R278 begin (R534).
[DEDUCED, log entry 38] -/
def State.deepAbortAll (s : State) : State := (s.abortWhere s.now fun _ => true).beginStopped

/-- FAILED_REPLACE (R41): the deep layer stops.
[DEDUCED, log entry 38] -/
def State.failDevice (s : State) : State :=
  let s1 := s.failReplace
  if s.rd R.DEV_STATE = 4 then s1 else (s1.abortWhere s1.now fun e => e.cycle = 0).beginStopped

/-- The end of a spur's command: when its trap was D018's, the device fails (R513). -/
def State.spurDone (t : State) : State :=
  if t.diag.failDue then { t with diag := { t.diag with failDue := false } }.failDevice else t

/-- The frame of a spur's command. -/
def State.runSpur (s : State) (f : State → State) : Host.Outcome State Fault Refusal := s.run fun s => (f s).spurDone

/-- Each cycle's next instance after a stop or a step: the first whose origin is at or after a time; `prev` asks it of
the origin before (R308, R534). -/
def State.restartCycles (s : State) (t : Nat) (prev : Bool) : State :=
  (List.range s.deep.tt.cycles.length).foldl (fun u c =>
    u.setNextOf c (u.firstFrom c (if prev then t + u.cycleQ c else t))) s

/-- ENV_HOLD ends (R534). -/
def State.deepResume (s : State) : State :=
  let s1 := s.restartCycles s.now false
  if s1.deepStopped then s1 else s1.mapTt fun t => { t with stoppedNext := 0 }

/-- A step of Meridian from `a` to `b` (R55, R308). -/
def State.stepTimetable (s : State) (a b : Nat) : State :=
  let s1 := (s.abortWhere a fun _ => true).restartCycles b true
  let n0 := (s1.nextOf 0).getD 0
  let s2 := s1.mapTt fun t =>
    { t with epochNext := s1.firstFrom 0 b, stoppedNext := if t.stoppedNext = 0 then 0 else n0 + 1, fbInst := [] }
  s2.mapAg fun g => { g with epochs := [], firstEpoch := n0 }

/-! ### Loading (R303, R308, R363, R449, R451) -/

/-- A share map lets a task run on this device (R449); with no map declared every task runs. -/
def State.mapRuns (s : State) (k c t : Nat) : Bool :=
  let b := s.obj (0x5700 + k)
  let own := s.host.rangeId
  if b.isEmpty then true
  else
    let es := (List.range (leAt b 1 1)).map (fun i => leAt b (8 + 8 * i) 8)
    match es.find? (fun e => bitsOf 63 48 e = t && bitsOf 47 45 e = c) with
    | some e => e.testBit (32 + own)
    | none => (leAt b 0 1).testBit own

/-- The share map under which an instance loads (R451). -/
def State.mapFor (s : State) (c q : Nat) : Nat := match s.host.mapPend with
  | some (k, e) => if s.instant e ≤ s.cycOrigin c q then k else s.rd R.MAP_CUR
  | none => s.rd R.MAP_CUR

/-- The schedulers load an instance: one entry in WAIT per task of the cycle that runs here, in record order. -/
def State.loadInstance (s : State) (c q : Nat) : State :=
  let k := s.mapFor c q
  let es := (s.deep.tt.tasks.filter (fun t => t.cycle = c && s.mapRuns k c t.task)).map (newEntry q)
  let s1 := s.mapTt fun t => { t with sb := t.sb ++ es }
  if c = 0 then s1.wr R.EPOCH_CUR q else s1

/-- The planned cairns of a cycle that are POISONED re-arm at its instance origin (R363). -/
def State.rearmPlanned (s : State) (c : Nat) : State :=
  s.cs.plan.foldl (fun t e => match e.2 with
    | some p => if p.cycle = c && (t.cairn e.1).cstate = .poisoned then t.rearm e.1 p.rest else t
    | none => t) s

/-- An instance origin passes. -/
def State.instanceOrigin (s : State) (c q : Nat) : State :=
  let s1 := (s.setNextOf c (q + 1)).rearmPlanned c
  if s1.envStopped || (c = 0 && s1.deepStopped) then s1 else s1.loadInstance c q

/-! ### Inputs (R301, R305, R310) -/

/-- How an input stands: not ready, ready and valid, or ready and invalid, with its oldest contribution. -/
inductive InSt where
  | no
  | ready (oldest : Int)
  | bad

/-- The cairn of a kind-5 input has reached its plan's forward target; a POISONED cairn never will (R301, R361).
[DEDUCED, log entry 38] -/
def State.cairnInput (s : State) (c : Nat) : InSt :=
  match smGet (fun _ => none) s.cs.plan c with
  | none => .no
  | some p =>
    let r := s.cairn c
    if r.cstate = .poisoned then .bad
    else if r.cstate = .armed && condHolds 0 r.value p.fwdTgt then .ready noOldest else .no

/-- What an input of an entry is now (R305, R310). Kind 2 resolves at `IN_DL` only.
[DEDUCED, log entry 38] -/
def State.inputNow (s : State) (e : SbEntry) (x : InEnt) : InSt :=
  let prod := fun (i : Nat) (shift : Int) => match s.entry e.cycle i x.src with
    | some p => if p.st = 4 && p.valid then InSt.ready (if p.oldest = noOldest then noOldest else p.oldest - shift) else .no
    | none => .no
  let n := s.instEpoch e.cycle e.inst
  if x.kind = 0 then prod e.inst 0
  else if x.kind = 1 then (if e.inst = 0 then .no else prod (e.inst - 1) ((s.cycle e.cycle).2 : Int))
  else if x.kind = 3 then (match (s.epochRt n).set with
    | some h =>
      let off := Int.fdiv ((s.instant n : Int) - (s.cycOrigin e.cycle e.inst : Int)) ftNs
      .ready (sgnOf 32 (bitsOf 927 896 h) + off)
    | none => .no)
  else if x.kind = 4 then
    (if (s.epochRt n).rbFail.testBit x.src then .bad else if (s.epochRt n).rbDone.testBit x.src then .ready noOldest else .no)
  else if x.kind = 5 then s.cairnInput (x.arg % 2 ^ 14)
  else .no

/-- The smaller contribution, saturated to INTEGER32 (R310). -/
def minOldest (a b : Int) : Int := clampInt (-(2 ^ 31)) (2 ^ 31 - 1) (min a b)

/-- Input `k` of an entry resolves: validly with a contribution, invalidly, and by its fallback or not. -/
def SbEntry.resolve (e : SbEntry) (k : Nat) (oldest : Option Int) (fell : Bool) : SbEntry :=
  let e1 := { e with inrdy := setBit e.inrdy k, fbk := if fell then setBit e.fbk k else e.fbk }
  match oldest with
  | some o => { e1 with oldest := minOldest e1.oldest o }
  | none => { e1 with inbad := setBit e1.inbad k }

/-- WAIT to READY once every input is resolved and `START_MIN` has passed (R303). -/
def State.tryReady (s : State) (c i t : Nat) : State :=
  match s.entry c i t, s.taskRec c t with
  | some e, some r =>
    if e.st = 1 && e.inrdy = 2 ^ r.inputs.length - 1 && s.cycOrigin c i + r.startMin * ftNs ≤ s.now then
      s.mapEntry (c, i, t) fun x => { x with st := 2 }
    else s
  | _, _ => s

/-- Input `k` resolves, and the entry may become READY. -/
def State.resolveInput (s : State) (c i t k : Nat) (oldest : Option Int) (fell : Bool) : State :=
  (s.mapEntry (c, i, t) fun x => x.resolve k oldest fell).tryReady c i t

/-- A fallback is taken (R305): counted, and reported once per instance.
[DESIGN CHOICE, log entry 39] -/
def State.fellBack (s : State) (c i t k : Nat) : State :=
  let s1 := s.bump R.FB_COUNT
  if s1.deep.tt.fbInst.contains (c, i) then s1
  else (s1.mapTt fun x => { x with fbInst := x.fbInst ++ [(c, i)] }).event 0x2804 0 [(16, t), (8, k)]

/-! ### `SB_VIEW` (R309, R311) -/

/-- The 16 bytes of an entry. -/
def sbWord (e : SbEntry) : Nat :=
  e.st + e.cycle * 2 ^ 8 + boolNat e.valid * 2 ^ 11 + e.fbk * 2 ^ 16 + e.inrdy * 2 ^ 24 + (e.inst % 2 ^ 16) * 2 ^ 32 +
    e.task * 2 ^ 48 + e.tEnd * 2 ^ 64 + ofSgn 32 e.oldest * 2 ^ 96

/-- An EMPTY entry at its reset values. -/
def sbEmpty : Nat := 0xFFFFFFFF * 2 ^ 64 + 0x7FFFFFFF * 2 ^ 96

/-- The entries that a scheduler or cirque scoreboard holds, in load order: 0–31 cirques, 32–35 ridges, 36 fixed units.
[DEDUCED, log entry 38] -/
def State.sbOf (s : State) (k : Nat) : List SbEntry :=
  s.deep.tt.sb.filter (fun e => match s.entTask e with
    | some t => if k = 36 then !t.isSpur else t.cirques.any (fun c => if k < 32 then c = k else 32 ≤ k && c / 8 = k - 32)
    | none => false)

/-- `SB_VIEW`.
[DEDUCED, log entry 38] -/
def State.sbView (s : State) : Nat :=
  let v := s.rd R.SB_SEL
  match (s.sbOf (v / 2 ^ 24))[v % 2 ^ 24]? with
  | some e => sbWord e
  | none => sbEmpty

end Sys2Proof.Machine
end

