-- ==== Sys2Proof/Machine/Gates.lean ====
section
/-! DEFINITION. The slot wheels and their gates (R36 to R38, R289 to R294, R436, R561), and how an operation of each kind of
agent fails. -/
namespace Sys2Proof.Machine

/-! ### Tables -/

/-- The slots of a resource's wheel (R289, R428). -/
def wheelLen (res : Nat) : Nat :=
  if 0x300 ≤ res then 1024 else if 0x200 ≤ res || res = 0x1D4 then 256 else 512

/-- A store port (R561). -/
def isStorePort (res : Nat) : Bool := 0x100 ≤ res && res < 0x1D0

/-- A mesh link, Plate half, queue memory port or Col link (R436). -/
def isSharedWheel (res : Nat) : Bool := res < 0x100 || (0x1D0 ≤ res && res ≤ 0x1D3) || 0x300 ≤ res

/-- The boot table before the first admission (R436), in the form of R290. -/
def bootSlot (res i : Nat) : Nat :=
  let own := if i % 2 = 0 then 0x7001 else 0x6000
  if 0x200 ≤ res && res < 0x300 then (if i % 32 = 31 then 4 * 2 ^ 13 else own * 2 ^ 16 + 3 * 2 ^ 13)
  else if isSharedWheel res then own * 2 ^ 16 + 3 * 2 ^ 13
  else 0

/-- A slot's entry (R290): of the admitted image, in which a resource without a table is idle (R561), or the boot table's. -/
def State.slotEntry (s : State) (res i : Nat) : Nat :=
  if s.deep.tt.loaded then (smGet (fun _ => []) s.deep.tt.tables res).getD i 0 else bootSlot res i

/-- `OWNER` and `USE` as the gate copy has them: a faulty entry counts as idle (R294). -/
def State.gateEntry (s : State) (res i : Nat) : Nat × Nat :=
  if s.deep.tt.gateBad.contains (res, i) then (0, 0)
  else let e := s.slotEntry res i; (bitsOf 31 16 e, bitsOf 15 13 e)

/-- `USE` permits a direction (R290).
[DEDUCED, log entry 40] -/
def usePermits (use : Nat) (write : Bool) : Bool := use = 3 || use = (if write then 2 else 1)

/-- The gate accepts a request (R291). -/
def State.gateAccepts (s : State) (res i agent : Nat) (write : Bool) : Bool :=
  let e := s.gateEntry res i
  (usePermits e.2 write && e.1 = agent) || (e.2 = 0 && isStorePort res && agent = 0xB003)

/-- An agent owns some slot of a resource in a direction.
[DEDUCED, log entry 42] -/
def State.ownsSlot (s : State) (res agent : Nat) (write : Bool) : Bool :=
  (List.range (wheelLen res)).any (fun i =>
    let e := s.slotEntry res i
    bitsOf 31 16 e = agent && usePermits (bitsOf 15 13 e) write)

/-- A scrubber works only in slots that the admitted tables give it with `USE` = 3 (R408, R409). -/
def State.scrubberOwns (s : State) (k chan : Nat) : Bool :=
  let res := if k = 2 then 0x1D0 + chan else 0x200 + 16 * k + chan
  s.deep.tt.loaded && (smGet (fun _ => []) s.deep.tt.tables res).any (fun e =>
    bitsOf 31 16 e = 0xB000 + k && bitsOf 15 13 e = 3)

/-! ### The mesh (R292, R561) -/

/-- The node of an agent, as (x, y). -/
def agentNode (a : Nat) : Nat × Nat :=
  let i := a % 4096
  match a / 4096 with
  | 0 => (i / 4 % 8 + 1, i / 32 + 1)
  | 1 => (9, 1)
  | 2 => (4, 0)
  | 3 => (9, 2)
  | 4 => (9, 3)
  | 5 => (0, 5)
  | 6 => (2, 5)
  | 7 => (0, 5)
  | 8 => (1, 5)
  | 9 => (9, 4)
  | 0xA => (3, 5)
  | 0xB => if i = 0 then (0, 0) else if i = 1 then (6, 0) else (4, 0)
  | _ => if i < 4 then (0, i + 1) else (4, 5)

/-- The node of a local address; none for dictionary space and the cairn store. -/
def addrNode (variant a : Nat) : Option (Nat × Nat) := match regionOf variant a with
  | .dram k => some ((if k = 0 then 0 else 6) + dramRow variant a / 2 ^ 55 % 16 / 4, 0)
  | .spurStore n => some (agentNode n)
  | .cirqueStore c => some (agentNode (4 * c))
  | .ridgeStore r => some (0, r + 1)
  | .plate => some (4, 0)
  | .queueMem => some (5, 0)
  | _ => none

/-- The links of a route from one node to another, first along x, then along y. -/
def routeLinks (a b : Nat × Nat) : List Nat :=
  let xs := if a.1 ≤ b.1 then (List.range (b.1 - a.1)).map (fun i => 4 * (10 * a.2 + a.1 + i))
    else (List.range (a.1 - b.1)).map (fun i => 4 * (10 * a.2 + a.1 - i) + 1)
  let ys := if a.2 ≤ b.2 then (List.range (b.2 - a.2)).map (fun i => 4 * (10 * (a.2 + i) + b.1) + 2)
    else (List.range (a.2 - b.2)).map (fun i => 4 * (10 * (a.2 - i) + b.1) + 3)
  xs ++ ys

/-- The ports of a local address in a direction, as alternatives (R289, R561); none where no wheel stands before it. -/
def portsOf (variant a : Nat) (write : Bool) : List Nat := match regionOf variant a with
  | .dram k => [0x200 + 16 * k + dramRow variant a / 2 ^ 55 % 16]
  | .spurStore n => if write then [0x150 + n] else []
  | .cirqueStore c => [if write then 0x120 + c else 0x100 + c]
  | .ridgeStore r => [if write then 0x144 + r else 0x140 + r]
  | .plate => [0x1D0 + (a - 0x11000000000) / 0x800000]
  | .queueMem => [0x1D2, 0x1D3]
  | _ => []

/-- An agent owns slots on everything an access of a local address needs: the port and the links between (R36, R435).
[DEDUCED, log entry 42] -/
def State.hasSlots (s : State) (agent a : Nat) (write : Bool) : Bool :=
  let ps := portsOf s.variant a write
  let links := match addrNode s.variant a with
    | some n => if write then routeLinks (agentNode agent) n else routeLinks n (agentNode agent)
    | none => []
  (ps.isEmpty || ps.any (fun p => s.ownsSlot p agent write)) &&
    links.all (fun l => s.ownsSlot l agent true || s.ownsSlot l agent false)

/-! ### Failures of an agent's access (R38, R192, R407, R416, R441) -/

/-- The running task of a unit has failed. -/
def State.unitFailed (s : State) (unit : Nat) : State :=
  match s.deep.tt.sb.find? (fun e => e.st = 3 && (match s.entTask e with | some t => t.unit = unit | none => false)) with
  | some e => s.mapEntry e.key fun x => { x with report := 2, outBad := true }
  | none => s

/-- A DMA channel halts (R441). -/
def State.dmaHalt (s : State) (c code fault : Nat) : State :=
  let s1 := (((s.wr (R.DMA_STATE c) 2).wr (R.DMA_ERR c) code).wr (R.DMA_FAULT c) fault).ownerReset (0x5000 + c)
  ({ s1 with host := { s1.host with dma := smSet (fun _ => none) s1.host.dma c none } }.event 0x2D10 0 [(8, c), (8, code)]).unitFailed
    (0x5000 + c)

/-- How an access fails: at the gate, unmapped, or closed. -/
inductive AccFail where
  | slot | unmapped | closed

/-- An operation of an agent fails: a spur traps, a channel halts, a fixed unit fails its task, a host read completes with
Unsupported Request (R38, R192, R407, R435, R441).
[DEDUCED, log entry 42] -/
def State.accessFailed (s : State) (agent addr : Nat) (write : Bool) (f : AccFail) : State :=
  let i := agent % 4096
  match agent / 4096 with
  | 0 => if i < 128 then
      s.spurTrap i (match f with | .slot => 7 | _ => 6) (smGet (fun _ => 0) (s.spur i).ibuf (s.spur i).pc) else s
  | 3 => s.unitFailed agent
  | 4 => s.unitFailed agent
  | 5 => if i < 64 then s.dmaHalt i (match f with | .slot => 9 | .unmapped => 2 | .closed => 0xA) addr else s
  | 7 =>
    let s1 := match f with
      | .slot => s
      | .unmapped => (s.wr R.DP_ERR 4).wr R.DP_ERR_ADDR addr
      | .closed => (s.wr R.DP_ERR 5).wr R.DP_ERR_ADDR addr
    if write then s1 else s1.emit (.hostRead i false false [])
  | _ => s

/-- D040: a request meets a slot that is not its own (R38, R291).
[DEDUCED, log entry 42] -/
def State.slotViolation (s : State) (res i agent : Nat) : State :=
  (s.bump R.SLOT_VIOL).detect 40 agent [(16, res), (16, i), (16, (s.gateEntry res i).1)]

/-- An access that the gate accepted: memory answers, or the access fails. -/
def State.serveAccess (s : State) (agent addr : Nat) (acc : AccessKind) (poison : Bool) : State :=
  match acc with
  | .write d =>
    let (st, s1) := s.devWrite agent addr d poison
    if st = .unmapped then
      s1.accessFailed agent addr true (if s.accStatus (localPart addr) d.length = .notInit then .closed else .unmapped)
    else s1
  | .read n =>
    let r := s.devRead agent addr n none
    match r.st with
    | .ok => if agent / 4096 = 7 then r.s.emit (.hostRead (agent % 4096) true r.poison r.data)
             else r.s.emit (.popData agent r.poison r.data)
    | .stall => s
    | _ => r.s.accessFailed agent addr false (if s.accStatus (localPart addr) n = .notInit then .closed else .unmapped)

/-- `RESOURCE_ACCESS` (R38, R291): a request of an agent reaches a resource's gate in a slot.
[DEDUCED, log entries 31, 42] -/
def execResourceAccess (res : BitVec 16) (slot : Fin 1024) (agent : BitVec 16) (addr : BitVec 48) (acc : AccessKind)
    (poison : Bool) (s : State) : Host.Outcome State Fault Refusal :=
  s.run fun s =>
    let write := match acc with | .write _ => true | .read _ => false
    if wheelLen res.toNat ≤ slot.val then s
    else if s.gateAccepts res.toNat slot.val agent.toNat write && !s.injArmed 40 agent.toNat then
      s.serveAccess agent.toNat addr.toNat acc poison
    else ((s.injHere 40 agent.toNat).slotViolation res.toNat slot.val agent.toNat).accessFailed agent.toNat addr.toNat write .slot

/-- `SLOT_TABLE_PARITY` (R294): D042; the gate treats the entry as idle until it is rewritten. -/
def execSlotTableParity (res : BitVec 16) (slot : Fin 1024) (s : State) : Host.Outcome State Fault Refusal :=
  s.run fun s =>
    let k := (res.toNat, slot.val)
    if wheelLen k.1 ≤ k.2 || s.deep.tt.gateBad.contains k then s
    else (s.mapTt fun t => { t with gateBad := t.gateBad ++ [k] }).detect 42 0 [(16, k.1), (16, k.2)]

/-- `GATE_REWRITE` (R294): Keeper rewrites the entry from the admitted image.
[DEDUCED, log entry 38] -/
def execGateRewrite (res : BitVec 16) (slot : Fin 1024) (s : State) : Host.Outcome State Fault Refusal :=
  s.run fun s =>
    if !s.keeperUp then s
    else (s.disarmFlip 11).mapTt fun t => { t with gateBad := t.gateBad.filter (fun k => k ≠ (res.toNat, slot.val)) }

end Sys2Proof.Machine
end

