-- ==== Sys2Proof/Machine/TheoNum.lean ====
section
/-! DEFINITION. Theodolite's arithmetic (chapter 11): FP64 operations, pivots, the factorisations and their solves. A computed
value that is infinite or NaN ends the computation (R329): the answer is then none. -/
namespace Sys2Proof.Machine

/-! ### FP64 operations (R316) -/

/-- A result that is finite. -/
def fin64 (b : Nat) : Option Nat := if fpFinite fp64 b then some b else none

/-- The negation of a number. -/
def neg64 (a : Nat) : Nat := a ^^^ 2 ^ 63

/-- A number is negative zero or below. -/
def sign64 (a : Nat) : Bool := a.testBit 63

/-- a × b + c, rounded once. -/
def fma64 (a b c : Nat) : Option Nat :=
  if !(fpFinite fp64 a && fpFinite fp64 b && fpFinite fp64 c) then none
  else
    let p := Dy.mul (fpDy fp64 a) (fpDy fp64 b)
    let d := fpDy fp64 c
    let neg0 := p.isZero && d.isZero && (sign64 a != sign64 b) && sign64 c
    fin64 (fpRoundWith fp64 .even neg0 (Dy.add p d))

/-- a × b. -/
def mul64 (a b : Nat) : Option Nat := fma64 a b (2 ^ 63)

/-- a + b. -/
def add64 (a b : Nat) : Option Nat := fma64 a 0x3FF0000000000000 b

/-- 1 / a.
[DEDUCED, log entry 44] -/
def recip64 (a : Nat) : Option Nat :=
  if !fpFinite fp64 a then none else fin64 (fpDivRound fp64 (Dy.ofInt 1) (fpDy fp64 a))

/-- The square root, correctly rounded. -/
def sqrt64 (a : Nat) : Option Nat :=
  if !fpFinite fp64 a then none
  else
    let d := fpDy fp64 a
    if d.m = 0 then some a
    else if d.m < 0 then none
    else
      let odd : Int := d.e % 2
      let m := d.m.toNat * 2 ^ (odd.toNat + 120)
      let r := Fx.isqrt m
      let sticky := if r * r = m then 0 else 1
      some (fpRound fp64 { m := (2 * r + sticky : Nat), e := (d.e - odd - 120) / 2 - 1 })

/-- |a| < |b| of finite numbers. -/
def absLt64 (a b : Nat) : Bool := Dy.lt (Dy.abs (fpDy fp64 a)) (Dy.abs (fpDy fp64 b))

/-- v − Σ a b over the terms in order, one fused operation each (R317). -/
def subDot (v : Nat) (ts : List (Nat × Nat)) : Option Nat := ts.foldlM (fun a t => fma64 (neg64 t.1) t.2 a) v

/-- Σ a a over the terms in order, from 0 (R317). -/
def sumSq (l : List Nat) : Option Nat := l.foldlM (fun a x => fma64 x x a) 0

/-! ### Matrices -/

/-- A matrix, row-major. -/
structure Mat where
  cols : Nat
  a : Array Nat

/-- An element. -/
def Mat.get (m : Mat) (i j : Nat) : Nat := m.a.getD (i * m.cols + j) 0

/-- Set an element. -/
def Mat.set (m : Mat) (i j v : Nat) : Mat := { m with a := m.a.setIfInBounds (i * m.cols + j) v }

/-- The zero matrix. -/
def Mat.zero (r c : Nat) : Mat := { cols := c, a := Array.replicate (r * c) 0 }

/-- A matrix from its words, row-major. -/
def Mat.ofList (c : Nat) (l : List Nat) : Mat := { cols := c, a := l.toArray }

/-- The words of a matrix. -/
def Mat.words (m : Mat) : List Nat := m.a.toList

/-! ### Pivots (R327) -/

/-- The bookkeeping of pivots: the first clamped one (255 none), how many, and `NOT_SPD`. -/
structure Piv where
  idx : Nat
  n : Nat
  notSpd : Bool

def Piv.none : Piv := { idx := 255, n := 0, notSpd := false }

/-- A clamp is recorded. -/
def Piv.hit (p : Piv) (i : Nat) : Piv := { p with idx := if p.idx = 255 then i else p.idx, n := min 255 (p.n + 1) }

/-- Clamp a pivot: ε with its sign, +ε for zero.
[DEDUCED, log entry 44] -/
def clampPiv (eps v i : Nat) (p : Piv) : Nat × Piv :=
  if absLt64 v eps then (if sign64 v && !(fpDy fp64 v).isZero then neg64 eps else eps, p.hit i) else (v, p)

/-- Clamp the value under the square root of LLᵀ. -/
def clampLlt (eps v i : Nat) (p : Piv) : Nat × Piv :=
  if Dy.lt (fpDy fp64 v) (fpDy fp64 eps) then
    (eps, { p.hit i with notSpd := p.notSpd || Dy.lt (fpDy fp64 v) Dy.zero })
  else (v, p)

/-- The smallest normal number. -/
abbrev minNormal64 : Nat := 2 ^ 52

/-- ε_piv under `EPS_MODE` 0: 2^−`e` times a magnitude, at least the smallest normal number. -/
def epsOf (e big : Nat) : Nat :=
  let p := fpRound fp64 (Dy.scale (Dy.abs (fpDy fp64 big)) (-(e : Int)))
  if p < minNormal64 then minNormal64 else p

/-- The largest magnitude of some numbers. -/
def maxAbs64 (l : List Nat) : Nat := l.foldl (fun a x => if absLt64 a x then x else a) 0

/-! ### Factorisations (R317, R318, R327, R328) -/

/-- A factorisation: the factor, the reciprocals of its pivots, the row exchanges, the pivots' bookkeeping, the pivot in
hand, and whether a value was infinite or NaN, which ends it. -/
structure Fact where
  f : Mat
  r : Array Nat
  perm : List Nat
  piv : Piv
  d : Nat
  bad : Bool

/-- A factorisation not begun. -/
def Fact.start (m : Mat) : Fact := { f := m, r := #[], perm := [], piv := Piv.none, d := 0, bad := false }

/-- Run the steps 0 to n − 1: each finds its pivot, which the bookkeeping keeps, and then does the rest. -/
def factorRun (n : Nat) (x : Fact) (pivot rest : Fact → Nat → Option Fact) : Fact :=
  (List.range n).foldl (fun x j =>
    if x.bad then x
    else match pivot x j with
      | none => { x with bad := true }
      | some y => (rest y j).getD { y with bad := true }) x

/-- Keep a clamped pivot. -/
def Fact.hold (x : Fact) (c : Nat × Piv) : Fact := { x with d := c.1, piv := c.2 }

/-- The pairs (x k, y k) for k below `n`. -/
def termsBelow (n : Nat) (x y : Nat → Nat) : List (Nat × Nat) := (List.range n).map (fun k => (x k, y k))

/-- The rows or columns after `j`. -/
def after (n j : Nat) : List Nat := (List.range (n - 1 - j)).map (· + j + 1)

/-- LLᵀ.
[DEDUCED, log entry 44] -/
def lltFactor (n eps : Nat) (a : Mat) : Fact :=
  factorRun n (Fact.start (Mat.zero n n))
    (fun x j => do
      let v ← subDot (a.get j j) (termsBelow j (x.f.get j) (x.f.get j))
      pure (x.hold (clampLlt eps v j x.piv)))
    (fun x j => do
      let l ← sqrt64 x.d
      let r ← recip64 l
      let m ← (after n j).foldlM (fun (m : Mat) i => do
        let w ← subDot (a.get i j) (termsBelow j (m.get i) (m.get j))
        let q ← mul64 w r
        pure (m.set i j q)) (x.f.set j j l)
      pure { x with f := m, r := x.r.push r })

/-- LDLᵀ: L below the diagonal, D on it.
[DEDUCED, log entry 44] -/
def ldltFactor (n eps : Nat) (a : Mat) : Fact :=
  let prods := fun (x : Fact) (j : Nat) => (List.range j).mapM (fun k => mul64 (x.f.get j k) (x.f.get k k))
  factorRun n (Fact.start (Mat.zero n n))
    (fun x j => do
      let w ← prods x j
      let v ← subDot (a.get j j) (termsBelow j (x.f.get j) (w.getD · 0))
      pure (x.hold (clampPiv eps v j x.piv)))
    (fun x j => do
      let w ← prods x j
      let r ← recip64 x.d
      let m ← (after n j).foldlM (fun (m : Mat) i => do
        let c ← subDot (a.get i j) (termsBelow j (m.get i) (w.getD · 0))
        let q ← mul64 c r
        pure (m.set i j q)) (x.f.set j j x.d)
      pure { x with f := m, r := x.r.push r })

/-- Exchange two rows. -/
def Mat.swap (m : Mat) (i j : Nat) : Mat :=
  if i = j then m
  else (List.range m.cols).foldl (fun (t : Mat) c => (t.set i c (m.get j c)).set j c (m.get i c)) m

/-- The row with the largest magnitude in column `k` from row `k` down, the lowest on a tie (R328). -/
def pivotRow (n k : Nat) (m : Mat) : Nat :=
  ((List.range (n - 1 - k)).map (· + k + 1)).foldl (fun b i => if absLt64 (m.get b k) (m.get i k) then i else b) k

/-- LU with partial pivoting: L below the diagonal, U on and above it.
[DEDUCED, log entry 44] -/
def luFactor (n eps : Nat) (a : Mat) : Fact :=
  factorRun n (Fact.start a)
    (fun x k =>
      let b := pivotRow n k x.f
      let s := x.f.swap k b
      some ({ x with f := s, perm := x.perm ++ [b] }.hold (clampPiv eps (s.get k k) k x.piv)))
    (fun x k => do
      let r ← recip64 x.d
      let m ← (after n k).foldlM (fun (m : Mat) i => do
        let l ← mul64 (m.get i k) r
        (after n k).foldlM (fun (t : Mat) c => do
          let v ← fma64 (neg64 l) (t.get k c) (t.get i c)
          pure (t.set i c v)) (m.set i k l)) (x.f.set k k x.d)
      pure { x with f := m, r := x.r.push r })

/-! ### Solves, one right-hand side at a time -/

/-- Forward substitution with the lower triangle; `unit` leaves the diagonal out. -/
def forwardSolve (n : Nat) (x : Fact) (unit : Bool) (b : List Nat) : Option (List Nat) :=
  (List.range n).foldlM (fun y i => do
    let v ← subDot (b.getD i 0) (termsBelow i (x.f.get i) (y.getD · 0))
    let w ← if unit then some v else mul64 v (x.r.getD i 0)
    pure (y ++ [w])) []

/-- Back substitution: row `i` of the upper triangle is given by `u i`. -/
def backSolve (n : Nat) (r : Array Nat) (u : Nat → Nat → Nat) (unit : Bool) (b : List Nat) : Option (List Nat) :=
  (List.range n).foldlM (fun y t => do
    let i := n - 1 - t
    let v ← subDot (b.getD i 0) ((List.range (n - 1 - i)).map (fun k => (u i (i + 1 + k), y.getD k 0)))
    let w ← if unit then some v else mul64 v (r.getD i 0)
    pure (w :: y)) []

/-- The solve of LLᵀ. -/
def lltSolve (n : Nat) (x : Fact) (b : List Nat) : Option (List Nat) := do
  let y ← forwardSolve n x false b
  backSolve n x.r (fun i k => x.f.get k i) false y

/-- The solve of LDLᵀ. -/
def ldltSolve (n : Nat) (x : Fact) (b : List Nat) : Option (List Nat) := do
  let y ← forwardSolve n x true b
  let z ← (List.range n).mapM (fun i => mul64 (y.getD i 0) (x.r.getD i 0))
  backSolve n x.r (fun i k => x.f.get k i) true z

/-- Exchange two elements of a list. -/
def swapList (l : List Nat) (i j : Nat) : List Nat := (l.set i (l.getD j 0)).set j (l.getD i 0)

/-- The solve of LU. -/
def luSolve (n : Nat) (x : Fact) (b : List Nat) : Option (List Nat) := do
  let pb := (x.perm.foldl (fun (a : Nat × List Nat) p => (a.1 + 1, swapList a.2 a.1 p)) (0, b)).2
  let y ← forwardSolve n x true pb
  backSolve n x.r (fun i k => x.f.get i k) false y

/-- The factor of a triangular solve, and of QR's R: its diagonal clamped, and the reciprocals. -/
def triFactor (n eps : Nat) (a : Mat) : Fact :=
  factorRun n (Fact.start a) (fun x i => some (x.hold (clampPiv eps (a.get i i) i x.piv)))
    (fun x _ => (recip64 x.d).map (fun r => { x with r := x.r.push r }))

/-- The triangular solve. -/
def triSolve (n : Nat) (upper : Bool) (x : Fact) (b : List Nat) : Option (List Nat) :=
  if upper then backSolve n x.r (fun i k => x.f.get i k) false b else forwardSolve n x false b

/-- Column `c` of a matrix of `r` rows. -/
def Mat.col (m : Mat) (r c : Nat) : List Nat := (List.range r).map (fun i => m.get i c)

/-- ‖B − AX‖_F, over the residuals in row-major order. -/
def residual (m n k : Nat) (a b x : Mat) : Option Nat := do
  let rs ← (List.range m).mapM (fun i => (List.range k).mapM (fun c =>
    subDot (b.get i c) ((List.range n).map (fun j => (a.get i j, x.get j c)))))
  let q ← sumSq rs.flatten
  sqrt64 q

end Sys2Proof.Machine
end

