-- ==== Sys2Proof/Machine/TheoOps.lean ====
section
/-! DEFINITION. Theodolite (chapter 11): programs, templates, measurements, problems, write-back. -/
namespace Sys2Proof.Machine

/-! ### Programs and templates (R321 to R323, R330) -/

def pWbNs (w : Nat) : Nat := bitsOf 511 480 w
def pLambda0 (w : Nat) : Nat := bitsOf 479 448 w
def pUp (w : Nat) : Nat := bitsOf 447 416 w
def pDown (w : Nat) : Nat := bitsOf 415 384 w
def pEpsAbs (w : Nat) : Nat := bitsOf 383 320 w
def pOutAlloc (w : Nat) : Nat := bitsOf 319 304 w
def pOutOff (w : Nat) : Nat := bitsOf 303 256 w
def pInAlloc (w : Nat) : Nat := bitsOf 255 240 w
def pInOff (w : Nat) : Nat := bitsOf 239 192 w
def pWarmAlloc (w : Nat) : Nat := bitsOf 191 176 w
def pWarmOff (w : Nat) : Nat := bitsOf 175 128 w
def pBatch (w : Nat) : Nat := bitsOf 127 112 w
def pIter (w : Nat) : Nat := bitsOf 111 104 w
def pEpsExp (w : Nat) : Nat := bitsOf 103 96 w
def pCal (w : Nat) : Bool := w.testBit 91
def pPose (w : Nat) : Bool := w.testBit 90
def pFact (w : Nat) : Bool := w.testBit 89
def pEpsMode (w : Nat) : Bool := w.testBit 88
def pKind (w : Nat) : Nat := bitsOf 87 80 w
def pTpl (w : Nat) : Nat := bitsOf 79 72 w

def tMask (w : Nat) : Nat := bitsOf 511 448 w
def tWindow (w : Nat) : Nat := bitsOf 447 416 w
def tX0Alloc (w : Nat) : Nat := bitsOf 415 400 w
def tX0Off (w : Nat) : Nat := bitsOf 399 352 w
def tNpose (w : Nat) : Nat := bitsOf 335 328 w
def tNblk (w : Nat) : Nat := bitsOf 327 320 w
def tNbind (w : Nat) : Nat := bitsOf 319 312 w
def tK (w : Nat) : Nat := bitsOf 311 304 w
def tM (w : Nat) : Nat := bitsOf 303 296 w
def tN (w : Nat) : Nat := bitsOf 295 288 w
def tSrc (w : Nat) : Nat := bitsOf 287 280 w

/-- A program's 64 bytes. -/
def State.thProg (s : State) (p : Nat) : Nat := leNat (s.obj (0x5640 + p))

/-- A template's bytes. -/
def State.thTpl (s : State) (t : Nat) : Bytes := s.obj (0x5600 + t)

/-- The header of the template of a program. -/
def State.thHead (s : State) (p : Nat) : Nat := leAt (s.thTpl (pTpl (s.thProg p))) 0 64

/-- A state block: type, index, first element, elements (R322). -/
structure Blk where
  ty : Nat
  idx : Nat
  off : Nat
  size : Nat

/-- The elements of a block type. -/
def blkSize (ty sz : Nat) : Nat := match ty with
  | 0 => 6 | 1 => 3 | 2 => 3 | 3 => 3 | 4 => 6 | 5 => 1 | _ => sz % 128

/-- The state blocks of a template. -/
def tplBlocks (b : Bytes) : List Blk :=
  (List.range (tNblk (leAt b 0 64))).map (fun i =>
    let w := leAt b (64 + 4 * i) 4
    { ty := bitsOf 31 24 w, idx := bitsOf 23 16 w, off := bitsOf 7 0 w, size := blkSize (bitsOf 31 24 w) (bitsOf 15 8 w) })

/-- The binding entries of a template. -/
def tplBinds (b : Bytes) : List Nat := (List.range (tNbind (leAt b 0 64))).map (fun i => leAt b (128 + 16 * i) 16)

def bMaxn (w : Nat) : Nat := bitsOf 63 48 w
def bBlkB (w : Nat) : Nat := bitsOf 47 40 w
def bBlkA (w : Nat) : Nat := bitsOf 39 32 w
def bSlot (w : Nat) : Nat := bitsOf 31 25 w
def bFk (w : Nat) : Nat := bitsOf 15 8 w

/-- Round up to a multiple. -/
def upTo (q n : Nat) : Nat := ceilDiv n q * q

/-- The local address of a region (R320). -/
def State.regionAddr (s : State) (id off : Nat) : Nat := match s.alloc id with
  | some a => a.base + off
  | none => off

/-- The bytes of one problem's input, output and warm record (R320, R335). -/
def sIn (h : Nat) : Nat := upTo 64 (8 * tM h * (tN h + tK h))
def factBytes (kind n : Nat) : Nat := match kind with
  | 0 => 8 * n * n | 1 => 8 * n * n | 2 => 8 * n * n | 3 => 8 * n * n + n | _ => 0
def sOut (w h : Nat) : Nat := upTo 64 (32 + 8 * tN h * tK h + (if pFact w then factBytes (pKind w) (tN h) else 0))
def sWarm (h : Nat) : Nat := 8 + 8 * tN h * tK h

/-- The problems of a wave that begins with `rest` problems remaining (R319). -/
def waveSize (h rest : Nat) : Nat :=
  min rest (98304 / max 1 (upTo 256 (8 * (tM h * (tN h + tK h) + 2 * tN h))))

/-- The structure code (R335). -/
def structCode (w h : Nat) : Nat :=
  crc32 (toLe 1 (pTpl w) ++ toLe 1 (tN h) ++ toLe 1 (tM h) ++ toLe 1 (tK h) ++ toLe 1 (pKind w) ++ toLe 3 0 ++ toLe 8 (tMask h))

/-- 8-byte words of some bytes. -/
def words64 (b : Bytes) : List Nat := (List.range (b.length / 8)).map (fun i => leAt b (8 * i) 8)

/-- All numbers are finite. -/
def allFin (l : List Nat) : Bool := l.all (fpFinite fp64)

/-! ### Units -/

/-- Change Theodolite's own state. -/
def State.mapTheo (s : State) (f : Theo → Theo) : State := s.mapDeep fun d => { d with th := f d.th }

/-- A unit's work. -/
def State.thUnit (s : State) (u : Nat) : Option ThUnit := smGet (fun _ => none) s.deep.th.units u

/-- Set a unit's work. -/
def State.setThUnit (s : State) (u : Nat) (x : Option ThUnit) : State :=
  s.mapTheo fun t => { t with units := smSet (fun _ => none) t.units u x }

/-- An event of R343: program and instance. -/
def State.thEvent (s : State) (code : Nat) (x : ThUnit) : State := s.event code 0 [(8, x.prog), (64, x.key.2.1)]

/-- A setting of 0x2900:03 to :09 as it is in force (R342 (b)). -/
def State.thSet (s : State) (k : Nat) : Nat := smGet regDefault s.deep.th.inForce k

/-- The settings that a task start puts in force. -/
def thSettings : List Nat :=
  [R.PROP_DT, R.GNSS_ORIGIN, R.CAL_SIG_POS, R.CAL_SIG_ATT, R.CAL_SIG_T, R.PROP_QP, R.PROP_QA]

/-- A task starts on a unit (R303, R342).
[DEDUCED, log entry 44] -/
def State.thStart (s : State) (u p : Nat) (key : Nat × Nat × Nat) : State :=
  let x : ThUnit := { key := key, prog := p, start := s.now, probs := List.replicate (pBatch (s.thProg p)) Prob.empty, wave := 0,
                      clampEv := false, ovfEv := false, warmEv := false }
  let f := thSettings.foldl (fun m k => smSet regDefault m k (s.rd k)) s.deep.th.inForce
  (((s.setThUnit u (some x)).mapTheo fun t => { t with inForce := f }).wr (R.TH_STATE u) 2).wr (R.TH_PROG u) p

/-! ### Measurement rings (R325) -/

/-- Insert by role. -/
def insertRole (e : Nat × Nat) : List (Nat × Nat) → List (Nat × Nat)
  | [] => [e]
  | x :: t => if e.1 < x.1 then e :: x :: t else x :: insertRole e t

/-- The 64 bytes of a ring entry: full time and up to 8 values in role order. -/
def State.ringBytes (s : State) (x : Sample) : Bytes :=
  let vs := (x.vals.foldl (fun l e => insertRole e l) []).map (·.2)
  toLe 16 (ftWord x.t s.timeFlags) ++ padTo 48 ((vs.take 8).flatMap (toLe 4))

/-- An accepted sample reaches Theodolite (R325, R337): its ring, and the propagator when it is of `PROP_SLOT`. -/
def State.theoSample (s : State) (x : Sample) : State :=
  let (a, n) := smGet (fun _ => (0, 0)) s.deep.th.rings x.slot
  let s1 := if a = 0 then s
    else ((s.writeMem (0x9000 + x.slot) (a + 64 * (n % 4096)) (s.ringBytes x) false).2).mapTheo fun t =>
      { t with rings := smSet (fun _ => (0, 0)) t.rings x.slot (a, n + 1) }
  if x.slot = s1.rd R.PROP_SLOT && s1.deep.th.base.isSome then s1.mapTheo fun t => { t with propQ := t.propQ ++ [x] } else s1

/-- The unit that writes the pose ring (R111, R337). -/
def State.ringWriter (s : State) : Nat := 0x4000 + s.rd R.PR_WRITER

/-- The Almanac copy of an instance (R326). -/
def State.thAlm (s : State) (c i : Nat) : Nat := if c = 0 then s.almOfEpoch i else s.almOfTime (s.cycOrigin c i)

/-- The addresses and times of a slot's ring entries, oldest first, with `T_OFF` applied (R326). -/
def State.ringTimes (s : State) (slot alm : Nat) : List (Nat × Int) :=
  let (a, n) := smGet (fun _ => (0, 0)) s.deep.th.rings slot
  let off : Int := sgnOf 32 (bitsOf 479 448 (s.slotRec alm slot)) * ftNs
  if a = 0 then []
  else (List.range (min n 4096)).map (fun k =>
    let e := a + 64 * ((n - min n 4096 + k) % 4096)
    (e, (ftLow (s.leAtMem e 16) : Int) + off))

/-- The interval of pose `j` (R326), from and to, in 2^−16 ns. -/
def State.poseInterval (s : State) (h c i j : Nat) : Int × Int :=
  let w : Int := tWindow h * ftNs
  let tj : Int := (s.cycOrigin c i : Int) - ((tNpose h : Int) - 1 - j) * w
  (tj - w, tj)

/-- Every `n`-th element from the first. -/
def everyNth (n : Nat) (l : List Nat) : List Nat :=
  ((List.range l.length).filter (fun i => i % max 1 n = 0)).filterMap (fun i => l[i]?)

/-- The pose that a binding's measurements belong to.
[DEDUCED, log entry 44] -/
def bindPose (bs : List Blk) (h w : Nat) : Nat :=
  let ps := [bBlkA w, bBlkB w].filterMap (fun i => (bs[i]?).bind (fun b => if b.ty ≤ 3 then some b.idx else none))
  match ps with
  | [] => tNpose h - 1
  | p :: r => r.foldl max p

/-- What the Assembler gathers: words, a missing binding, a poisoned word, samples overwritten. -/
structure Gather where
  ops : List Nat
  missing : Bool
  bad : Bool
  overrun : Bool
  s : State

/-- Read a range as words for the assembly. -/
def Gather.read (g : Gather) (agent a n : Nat) : Gather :=
  let r := g.s.readMem agent a n
  { g with ops := g.ops ++ words64 r.data, bad := g.bad || r.poison, s := r.s }

/-- The measurements of a binding on a slot (R326). -/
def State.gatherSlot (u h c i : Nat) (bs : List Blk) (w : Nat) (g : Gather) : Gather :=
  let s := g.s
  let alm := s.thAlm c i
  let slot := bSlot w
  let (lo, hi) := s.poseInterval h c i (bindPose bs h w)
  let ts := s.ringTimes slot alm
  let inside := (ts.filter (fun e => decide (lo ≤ e.2) && decide (e.2 < hi))).map (·.1)
  let n := (smGet (fun _ => (0, 0)) s.deep.th.rings slot).2
  let overrun := 4096 < n && (match ts with | e :: _ => decide (lo < e.2) | [] => false)
  if !(s.rd (R.SLOT_STATE slot) = 2) || inside.isEmpty then { g with missing := true, overrun := g.overrun || overrun }
  else
    let pick := if bMaxn w < inside.length then everyNth (ceilDiv inside.length (max 1 (bMaxn w))) inside else inside
    pick.foldl (fun x a => x.read (0x4000 + u) a 64)
      { g with ops := g.ops ++ [s.slotRec alm slot, pick.length], overrun := g.overrun || overrun }

/-- The voxel sets of a SCAN binding (R324 (b)): those of the epoch and of the one before. -/
def State.gatherScan (u c i : Nat) (g : Gather) : Gather :=
  let n := g.s.instEpoch c i
  let set := fun (x : Gather) (e : Nat) => match x.s.vset (e % 3) with
    | some v =>
      if v.epoch = e && v.phase = .built then
        let p := x.s.setPlace (e % 3)
        v.leaves.foldl (fun y l => y.read (0x4000 + u) (p.base + 32 * l.2) 32) (x.read (0x4000 + u) p.header 256)
      else { x with missing := true }
    | none => { x with missing := true }
  if n = 0 then { g with missing := true } else set (set g n) (n - 1)

/-- Gather what an assembled problem depends on (R324, R326).
[DESIGN CHOICE, log entry 43; DEDUCED, log entry 44] -/
def State.gather (s : State) (u p c i : Nat) : Gather :=
  let w := s.thProg p
  let b := s.thTpl (pTpl w)
  let h := leAt b 0 64
  let bs := tplBlocks b
  let prior := fun (x : Nat) => let z := ((bs[bBlkA x]?).map (·.size)).getD 0; 8 * (z + z * (z + 1) / 2)
  let x0 := s.regionAddr (tX0Alloc h) (tX0Off h)
  let r := (tplBinds b).foldl (fun (a : Nat × Gather) e =>
    if bFk e = 1 then
      (a.1, a.2.read (0x4000 + u) (s.regionAddr (pInAlloc w) (pInOff w)) (64 * bMaxn e))
    else if bFk e = 2 then (a.1 + prior e, a.2.read (0x4000 + u) (x0 + a.1) (prior e))
    else if bFk e = 6 then (a.1, State.gatherScan u c i a.2)
    else (a.1, State.gatherSlot u h c i bs e a.2)) (8 * tN h, ⟨[leNat b, w, s.cycOrigin c i, s.thSet R.GNSS_ORIGIN], false, false, false, s⟩)
  r.2

/-! ### Loading a problem (R329, R334 to R336) -/

/-- Set flag bits of a problem. -/
def Prob.flag (p : Prob) (m : Nat) : Prob := { p with flags := p.flags ||| m }

/-- A problem that is not computed (R329, R334). -/
def Prob.stop (p : Prob) (m : Nat) : Prob := { p.flag m with done := true }

/-- The warm record of a problem: usable, poisoned, its X (R335). -/
def State.warmRead (s : State) (u w h b : Nat) : Bool × Bool × List Nat × State :=
  let r := s.readMem (0x4000 + u) (s.regionAddr (pWarmAlloc w) (pWarmOff w) + b * sWarm h) (sWarm h)
  let x := words64 (r.data.drop 8)
  (leAt r.data 0 4 = structCode w h && allFin x, r.poison, x, r.s)

/-- Problem `b` of a unit with its input or its measurements, and its start (R320, R326, R334 to R336). -/
def State.readProb (s : State) (u : Nat) (x : ThUnit) (b : Nat) : Prob × Bool × State :=
  let w := s.thProg x.prog
  let h := s.thHead x.prog
  let n := tN h
  let nk := n * tK h
  let zeros := List.replicate nk 0
  let ag := 0x4000 + u
  let (hasWarm, warmOk, warmBad, wx, s1) : Bool × Bool × Bool × List Nat × State :=
    if pWarmAlloc w = 0 then (false, false, false, zeros, s)
    else let (ok, bad, y, t) := s.warmRead u w h b; (true, ok, bad, y, t)
  let rej := hasWarm && !warmOk && !warmBad
  let s2 := if rej then s1.bump R.WARM_REJ else s1
  let s3 := if rej && !x.warmEv then s2.thEvent 0x2903 x else s2
  let fl := 256 * boolNat (warmOk && !warmBad) + 4 * boolNat rej
  let p0 : Prob := { Prob.empty with loaded := true, flags := fl, lambda := fpRound fp64 (fpDy fp32 (pLambda0 w)) }
  let start := if warmOk && !warmBad then wx else zeros
  if tSrc h = 0 then
    let r := s3.readMem ag (s3.regionAddr (pInAlloc w) (pInOff w) + b * sIn h) (8 * tM h * (n + tK h))
    let ws := words64 r.data
    let p := { p0 with h := ws.take (tM h * n), g := ws.drop (tM h * n), cur := start, best := start }
    (if warmBad || r.poison then p.stop 128 else if !allFin ws then p.stop 32 else p, rej, r.s)
  else
    let r := s3.readMem ag (s3.regionAddr (tX0Alloc h) (tX0Off h)) (8 * n)
    let x0 := words64 r.data
    let g := r.s.gather u x.prog x.key.1 x.key.2.1
    let (d, s4) := g.s.draw
    let s5 := if g.overrun then (s4.bumpN R.MEAS_OVR (1 + d % 4096)).thEvent 0x2908 x else s4
    let cur := if pKind w = 7 || pKind w ≤ 4 then start else if warmOk && !warmBad then wx else x0
    let p := { p0 with ops := g.ops, cur := cur, best := cur, flags := fl + 512 * boolNat g.missing, g := x0 }
    (if warmBad || r.poison || g.bad then p.stop 128
     else if !allFin x0 then { p with best := zeros }.stop 32 else p, rej, s5)

/-- Load problem `b` of a unit into its matrix store, whose write takes an armed flip mask of class 10; the parity error that
the computation then reads is D060 and stops the problem (R334, R404, R419).
[DESIGN CHOICE, log entry 12] -/
def State.loadProb (s : State) (u : Nat) (x : ThUnit) (b : Nat) : Prob × Bool × State :=
  let r := s.readProb u x b
  if s.flipBreaks 10 then
    (r.1.stop 128, r.2.1, ((((r.2.2.disarmFlip 10).bump (R.TH_PARITY u)).bump (R.UE_CNT 10)).detect 60 (0x4000 + u) []))
  else (r.1, r.2.1, r.2.2.disarmFlip 10)

/-! ### Writing back (R320, R333, R335) -/

/-- +infinity. -/
abbrev inf64 : Nat := 0x7FF0000000000000

/-- The status word of a problem (R333).
[DEDUCED, log entry 44] -/
def State.probStatus (s : State) (x : ThUnit) (p : Prob) : Nat :=
  let w := s.thProg x.prog
  let h := s.thHead x.prog
  let lam := if pKind w = 6 then fpRound fp32 (fpDy fp64 p.lambda) else 0
  p.flags + p.nclamp * 2 ^ 64 + p.pivIdx * 2 ^ 72 + (min p.bestIter 255) * 2 ^ 80 + (min p.iters 255) * 2 ^ 88 +
    (min ((s.now - x.start) / ftNs) 0xFFFFFFFF) * 2 ^ 96 + lam * 2 ^ 128 + structCode w h * 2 ^ 160 +
    (p.bestCost.getD inf64) * 2 ^ 192

/-- The first of a kind of event in a task. -/
def State.thFirst (s : State) (x : ThUnit) (now_ seen : Bool) (code : Nat) : State :=
  if now_ && !seen then s.thEvent code x else s

/-- Write problem `b`: status, X, factor, warm record; the counters and events of its flags. -/
def State.writeProb (s : State) (u : Nat) (x : ThUnit) (b : Nat) (p : Prob) : ThUnit × State :=
  let w := s.thProg x.prog
  let h := s.thHead x.prog
  let ag := 0x4000 + u
  let bad := p.flags &&& 0xA2 ≠ 0
  let body := toLe 32 (s.probStatus x p) ++ padTo (8 * tN h * tK h) (p.best.flatMap (toLe 8)) ++
    (if pFact w then padTo (factBytes (pKind w) (tN h)) p.factor else [])
  let s1 := (s.writeMem ag (s.regionAddr (pOutAlloc w) (pOutOff w) + b * sOut w h) body false).2
  let code := if bad then structCode w h ^^^ 0xFFFFFFFF else structCode w h
  let s2 := if pWarmAlloc w = 0 then s1
    else (s1.writeMem ag (s1.regionAddr (pWarmAlloc w) (pWarmOff w) + b * sWarm h)
      (toLe 8 code ++ padTo (8 * tN h * tK h) (p.best.flatMap (toLe 8))) false).2
  let clamp := p.flags.testBit 0
  let ovf := p.flags.testBit 1 || p.flags.testBit 5
  let s3 := if clamp then s2.bump R.CLAMP_CNT else s2
  let s4 := if ovf then s3.bump R.OVF_CNT else s3
  let s5 := ((s4.thFirst x clamp x.clampEv 0x2901).thFirst x ovf x.ovfEv 0x2902)
  let s6 := if p.flags.testBit 7 then s5.thEvent 0x2907 x else s5
  ({ x with clampEv := x.clampEv || clamp, ovfEv := x.ovfEv || ovf, probs := x.probs.set b { p with written := true } },
   s6.add64 (R.TH_PROBLEMS u) 1)

/-- Write the problems of a range that are not written. -/
def State.writeProbs (s : State) (u : Nat) (x : ThUnit) (bs : List Nat) : ThUnit × State :=
  bs.foldl (fun (a : ThUnit × State) b => match a.1.probs[b]? with
    | some p => if p.written then a else a.2.writeProb u a.1 b p
    | none => a) (x, s)

end Sys2Proof.Machine
end

