-- ==== Sys2Proof/Machine/Hooks.lean ====
section
/-! DEFINITION. The schedule image as Keeper brings it into memory (R282, R491). -/
namespace Sys2Proof.Machine

/-- `IMG_LOAD` and Keeper's own load begin an admission: one is running (R282). -/
def State.imageCheck (s : State) : State :=
  (s.wr R.IMG_STATUS 1).mapTt fun t => { t with checking := true }

/-- A byte of the boot flash.
[DEDUCED, log entry 59] -/
def State.flashByte (s : State) (a : Nat) : Byte := smGet (fun _ => 0) s.nv.flash a

/-- Keeper copies the schedule image of the flash (`SCHED_OFF`, its length in its own header) into DRAM and admits
it (R282, R491). Where in DRAM it places it is free.
[DESIGN CHOICE, log entry 41] -/
def State.loadSchedule (s : State) : State :=
  let off := s.power.schedOff
  let a := Config.flashImagePage % 2 ^ 22 * 4096
  let len := leNat ((List.range 8).map (fun i => s.flashByte (off + 24 + i)))
  let img := (List.range (min len 16777216)).map (fun i => s.flashByte (off + i))
  let s1 := { s with power := { s.power with schedOff := 0 } }
  (((s1.writeMem 0x6000 a img false).2).wr R.IMG_ADDR a).imageCheck

/-- The rollback counter and version of the installed image (R283); none when no image is admitted. -/
def State.imageRollback (s : State) : Option (Nat × Nat) :=
  if s.deep.tt.loaded then some (s.deep.tt.rbIndex, s.deep.tt.rbValue) else none

end Sys2Proof.Machine
end

