-- ==== Sys2Proof/Machine/Boot.lean ====
section
/-! DEFINITION. Reset pins, the boot ROM, Keeper's start and the initialisation pass (chapters 14, 17, 19). -/
namespace Sys2Proof.Machine

/-! ### Reset (R535 to R537) -/

/-- The dictionary registers that a `SYSRST_N` reset keeps: Meridian's own state, the reset count (R536).
[DEDUCED, log entry 56] -/
def keptAtSysrst (k : Nat) : Bool :=
  k = R.MER_STATE || k = R.RATE_ADJ || k = R.STEP_COUNT || k = R.LAST_STEP || k = R.RST_COUNT

/-- Everything a reset loses, at its reset value; what each kind of reset keeps is put back (R536). `PORST_N` keeps the
non-volatile contents alone; `SYSRST_N` also Meridian, the TCLK count, PD00's own state and FAILED_REPLACE, which ends
only at `PORST_N` (R511).
[DEDUCED, log entry 56] -/
def State.resetAll (s : State) (porst : Bool) : State :=
  let base := { State.reset with variant := s.variant, nv := s.nv, free := s.free, pending := s.pending, out := s.out }
  if porst then base
  else
    let failed := s.rd R.DEV_STATE = 4
    let s1 := { base with tclk := s.tclk, clock := s.clock,
                          mer := { Mer.reset with freq := s.mer.freq, adjSum := s.mer.adjSum },
                          dict := smDrop (fun k => !keptAtSysrst k) s.dict,
                          dome := { Dome.reset with level2Since := s.dome.level2Since, keysErased := s.dome.keysErased },
                          power := { Power.reset with refInternal := s.power.refInternal,
                                                      vppFuse := s.power.vppFuse, startTclk := s.tclk } }
    if failed then (s1.wr R.DEV_STATE 4).wr R.FAULT_CAUSE (s.rd R.FAULT_CAUSE &&& 16) else s1

/-! ### The boot ROM (R491 to R494) -/

/-- A fuse key slot (R488). -/
def State.fuseSlot (s : State) (k : Nat) : FuseSlot := smGet fuseSlotDflt s.nv.slots k

/-- A rollback counter (R495). -/
def State.rollback (s : State) (i : Nat) : Nat := smGet (fun _ => 0) s.nv.rollback i

/-- Extend a measurement register by 64 bytes (R496); shorter contents are padded with zeros.
[DEDUCED, log entry 56] -/
def State.extendMr (s : State) (i : Nat) (e : Bytes) : State :=
  s.wr (R.MR (i + 1)) (leNat (shake256 (toLe 64 (s.rd (R.MR (i + 1))) ++ padTo 64 e) 64))

/-- The contents MR0 is extended with (R491 step 2). -/
def State.mr0Contents (s : State) : Bytes :=
  toLe 4 s.nv.romVer ++
  (List.range 4).flatMap (fun k => let f := s.fuseSlot k; padTo 57 f.pub ++ toLe 1 f.use ++ toLe 1 (boolNat f.revoked)) ++
  (List.range 64).map (fun i => BitVec.ofNat 8 (s.rollback i))

/-- A slot verifies nothing unless it is not blank, not revoked and has the use bit (R488). -/
def FuseSlot.mayUse (f : FuseSlot) (bit : Nat) : Bool := f.use ≠ 0 && !f.revoked && f.use.testBit bit

/-- A byte of the staging area in Keeper SRAM (R494).
[DEDUCED, log entry 56] -/
def State.stageByte (s : State) (a : Nat) : Byte := smGet (fun _ => 0) s.dome.staging a

/-- The check of a boot copy (R492, R493), given its bytes: the code and, when accepted, the image. Under host boot the
copy and its key store must lie in the staging area (R494). -/
def State.checkCopy (s : State) (byte : Nat → Byte) (host : Bool) : Nat × Option BootImage :=
  let h := (List.range 256).map byte
  let len := leAt h 24 8
  let slot := leAt h 34 1
  let rbI := leAt h 35 1
  let rbV := leAt h 36 4
  let repN := leAt h 47 1
  let fwLen := leAt h 52 4
  let fwOff := leAt h 56 8
  let repOff := leAt h 64 8
  let ctrOff := leAt h 72 8
  let keysOff := leAt h 80 8
  let fmt :=
    256 ≤ len && len ≤ 8388608 && 4096 ≤ fwLen && fwLen ≤ 1572864 && repN ≤ 128 && fwOff % 4096 = 0 && rbI < 64 &&
    fwOff + fwLen ≤ len && (repOff = 0 || repOff + 8 * repN ≤ len) && (keysOff = 0 || len ≤ keysOff) &&
    (host || ctrOff = 0 || len ≤ ctrOff) &&
    (!host || (len ≤ 2096640 && (keysOff = 0 || keysOff + 512 ≤ 2097152)))
  if leAt h 0 4 ≠ 0x4B564231 then (1, none)
  else if !fmt then (2, none)
  else if 4 ≤ slot || !(s.fuseSlot slot).mayUse 0 then (3, none)
  else if !edVerify (s.fuseSlot slot).pub (shake256 (h.take 142) 64) (h.drop 142) then (4, none)
  else if rbV < s.rollback rbI then (5, none)
  else if shake256 ((List.range (len - 256)).map (fun i => byte (256 + i))) 32 ≠ slice h 96 32 then (6, none)
  else
    let rep := if repOff = 0 then []
      else (List.range repN).map (fun i => leNat ((List.range 8).map (fun j => byte (repOff + 8 * i + j))))
    let ks := if keysOff = 0 then [] else (List.range 512).map (fun i => byte (keysOff + i))
    (0, some { header := h, rbIndex := rbI, rbValue := rbV, schedOff := if host then 0 else leAt h 88 8,
               repair := rep, keyStore := ks })

/-- An accepted copy (R491 steps 5 and 6): MR1 and MR2, the key store, the counter record; Keeper is released.
[DEDUCED, log entry 56] -/
def State.acceptCopy (s : State) (b : BootImage) (host : Bool) (puf : Bool) : State :=
  let s1 := (s.extendMr 1 (shake256 b.header 64)).extendMr 1 (slice b.header 96 32)
  let s2 := (s1.extendMr 2 (shake256 (b.repair.flatMap (fun e => toLe 8 e)) 64)).extendMr 2 (shake256 b.keyStore 64)
  let keys : SMap CmdKey :=
    if !puf then []
    else if host then
      if b.keyStore = [] then []
      else ((Config.unwrapKeyStore (leNat b.keyStore)).take 8).foldl (fun (m : Nat × SMap CmdKey) e =>
        (m.1 + 1, smSet (fun _ => CmdKey.none) m.2 m.1 { key := toLe 32 e.1, scope := e.2.1, gen := e.2.2.1,
                                                         st := e.2.2.2 })) (0, []) |>.2
    else s.nv.flashKeys
  let rc := if host then 0 else s.nv.flashRc
  ({ s2 with dome := { s2.dome with boot := some b, hostBoot := host, keys := keys, rc := rc } }.wr R.CMD_CTR rc).wr
    R.FW_RB b.rbValue

/-- Neither copy was accepted (R493): `FAULT_N`, and Dome waits for a host boot. -/
def State.bootFailed (s : State) : State :=
  (((s.wr R.FAULT_CAUSE (setBit (s.rd R.FAULT_CAUSE) 2)).wr R.DOME_STATE 1).wr R.BOOT_COPY 2)

/-- Step 4 of R491 under flash boot. -/
def State.flashBoot (s : State) (env : BootEnv) : State :=
  if !env.flashOk || !s.nv.flashPresent then (s.wr R.BOOT_STATUS 0x77).bootFailed
  else
    let (ca, ba) := s.checkCopy (fun i => s.flashByte i) false
    match ba with
    | some b => ((s.wr R.BOOT_STATUS (0xF0 + ca)).wr R.BOOT_COPY 0).acceptCopy b false env.pufOk
    | none =>
      let (cb, bb) := s.checkCopy (fun i => s.flashByte (0x800000 + i)) false
      let s1 := s.wr R.BOOT_STATUS (ca + 16 * cb)
      match bb with
      | some b =>
        let s2 := (s1.wr R.BOOT_COPY 1).acceptCopy b false env.pufOk
        { s2 with power := { s2.power with bootB := true } }
      | none => s1.bootFailed

/-- The boot ROM's sequence after a release (R490, R491). -/
def State.romBoot (s : State) (env : BootEnv) : State :=
  let s0 := { s with power := { s.power with booted := true, porstLow := false } }.wr R.PIN_BOOT (boolNat env.hostBoot)
  if !env.fuseOk then
    ((s0.detect 72 0 []).wr R.FAULT_CAUSE (setBit (s0.rd R.FAULT_CAUSE) 2)).wr R.DOME_STATE 3
  else
    let s1 := if env.pufOk then s0 else (s0.detect 70 0 []).wr R.DOME_FLT (setBit (s0.rd R.DOME_FLT) 0)
    let s2 := if env.trngOk then s1 else (s1.detect 71 0 []).wr R.DOME_FLT (setBit (s1.rd R.DOME_FLT) 1)
    let s3 := s2.extendMr 0 (shake256 s2.mr0Contents 64)
    let s4 := { s3 with mem := { s3.mem with openMask := setBit s3.mem.openMask 167 } }.wr R.MEM_INIT
      (setBit (s3.rd R.MEM_INIT) 6)
    if env.hostBoot then (s4.wr R.DOME_STATE 1).wr R.BOOT_COPY 2
    else s4.flashBoot env

/-- `PORST_N_RELEASE` (R491): the release starts the ROM sequence, once. -/
def execPorstNRelease (env : BootEnv) (s : State) : Host.Outcome State Fault Refusal :=
  if s.power.booted && !s.power.porstLow then .next s.fresh else .next (s.after (s.fresh.romBoot env))

/-- `PORST_N_ASSERT` (R535, R536): a pulse shorter than 200 ns is ignored; otherwise the whole device is in reset until
the release. -/
def execPorstNAssert (lowNs : Nat) (s : State) : Host.Outcome State Fault Refusal :=
  if lowNs < 200 then .next s.fresh
  else
    let s1 := s.fresh.resetAll true
    .next { s1 with power := { s1.power with porstLow := true } }

/-- A `SYSRST_N` pulse or `SW_RESET` (R535 to R537): Meridian goes to HOLDOVER, the rest is reset, the boot restarts. -/
def State.sysReset (s : State) (cause : Nat) (env : BootEnv) : State :=
  let n := s.rd R.RST_COUNT + 1
  let s1 := (s.merHoldover).resetAll false
  ((s1.wr R.RST_CAUSE cause).wr R.RST_COUNT n).romBoot env

/-- `SYSRST_N_ASSERT` (R535, R536): a pulse shorter than 200 ns is ignored. -/
def execSysrstNAssert (lowNs : Nat) (env : BootEnv) (s : State) : Host.Outcome State Fault Refusal :=
  s.run fun s => if lowNs < 200 then s else s.sysReset 2 env

/-- The own check of a commit of `SW_RESET` (R535): a BOOLEAN. -/
def swResetCheck (v : Bytes) (_ : State) : Nat := if leNat v ≤ 1 then 0 else 0x2004

/-- The effect of a committed `SW_RESET` of 1 (R535). -/
def swResetApply (env : BootEnv) (v : Bytes) (s : State) : State := if leNat v = 1 then s.sysReset 3 env else s

/-- `SW_RESET` (R535). -/
def execSwReset (r : Route) (cr : CommitRec) (env : BootEnv) (s : State) : Host.Outcome State Fault Refusal :=
  s.run fun s => s.commit r.val 0x3000 0x10 cr swResetCheck (swResetApply env)

/-- `PLL_LOCK` (R533): the lock bit of the clock is set, and its domain leaves reset. -/
def execPllLock (clk : Fin 8) (s : State) : Host.Outcome State Fault Refusal :=
  s.run fun s => s.wr R.CLK_LOCK (setBit (s.rd R.CLK_LOCK) clk.val)

/-! ### Keeper's start (R421, R491, R526, R538) -/

/-- One entry of the repair list (R421): the row is repaired, or the entry is refused and skipped. -/
def State.applyRepair (s : State) (e : Nat) : State :=
  if !e.testBit 63 then s
  else
    let stack := bitsOf 59 59 e
    let row := bitsOf 59 36 e
    let bank := bitsOf 59 51 e
    let used := smGet (fun _ => 0) s.mem.repPerBank bank + smGet (fun _ => 0) s.nv.fuseRows bank
    let k := R.SOFT_REP stack
    if (s.variant = 1 && stack = 1) || s.mem.repaired.contains row || 8 ≤ used || 64 ≤ s.rd k then
      (s.bump (R.SOFT_REJ stack)).detect 15 0 [(64, e)]
    else
      { s with mem := { s.mem with repaired := s.mem.repaired ++ [row],
                                   repPerBank := smSet (fun _ => 0) s.mem.repPerBank bank
                                     (smGet (fun _ => 0) s.mem.repPerBank bank + 1) } }.wr k (s.rd k + 1)

/-- The domains Keeper firmware switches on at its start: every one present but PD04 and PD05 (R526). -/
def keeperDomains (variant : Nat) : List Nat :=
  (bitsSet 32 (pdAvail variant)).filter (fun d => 6 ≤ d)

/-- Keeper zeroes queue memory while the pass runs (R380, R406). -/
def State.zeroQueueMem (s : State) : State :=
  let p := fun a => regionOf s.variant a = .queueMem
  { s with mem := { s.mem with bytes := smDrop p s.mem.bytes, werr := smDrop (fun k => 2 ^ 48 ≤ k) s.mem.werr } }.wr
    R.MEM_INIT (setBit (s.rd R.MEM_INIT) 8)

/-- Keeper firmware of the boot image starts: the repair list, the flash's test block, the DRAM's training, the pass over
queue memory, and the domains it switches on. -/
def State.startKeeper (s : State) (b : BootImage) (testBlockOk trained : Bool) : State :=
  let s1 := ({ s with diag := { s.diag with keeperRun := true } }.wr R.DOME_STATE 2).setDev 1
  let s2 := if s1.power.bootB then s1.event 0x2E04 0 [] else s1
  let s3 := b.repair.foldl State.applyRepair s2
  let s4 := if s3.dome.hostBoot || testBlockOk then s3 else (s3.wr R.QSPI_RATE 0).event 0x3003 0 []
  let s5 := if trained then s4 else (s4.detect 16 0 []).failDevice
  let s6 := s5.zeroQueueMem
  { s6 with power := { s6.power with switching := keeperDomains s6.variant, passesOn := true, schedOff := b.schedOff } }

/-- `KEEPER_START` (R406, R421, R491, R511, R526, R539). -/
def execKeeperStart (testBlockOk trained : Bool) (s : State) : Host.Outcome State Fault Refusal :=
  s.run fun s => match s.dome.boot with
    | none => s
    | some b => if s.diag.keeperRun then s else s.startKeeper b testBlockOk trained

/-- A store's pass is complete (R406, R407): its words are zero with correct check bits, it opens, and the class's bit
is set when every store of the class on the variant is open. -/
def State.openStore (s : State) (n : Nat) : State :=
  let s1 := s.clearStore n
  let s2 := { s1 with mem := { s1.mem with openMask := setBit s1.mem.openMask n } }
  let c := classOfStore n
  if (storesOfClass c).all (fun m => s2.storeOpen m || !storePresent s2.variant m) then
    s2.wr R.MEM_INIT (setBit (s2.rd R.MEM_INIT) c)
  else s2

/-- A store's pass may end: it is one of the variant's, closed, its domain is powered, and Keeper has begun the pass. -/
def State.passRuns (s : State) (n : Nat) : Bool :=
  storePresent s.variant n && n ≠ 167 && s.power.passesOn && !s.storeOpen n &&
    (s.pdOn (domainOfStore n) || s.power.switching.contains (domainOfStore n))

/-- The store opens; Keeper loads the schedule image of the flash when the DRAM is ready (R491, R538). -/
def State.passComplete (s : State) (n : Nat) : State :=
  let s1 := s.openStore n
  if s1.power.schedOff ≠ 0 && s1.storeOpen 0 && (s1.variant = 1 || s1.storeOpen 1) then s1.loadSchedule else s1

/-- `INIT_PASS_COMPLETE` (R406, R407): once Keeper has begun the pass, a store of its powered domain opens; a failed
read-back is D017. -/
def execInitPassComplete (store : Fin 169) (readBackOk : Bool) (s : State) : Host.Outcome State Fault Refusal :=
  s.run fun s =>
    if !s.passRuns store.val then s
    else if !readBackOk || s.injArmed 17 store.val then ((s.injHere 17 store.val).detect 17 0 []).failDevice
    else s.passComplete store.val

/-- The effect of a write of 1 to `BOOT_GO` (R494): the host's copy is checked as copy A and runs in place; once Keeper runs
the write aborts with `BOOT_DONE`. -/
def State.bootGo (s : State) : State × Nat :=
  if s.diag.keeperRun || s.dome.boot ≠ none then (s, 0x2E09)
  else if s.rd R.DOME_STATE ≠ 1 then (s, 0)
  else
    let (c, b) := s.checkCopy (fun i => s.stageByte i) true
    let old := s.rd R.BOOT_STATUS
    let s1 := s.wr R.BOOT_STATUS (if s.rd R.PIN_BOOT = 1 then 0xF0 + c else old)
    match b with
    | some b => ((s1.wr R.BOOT_COPY 2).acceptCopy b true (!(s1.rd R.DOME_FLT).testBit 0), 0)
    | none => (s1, 0)

/-- `BOOT_GO` (R494). -/
def execBootGo (r : Route) (s : State) : Host.Outcome State Fault Refusal :=
  s.run fun s => s.hostWrite r.val 0x2E00 0x0C (toLe 1 1) State.bootGo

end Sys2Proof.Machine
end

