-- ==== Sys2Proof/Machine/HostCmds.lean ====
section
/-! DEFINITION. The PCI Express function, the DMA channels and the answers of remote accesses (R425 to R442, R448, R452). -/
namespace Sys2Proof.Machine

/-- Change the host interface's own state. -/
def State.mapHost (s : State) (f : HostIf → HostIf) : State := { s with host := f s.host }

/-! ### The PCI Express function (R428 to R430, R442) -/

/-- Send the held messages that nothing holds any more (R430, R442).
[PRESUMED, log entry 47] -/
def State.sendHeld (s : State) : State :=
  (s.host.vecPend.filter (fun e => e.2)).foldl (fun t e =>
    if smGet (fun _ => true) t.host.vecMask e.1 || t.host.funcMask || !t.host.bme || t.host.d3hot then t
    else (t.mapHost fun h => { h with vecPend := smSet (fun _ => false) h.vecPend e.1 false }).emit (.msix e.1)) s

/-- A channel in ring mode halts with `HOST_RESET` at a reset of the function (R429, R441). No address failed: `DMA_FAULT` is
free.
[PRESUMED, log entry 47] -/
def State.dmaHostReset (s : State) (c : Nat) : State :=
  if s.rd (R.DMA_MODE c) = 2 && s.rd (R.DMA_STATE c) ≠ 2 then let (v, s1) := s.draw; s1.dmaHalt c 7 (v % 2 ^ 64) else s

/-- A reset of the function or a link that goes down (R429).
[PRESUMED, log entry 47] -/
def State.pcieReset (s : State) (kind : PcieResetKind) : State :=
  let s1 := s.mapHost fun h =>
    { h with bme := false, d3hot := false, funcMask := false, vecMask := [], vecPend := [], readAhead := [], dpRun := none }
  let s2 := ((s1.ownerReset 0x7000).ownerReset 0x7001).wr R.DP_ADDR 0 |>.wr R.DP_CTRL 0
  let s3 := { s2 with queues := s2.queues.map (fun e =>
    (e.1, match e.2.wait with
      | some w => if w.agent = 0x7001 then { e.2 with wait := none } else e.2
      | none => e.2)) }
  let s4 := (List.range 64).foldl State.dmaHostReset s3
  let s5 := match kind with
    | .hotReset => s4.wr R.PCIE_STATE 1
    | .functionLevel => s4
    | .linkDown => s4.wr R.PCIE_STATE 0
  (s5.bump R.PCIE_RESETS).event 0x2D01 0 []

/-- `PCIE_RESET` (R429).
[PRESUMED, log entry 47] -/
def execPcieReset (kind : PcieResetKind) (s : State) : Host.Outcome State Fault Refusal := s.run fun s => s.pcieReset kind

/-- The widths a link trains at (R425). -/
def laneWidth (w : Nat) : Bool := w = 1 || w = 2 || w = 4 || w = 8

/-- `PCIE_TRAINED` (R425, R428). -/
def execPcieTrained (gen : Fin 5) (width : Fin 9) (s : State) : Host.Outcome State Fault Refusal :=
  s.run fun s =>
    if gen.val = 0 || !laneWidth width.val || !s.entryPowered 0x2D00 then s
    else
      let s1 := ((s.wr R.PCIE_STATE 2).wr R.PCIE_SPEED gen.val).wr R.PCIE_WIDTH width.val
      if gen.val < 4 || width.val < 8 then s1.event 0x2D02 0 [] else s1

/-- `PCIE_UNCORRECTABLE` (R430): D032. -/
def execPcieUncorrectable (s : State) : Host.Outcome State Fault Refusal := s.run fun s => ((s.injHere 32 0).bump R.AER_UE).detect 32 0 []

/-- `CORRECTABLE_AER_ERROR` (R430). -/
def execCorrectableAerError (s : State) : Host.Outcome State Fault Refusal := s.run fun s => s.bump R.AER_CE

/-- `BUS_MASTER_ENABLE` (R430): Bus Master Enable and the power state of the function, D0 or D3hot. -/
def execBusMasterEnable (bme d0 : Bool) (s : State) : Host.Outcome State Fault Refusal :=
  s.run fun s => (s.mapHost fun h => { h with bme := bme, d3hot := !d0 }).sendHeld

/-- `MSIX_UNMASK` (R442). -/
def execMsixUnmask (v : Fin 256) (s : State) : Host.Outcome State Fault Refusal :=
  s.run fun s => (s.mapHost fun h => { h with vecMask := smSet (fun _ => true) h.vecMask v.val false }).sendHeld

/-! ### The host's heartbeat (R452) -/

/-- A write of `HOST_HB`. -/
def State.hostBeat (s : State) : State := s.mapHost fun h => { h with hbTime := some s.tclk }

/-- `HOST_HB` (R452). -/
def execHostHb (r : Route) (s : State) : Host.Outcome State Fault Refusal :=
  s.run fun s => s.hostWrite r.val 0x2D00 5 [1] fun s => (s.hostBeat, 0)

/-- `HOST_TMO` (R452): the heartbeat has not come within `HOST_TMO`, and the host link is live no more. -/
def execHostTmo (s : State) : Host.Outcome State Fault Refusal :=
  s.run fun s => match s.host.hbTime with
    | some t => if s.tclk ≤ t + s.rd R.HOST_TMO * tclkUs then s else s.mapHost fun h => { h with hbTime := none }
    | none => s

/-! ### Remote accesses that end (R448) -/

/-- What a failed remote access does to the agent that made it (R191, R435, R441, R448). -/
def State.remoteFailed (s : State) (a : RemoteAcc) : State :=
  let s1 := s.bump R.REMOTE_FAIL
  let i := a.agent % 4096
  match a.agent / 4096 with
  | 0 => if a.write then s1.mapSpur i fun x => { x with failedWrite := true } else s1
  | 3 => s1.unitFailed a.agent
  | 4 => s1.unitFailed a.agent
  | 5 => s1.dmaHalt i 8 a.addr
  | 7 =>
    let s2 := (s1.wr R.DP_ERR 3).wr R.DP_ERR_ADDR a.addr
    if a.write then s2 else s2.emit (.hostRead i false false [])
  | _ => s1

/-- An access leaves the list of those in flight. -/
def State.dropRemote (s : State) (tag : Nat) : State :=
  s.mapHost fun h => { h with remote := h.remote.filter (fun a => a.tag ≠ tag) }

/-- `REMOTE_TIMEOUT` (R448): an access has waited 40 µs.
[DEDUCED, log entry 49] -/
def execRemoteTimeout (tag : BitVec 16) (s : State) : Host.Outcome State Fault Refusal :=
  s.run fun s => match s.host.remote.find? (fun a => a.tag = tag.toNat) with
    | none => s
    | some a => if s.tclk < a.start + 40 * tclkUs then s else (s.dropRemote a.tag).remoteFailed a

/-! ### DMA: the transfer record (R438) -/

def xfSrc (w : Nat) : Nat := bitsOf 255 192 w
def xfDst (w : Nat) : Nat := bitsOf 191 128 w
def xfLen (w : Nat) : Nat := bitsOf 127 96 w
def xfDone (w : Nat) : Nat := bitsOf 95 82 w
def xfCopy (w : Nat) : Nat := bitsOf 73 64 w
def xfStop (w : Nat) : Bool := w.testBit 5
def xfSig (w : Nat) : Bool := w.testBit 4
def xfDstHost (w : Nat) : Bool := w.testBit 3
def xfSrcHost (w : Nat) : Bool := w.testBit 2
def xfKind (w : Nat) : Nat := w % 4

/-- The record in a channel's hands. -/
def State.dmaCur (s : State) (c : Nat) : Option DmaCur := smGet (fun _ => none) s.host.dma c

/-- Set the record in a channel's hands. -/
def State.setDma (s : State) (c : Nat) (v : Option DmaCur) : State :=
  s.mapHost fun h => { h with dma := smSet (fun _ => none) h.dma c v }

/-- A channel halts where no address failed: `DMA_FAULT` is free.
[DEDUCED, log entry 48] -/
def State.dmaHaltFree (s : State) (c code : Nat) : State := let (v, s1) := s.draw; s1.dmaHalt c code (v % 2 ^ 64)

/-- What a channel read from local memory: the bytes up to the first poisoned word, and how the read ended: the code of R441
and the address. -/
structure DmaRead where
  data : Bytes
  fail : Option (Nat × Nat)
  s : State

/-- A read of local memory by a channel: it ends at the first poisoned word (R416, R441). -/
def State.dmaLocal (s : State) (c a n : Nat) : DmaRead :=
  let agent := 0x5000 + c
  match s.accStatus a n with
  | .unmapped => ⟨[], some (2, s.devAddr a), s⟩
  | .notInit => ⟨[], some (0xA, s.devAddr a), s.closedAccess agent a⟩
  | .ok =>
    match (wordsOf a n).find? (fun w => (s.wordOutcome w).isPoison) with
    | none => let r := s.readMem agent a n; ⟨r.data, none, r.s⟩
    | some w =>
      let r := s.readMem agent a (w - a)
      ⟨r.data, some (4, s.devAddr w), r.s.detectWord w agent (s.wordOutcome w)⟩

/-- The record at `DMA_HEAD` of a ring (R440). -/
def State.ringRecord (s : State) (c : Nat) : DmaRead :=
  let off := 32 * (s.rd (R.DMA_HEAD c) % 2 ^ s.rd (R.DMA_RING_LOG2 c))
  match s.alloc (s.rd (R.DMA_RING_ALLOC c)) with
  | none => let (v, s1) := s.draw; ⟨[], some (2, v % 2 ^ 64), s1⟩
  | some a => if a.size < off + 32 then ⟨[], some (2, s.devAddr (a.base + off)), s⟩ else s.dmaLocal c (a.base + off) 32

/-- A device range lies within one valid allocation (R439). The table holds this device's allocations: a range of another
device is not checked here.
[DEDUCED, log entry 48] -/
def State.inAlloc (s : State) (a n : Nat) (write : Bool) : Bool :=
  !s.isLocal a || s.allocs.any (fun e => match e.2 with
    | some x => x.base ≤ localPart a && localPart a + n ≤ x.base + x.size && (!write || x.writable)
    | none => false)

/-- The bytes of a linear record's source, as far as they came; `none` where a queue window has too few words yet (R385).
`far` is what the host or the other device answered. -/
def State.dmaSource (s : State) (c w : Nat) (far : Option Bytes) : Option DmaRead :=
  let a := xfSrc w
  let n := xfLen w
  if xfSrcHost w then
    match far with
    | none => some ⟨[], some (5, a), s⟩
    | some b => some ⟨b.take n, if b.length < n then some (5, a + b.length) else none, s⟩
  else if !s.isLocal a then
    let r := s.devRead (0x5000 + c) a n far
    some ⟨if r.poison then [] else r.data, if r.poison then some (8, a) else none, r.s⟩
  else match windowQueue false (localPart a) with
    | none => some (s.dmaLocal c (localPart a) n)
    | some _ =>
      let r := s.devRead (0x5000 + c) a n none
      match r.st with
      | .stall => none
      | .ok => some ⟨if r.poison then [] else r.data, if r.poison then some (4, a) else none, r.s⟩
      | _ => some ⟨[], some (2, a), r.s⟩

/-- Write the bytes of a linear record to its destination; the code and address of a failure. -/
def State.dmaDest (s : State) (c w : Nat) (data : Bytes) : Option (Nat × Nat) × State :=
  let a := xfDst w
  if data = [] then (none, s)
  else if xfDstHost w then (none, s.emit (.pcieWrite a data))
  else
    let (st, s1) := s.devWrite (0x5000 + c) a data false
    match st with
    | .ok => (none, s1)
    | .failed => (some (8, a), s1)
    | _ => (some (if s.accStatus (localPart a) data.length = .notInit then 0xA else 2, a), s1)

/-- Count the bytes a channel moved, and record those that came from the host when `LB_DP` = 1 (R457, R516). -/
def State.dmaMoved (s : State) (c w : Nat) (data : Bytes) : State :=
  let s1 := s.add64 (R.DMA_BYTES c) data.length
  if xfSrcHost w && s.rd R.LB_DP = 1 && data ≠ [] then s1.lbRecord (0x5000 + c) 0x13 (toLe 8 (xfDst w) ++ data) else s1

/-- The record is carried out; its completion follows when its writes are acknowledged (R356). -/
def State.dmaHeld (s : State) (c w : Nat) : State := s.setDma c (some { word := w, moved := true })

/-- A linear record: its checks in order, then its bytes in ascending address (R439, R441).
[DEDUCED, log entry 48] -/
def State.dmaLinear (s : State) (c w : Nat) (far : Option Bytes) : State :=
  let src := xfSrc w
  let dst := xfDst w
  let n := xfLen w
  let dev := !xfSrcHost w && !xfDstHost w
  if xfKind w ≠ 0 || (xfSrcHost w && xfDstHost w) then s.dmaHaltFree c 1
  else if n = 0 then s.dmaHeld c w
  else if !xfSrcHost w && !s.inAlloc src n false then s.dmaHalt c 2 src
  else if !xfDstHost w && !s.inAlloc dst n true then s.dmaHalt c 2 dst
  else if dev && src = dst then s.dmaHeld c w
  else if dev && overlaps src n dst n then s.dmaHaltFree c 3
  else if !dev && (!s.host.bme || s.host.d3hot) then s.dmaHalt c 6 (if xfSrcHost w then src else dst)
  else match s.dmaSource c w far with
    | none => s
    | some r =>
      let (bad, s1) := r.s.dmaDest c w r.data
      let s2 := s1.dmaMoved c w (if bad = none then r.data else [])
      match bad, r.fail with
      | some (code, a), _ => s2.dmaHalt c code a
      | none, some (code, a) => s2.dmaHalt c code a
      | none, none => s2.dmaHeld c w

/-- A channel in ring mode has a record to start. -/
def State.ringReady (s : State) (c : Nat) : Bool :=
  s.rd (R.DMA_MODE c) = 2 && s.rd (R.DMA_STATE c) = 1 && s.dmaCur c = none && s.rd (R.DMA_HEAD c) ≠ s.rd (R.DMA_TAIL c)

/-- Take the next record of a ring, or halt. -/
def State.takeRing (s : State) (c : Nat) (f : State → Nat → State) : State :=
  let r := s.ringRecord c
  match r.fail with
  | some (code, a) => r.s.dmaHalt c code a
  | none => f r.s (leNat r.data)

/-- `LINEAR_TRANSFER` (R439).
[DEDUCED, log entry 48] -/
def execLinearTransfer (c : Fin 64) (hostData : Option Bytes) (s : State) : Host.Outcome State Fault Refusal :=
  s.run fun s =>
    if s.ringReady c.val then
      s.takeRing c.val fun t w => if xfKind w = 1 then s else t.dmaLinear c.val w hostData
    else s

/-! ### DMA: copies (R215 to R218) -/

/-- Copy `n` bytes of one unit or its scales; `none` when a source word is poisoned. -/
def State.copyBytes (s : State) (c src dst n : Nat) : Option (Nat × Nat) × State :=
  if n = 0 then (none, s)
  else
    let r := s.dmaLocal c src n
    match r.fail with
    | some f => (some f, r.s)
    | none =>
      let (st, s1) := r.s.writeMem (0x5000 + c) dst r.data false
      match st with
      | .ok => (none, s1)
      | .notInit => (some (0xA, s.devAddr dst), s1)
      | .unmapped => (some (2, s.devAddr dst), s1)

/-- A source word of a unit or of its scales is poisoned. -/
def State.unitPoison (s : State) (a n : Nat) : Bool :=
  s.accStatus a n = .ok && (wordsOf a n).any (fun w => (s.wordOutcome w).isPoison)

/-- Copy destination unit `j`, counted with dimension 0 fastest: its bytes, then its scales. A poisoned unit is not written
at all. -/
def State.copyUnit (s : State) (c a b perm j : Nat) : Option (Nat × Nat) × State :=
  let di := dIdx b j
  let si := (List.range 5).map (fun d => match (List.range 5).find? (fun e => permDim perm e = d) with
    | some e => di.getD e 0
    | none => 0)
  let k := fmtScales (dFmt a)
  let ua := s.descAddr a (dUnitOff a si)
  let sa := s.descAddr a (dScaleOff a si)
  if s.unitPoison ua (dUnit a) then (let r := s.dmaLocal c ua (dUnit a); (some (4, j), r.s))
  else if k ≠ 0 && s.unitPoison sa k then (let r := s.dmaLocal c sa k; (some (4, j), r.s))
  else match s.copyBytes c ua (s.descAddr b (dUnitOff b di)) (dUnit a) with
    | (some f, s1) => (some f, s1)
    | (none, s1) => s1.copyBytes c sa (s.descAddr b (dScaleOff b di)) k

/-- Copy units `j` to `j + n - 1` while none fails: the bytes moved, the failure, the state. -/
def copyUnits (c a b perm : Nat) : Nat → Nat → Nat → State → Nat × Option (Nat × Nat) × State
  | 0, _, moved, s => (moved, none, s)
  | n + 1, j, moved, s => match s.copyUnit c a b perm j with
    | (some f, s1) => (moved, some f, s1)
    | (none, s1) => copyUnits c a b perm n (j + 1) (moved + dUnit a + fmtScales (dFmt a)) s1

/-- Run a copy object on a channel (R217, R218). `w` is the record that names it, for its completion.
[DEDUCED, log entry 48] -/
def State.dmaCopy (s : State) (c id w : Nat) : State :=
  match s.copyObj id with
  | none => s.dmaHaltFree c 1
  | some o =>
    match s.descWord o.src, s.descWord o.dst with
    | some a, some b =>
      if selfCopy a b o.perm (dRank a) then s.dmaHeld c w
      else
        let (moved, bad, s1) := copyUnits c a b o.perm (dCount b) 0 0 s
        let s2 := s1.add64 (R.DMA_BYTES c) moved
        match bad with
        | none => s2.dmaHeld c w
        | some (code, x) =>
          (if code = 4 then s2.event 0x2C22 0 [(16, id), (32, x % 2 ^ 32)] else s2).dmaHalt c code x
    | _, _ => s.dmaHaltFree c 1

/-- `COPY_OBJECT_TRANSFER` (R218): the copy of a timetable task, or of the ring's next record. -/
def execCopyObjectTransfer (c : Fin 64) (s : State) : Host.Outcome State Fault Refusal :=
  s.run fun s =>
    if s.ringReady c.val then
      s.takeRing c.val fun t w => if xfKind w = 1 then t.dmaCopy c.val (xfCopy w) w else s
    else if s.rd (R.DMA_MODE c.val) = 2 || s.rd (R.DMA_STATE c.val) ≠ 1 then s
    else match s.dmaCur c.val with
      | some x => if x.moved then s else s.dmaCopy c.val (x.word % 2 ^ 10) x.word
      | none => s

/-! ### DMA: completion, tail, reset (R437, R438, R440, R441) -/

/-- The task of a fixed unit has ended. -/
def State.unitEnded (s : State) (unit : Nat) : State :=
  match s.deep.tt.sb.find? (fun e => e.st = 3 && (match s.entTask e with | some t => t.unit = unit | none => false)) with
  | some e => s.mapEntry e.key fun x => { x with report := 1 }
  | none => s

/-- A record of a ring completes: its signal, `DMA_HEAD`, and whether the channel goes on. -/
def State.ringDone (s : State) (c w : Nat) : State :=
  let h := (s.rd (R.DMA_HEAD c) + 1) % 2 ^ 32
  let s1 := ((s.setDma c none).wr (R.DMA_HEAD c) h).wr (R.DMA_STATE c)
    (if xfStop w || h = s.rd (R.DMA_TAIL c) then 0 else 1)
  if xfSig w then s1.sigAdd (0x5000 + c) (xfDone w) 1 else s1

/-- `DMA_TRANSFER_COMPLETE` (R356, R438): every write of the record is acknowledged. -/
def execDmaTransferComplete (c : Fin 64) (s : State) : Host.Outcome State Fault Refusal :=
  s.run fun s => match s.dmaCur c.val with
    | some x =>
      if !x.moved || s.host.remote.any (fun a => a.agent = 0x5000 + c.val && a.write) then s
      else if s.rd (R.DMA_MODE c.val) = 2 then s.ringDone c.val x.word
      else ((s.setDma c.val none).wr (R.DMA_STATE c.val) 0).unitEnded (0x5000 + c.val)
    | none => s

/-- The effect of a write of `DMA_TAIL` (R437, R440).
[DEDUCED, log entry 48] -/
def State.dmaTail (s : State) (c v : Nat) : State × Nat :=
  if s.rd (R.DMA_MODE c) = 0 then (s, 0x2007)
  else if 2 ^ s.rd (R.DMA_RING_LOG2 c) < (v + 2 ^ 32 - s.rd (R.DMA_HEAD c)) % 2 ^ 32 then (s, 0x2004)
  else
    let s1 := s.wr (R.DMA_TAIL c) v
    if s.rd (R.DMA_MODE c) = 2 && s.rd (R.DMA_STATE c) = 0 && v ≠ s.rd (R.DMA_HEAD c) then (s1.wr (R.DMA_STATE c) 1, 0)
    else (s1, 0)

/-- `DMA_TAIL` (R440). -/
def execDmaTail (r : Route) (c : Fin 64) (v : BitVec 32) (s : State) : Host.Outcome State Fault Refusal :=
  s.run fun s => s.hostWrite r.val (0x2D40 + c.val) 8 (toLe 4 v.toNat) fun s => s.dmaTail c.val v.toNat

/-- The effect of a write of `DMA_RESET` (R437, R441): it resets a channel in ring mode, whose cairns are poisoned (R360).
[DEDUCED, log entry 48] -/
def State.dmaResetReq (s : State) (c : Nat) (v : Bool) : State × Nat :=
  if s.rd (R.DMA_MODE c) = 0 then (s, 0x2007)
  else if !v || s.rd (R.DMA_MODE c) ≠ 2 then (s, 0)
  else ((((s.ownerReset (0x5000 + c)).setDma c none).wr (R.DMA_HEAD c) (s.rd (R.DMA_TAIL c))).wr (R.DMA_STATE c) 0, 0)

/-- `DMA_RESET` (R441). -/
def execDmaReset (r : Route) (c : Fin 64) (v : Bool) (s : State) : Host.Outcome State Fault Refusal :=
  s.run fun s => s.hostWrite r.val (0x2D40 + c.val) 9 (toLe 1 (boolNat v)) fun s => s.dmaResetReq c.val v

end Sys2Proof.Machine
end

