-- ==== Sys2Proof/Machine/SentinelCmds.lean ====
section
/-! DEFINITION. Sentinel's commands (chapter 05). -/
namespace Sys2Proof.Machine

/-! ### Folding -/

/-- What a slice has gathered so far. -/
def State.sliceAcc (s : State) (k : Nat) : SliceAcc := smGet (fun _ => SliceAcc.reset) s.snt.accs k

/-- Change what a slice has gathered. -/
def State.mapAcc (s : State) (k : Nat) (f : SliceAcc → SliceAcc) : State :=
  s.mapSnt fun n => { n with accs := smSet (fun _ => SliceAcc.reset) n.accs k (f (s.sliceAcc k)) }

/-- A stream folded evidence with time `t`: the newest times of its slices within `EVID_WIN` are kept (R150). -/
def State.noteTime (s : State) (bit t : Nat) : State :=
  let w := s.sntVal R.EVID_WIN * ftUs
  let old := (smGet (fun _ => []) s.snt.newest bit).filter (fun u => decide (t ≤ u + w + 4 * s.sliceLen) &&
    (s.sliceOf u ≠ s.sliceOf t || decide (t < u)))
  let add := if (smGet (fun _ => []) s.snt.newest bit).any (fun u => s.sliceOf u = s.sliceOf t && decide (t ≤ u)) then [] else [t]
  s.mapSnt fun n => { n with newest := smSet (fun _ => []) n.newest bit (old ++ add) }

/-- Fold evidence of slice `k` from the stream with mask bit `bit` into a cell (R139); free evidence of a stream marked
SUSPECT is discarded. -/
def State.foldEvidence (s : State) (k : Nat) (c : Cell) (occ : Bool) (bit t : Nat) : State :=
  if !s.inWindow c || (!occ && (s.rd R.SUSPECT_MASK).testBit bit) then s
  else
    let (v, s1) := s.readCell c
    if s1.rd R.SNT_STATE = 3 then s1
    else
      let e := us22 (s.sliceEnd k)
      let v1 := if occ then foldOcc v bit e else foldFree v bit e
      ((s1.writeCell c v1).mapAcc k fun a =>
        { a with contrib := setBit a.contrib bit, touched := a.touched ++ [(c, if occ then 2 else 1, bit)] }).noteTime bit t

/-- The lowest slice that is still open now (R28, R30). -/
def State.openSlice (s : State) : Nat := max (max s.snt.nextClose s.snt.firstSlice) ((s.now - s.lag) / s.sliceLen)

/-- The cell of a coordinate: the exact one, or within 1 mm of an edge any that lies that near (R138): free.
[DEDUCED, log entry 27] -/
def State.chooseAxis (s : State) (cellCm : Nat) (v : Fx) : Int × State :=
  let sz := Fx.ofRat cellCm 100
  let d := Fx.ofRat 1 1000
  let c := v / sz
  let lo := (v - d) / sz
  let hi := (v + d) / sz
  if lo = c && hi = c then (c, s)
  else
    let r := s.draw
    ((if r.1 % 3 = 1 then lo else if r.1 % 3 = 2 then hi else c), r.2)

/-- Sentinel folds a point into slice `k` (R137 to R139).
[DEDUCED, log entry 27] -/
def State.foldPoint (s : State) (k : Nat) (p : Pt) : State :=
  let ex := s.extrinsic (s.almOfTime (k * s.sliceLen)) p.slot
  let pv := Pose.apply ex p.vec
  let cm := fun (n : Int) => Fx.ofRat n 100
  let z := pv.z
  let neg := decide (z < cm (sgnOf 16 (s.sntVal R.NEG_Z)))
  let free := !neg && decide (z < cm (sgnOf 16 (s.sntVal R.GROUND_Z)))
  let high := decide (cm (sgnOf 16 (s.sntVal R.OBS_ZMAX)) < z)
  if !(s.sntVal R.ECHO_USE).testBit p.echo || high then s
  else
    let (pose, s1) := (s.chooseSrc k).pointPose k p.t
    let po := Pose.apply pose pv
    let cell := s1.cellCm k
    let (a, s2) := s1.chooseAxis cell po.x
    let (b, s3) := s2.chooseAxis cell po.y
    s3.foldEvidence k (a, b) (!free) (s3.rd (R.MASK_BIT (p.slot + 1))) p.t

/-- Sentinel's pair takes a point (R30, R141, R143, R144). -/
def State.sentinelTake (s : State) (p : Pt) (level : Nat) : State :=
  if s.snt.clearing then s.bump R.CLR_DROP
  else if s.rd R.SNT_STATE ≠ 2 then s
  else if s.sntVal R.SHED_LVL < level && !p.keep then
    (s.bump R.SHED_CNT).mapSnt fun n => { n with overflow := true }
  else
    let k := s.sliceOf p.t
    let o := s.openSlice
    if o ≤ k then s.foldPoint k p
    else
      let s1 := s.bump (R.LATE_CNT p.slot)
      let old := s1.sntVal R.LATE_WIN * ftUs < s.now - p.t
      let s2 := s1.chooseSrc o
      let beyond := match s2.sliceSrc o with
        | some c => !c.ring && decide (p.t + 65536 * ftUs < s.now)
        | none => false
      if old || beyond then (if old then s1 else s2).bump (R.LATE_DROP p.slot)
      else (s2.foldPoint o p).mapAcc o fun a => { a with late := true }

/-- `SENTINEL_POINT_TAKE` (R141): the head of the pair's hand-off buffer. -/
def execSentinelPointTake (s : State) : Host.Outcome State Fault Refusal :=
  s.run fun s => match s.siu.fifoS with
    | [] => s
    | p :: t => { s with siu := { s.siu with fifoS := t } }.sentinelTake p (t.length + 1)

/-! ### Slices -/

/-- `SLICE_END` (R134, R143, R166 (b)): the oldest slice that has not ended ends; settings written take effect; the window
moves and the integrator re-anchors once the slice's pose source is known. -/
def execSliceEnd (s : State) : Host.Outcome State Fault Refusal :=
  s.run fun s =>
    let k := s.snt.nextEnd
    if !s.snt.running || s.now < s.sliceEnd k then s
    else ((s.mapSnt fun n => { n with nextEnd := k + 1, pendSet := [] }).followSlice k).updateSafe

/-- A corridor cell as evaluated: its cell, distance in cm, state, raw contents, whether it is in the window. -/
structure EvalCell where
  c : Cell
  dist : Int
  st : CellState
  raw : Nat
  win : Bool

/-- Read and judge the corridor's cells (R147, R148). -/
def State.evalCorridor (s : State) (c : Corridor) (cellCm t : Nat) (veh : V3) : List EvalCell × State :=
  let poly := polyOdo c
  let va := arcOf poly veh.x veh.y
  c.cells.foldl (fun (acc : List EvalCell × State) k =>
    let ctr := cellCentre cellCm k
    let d := arcOf poly ctr.1 ctr.2 - va
    if d < 0 then acc
    else
      let win := acc.2.inWindow k
      let (v, s1) := if win then acc.2.readCell k else (0, acc.2)
      (acc.1 ++ [{ c := k, dist := d * 100 / Fx.one, st := s1.cellState v t, raw := v, win := win }], s1)) ([], s)

/-- The number of a state in a change entry (R153). -/
def stateCode (st : CellState) (conf : Bool) : Nat :=
  match st with | .unobserved => 0 | .free => 1 | .occupied => if conf then 3 else 2

/-- A cell as a key. -/
def cellKey (c : Cell) : Nat := (c.1 + 2 ^ 31).toNat * 2 ^ 32 + (c.2 + 2 ^ 31).toNat

/-- The cell of a key. -/
def cellOfKey (k : Nat) : Cell := ((k / 2 ^ 32 : Nat) - 2 ^ 31, (k % 2 ^ 32 : Nat) - 2 ^ 31)

/-- A coordinate in cm: nearest, halves away from zero, held to INTEGER16 (R153). -/
def cmCoord (v : Fx) : Nat :=
  ofSgn 16 (clampInt (-32768) 32767 (roundDiv (v * 100) Fx.one))

/-- A change entry (R153). -/
def changeEntry (pose : Pose) (cellCm : Nat) (c : Cell) (dist st src : Nat) (cor : Bool) : Nat :=
  let ctr := cellCentre cellCm c
  let p := Pose.unapply pose { x := ctr.1, y := ctr.2, z := pose.x.z }
  boolNat cor * 64 + src * 2 ^ 7 + st * 2 ^ 14 + dist * 2 ^ 16 + cmCoord p.y * 2 ^ 32 + cmCoord p.x * 2 ^ 48

/-- The world cell of a window position. -/
def State.worldCell (s : State) (i j : Nat) : Cell :=
  let k := s.snt.corner
  (k.1 + ((i : Int) - k.1) % 1024, k.2 + ((j : Int) - k.2) % 1024)

/-- The window cells whose stored state is not the cleared one. -/
def State.litCells (s : State) : List Cell :=
  let idx := (s.mem.bytes.filter (fun e => decide (plateBase 0 ≤ e.1) && decide (e.1 < plateBase 1))).map
    (fun e => (e.1 - plateBase 0) / 8)
  idx.eraseDups.map (fun i => s.worldCell (i / 1024) (i % 1024))

/-- Insert an evaluated cell by distance. -/
def insertDist (e : EvalCell) : List EvalCell → List EvalCell
  | [] => [e]
  | x :: t => if e.dist < x.dist then e :: x :: t else x :: insertDist e t

/-- A cell's source in a change entry. -/
def srcOf (st : CellState) (v : Nat) : Nat :=
  match st with | .unobserved => 0 | .free => cSrcFree v | .occupied => cSrcOcc v

/-- The state a cell had in the previous result: 0 unobserved, 1 free, 2 occupied. -/
def plainCode (st : CellState) : Nat := match st with | .unobserved => 0 | .free => 1 | .occupied => 2

/-- The change list before its limit, and the states to compare with next time (R153).
[DEDUCED, log entry 27] -/
def State.changeList (s : State) (ev : List EvalCell) (pose : Pose) (k cellCm t : Nat) : List Nat × SMap Nat :=
  let alm := s.almOfTime (k * s.sliceLen)
  let old := s.snt.prev
  let changed := fun (c : Cell) (st : CellState) => smGet (fun _ => 0) old (cellKey c) ≠ plainCode st
  let cors := (ev.filter (fun e => changed e.c e.st)).foldl (fun l e => insertDist e l) []
  let corKeys := ev.map (fun e => e.c)
  let cand := (s.litCells ++ (old.map (fun e => cellOfKey e.1))).eraseDups.filter (fun c =>
    !corKeys.contains c && s.inWindow c &&
      (let ctr := cellCentre cellCm c
       let p := Pose.unapply pose { x := ctr.1, y := ctr.2, z := pose.x.z }
       s.keepAt alm p.x p.y))
  let keeps := cand.map (fun c => (c, s.cellRaw c, s.cellState (s.cellRaw c) t))
  let l1 := cors.map (fun e => changeEntry pose cellCm e.c (min e.dist.toNat 0xFFFF) (stateCode e.st (cConf e.raw))
    (srcOf e.st e.raw) true)
  let l2 := (keeps.filter (fun e => changed e.1 e.2.2)).map (fun e =>
    changeEntry pose cellCm e.1 0xFFFF (stateCode e.2.2 (cConf e.2.1)) (srcOf e.2.2 e.2.1) false)
  let nw := (ev.map (fun e => (e.c, e.st)) ++ keeps.map (fun e => (e.1, e.2.2))).foldl
    (fun (m : SMap Nat) e => smSet (fun _ => 0) m (cellKey e.1) (plainCode e.2)) old
  (l1 ++ l2, nw)

/-- Streams that took part in a conflict in a slice (R149). -/
def conflictBits (t : List (Cell × Nat × Nat)) : List Nat :=
  (t.filter (fun e => t.any (fun f => f.1 = e.1 && f.2.1 ≠ e.2.1 && f.2.2 ≠ e.2.2))).map (fun e => e.2.2) |>.eraseDups

/-- The SUSPECT counters after a slice (R149). -/
def State.suspectStep (s : State) (a : SliceAcc) : State :=
  let conf := conflictBits a.touched
  (bitsSet 96 a.contrib).foldl (fun t m =>
    if conf.contains m then
      let c := smGet (fun _ => 0) t.snt.suspectCnt m + 1
      let t1 := t.mapSnt fun n => { n with suspectCnt := smSet (fun _ => 0) n.suspectCnt m c }
      if t1.sntVal R.SUSPECT_N < c && !(t1.rd R.SUSPECT_MASK).testBit m then
        (t1.wr R.SUSPECT_MASK (setBit (t1.rd R.SUSPECT_MASK) m)).event 0x2504 0 [(7, (t1.slotOfBit m).getD m)]
      else t1
    else t.mapSnt fun n => { n with suspectCnt := smSet (fun _ => 0) n.suspectCnt m 0 }) s

/-- The contributing mask and the oldest contribution of the slice that ends at `te` (R150). -/
def State.contributing (s : State) (te : Nat) : Nat × Option Nat :=
  let w := s.sntVal R.EVID_WIN * ftUs
  let hits := s.snt.newest.filterMap (fun e =>
    let l := e.2.filter (fun t => decide (te ≤ t + w) && decide (t ≤ te))
    match l with
    | [] => none
    | x :: r => if s.bitReachable e.1 then some (e.1, r.foldl max x) else none)
  (hits.foldl (fun m e => setBit m e.1) 0,
   hits.foldl (fun (o : Option Nat) e => some (match o with | some t => min t e.2 | none => e.2)) none)

/-- An admitted peer is not reachable (R152, R163). -/
def State.partitioned (s : State) : Bool :=
  (List.range (s.rd R.RANGE_N)).any (fun r => r ≠ s.host.rangeId && !s.reachable r)

/-- The host link is live (R452). -/
def State.hostLive (s : State) : Bool :=
  s.rd R.PCIE_STATE = 2 && match s.host.hbTime with
  | some t => decide (s.tclk ≤ t + s.rd R.HOST_TMO * tclkUs)
  | none => false

/-- Send every admitted peer the exchange frame of slice `k` (R162).
[DESIGN CHOICE, log entry 29] -/
def State.sendExchange (s : State) (k : Nat) (pose : Pose) (cellCm : Nat) : State :=
  let alm := s.almOfTime (k * s.sliceLen)
  let recs := ((s.sliceAcc k).touched.filter (fun e =>
      let ctr := cellCentre cellCm e.1
      let p := Pose.unapply pose { x := ctr.1, y := ctr.2, z := pose.x.z }
      s.keepAt alm p.x p.y)).take (s.rd R.XCH_MAX)
  let bytes := recs.flatMap (fun e =>
    let ctr := cellCentre cellCm e.1
    let p := Pose.unapply pose { x := ctr.1, y := ctr.2, z := pose.x.z }
    toLe 8 (e.2.2 * 2 ^ 23 + e.2.1 * 2 ^ 30 + cmCoord p.y * 2 ^ 32 + cmCoord p.x * 2 ^ 48))
  let body := toLe 8 k ++ toLe 8 s.host.rangeId ++ bytes
  let addr := boolNat s.hostLive + 2 * boolNat (s.rd R.DEV_STATE = 4) + 256 * s.rd R.MAP_CUR
  ((List.range 8).filter (fun r => r ≠ s.host.rangeId && s.reachable r)).foldl
    (fun t r => t.sendFlit 6 0x2000 r 0 addr false body) s

/-- The close of slice `k` (R148 to R153): the result joins those that wait for their emission. -/
def State.closeSlice (s : State) (k : Nat) : State :=
  let s0 := s.chooseSrc k
  let src := (s0.sliceSrc k).getD { ring := false, valid := false, p0 := s0.snt.lastPose, p1 := s0.snt.lastPose }
  let te := s0.sliceEnd k
  let cellCm := s0.cellCm k
  let t := us22 s0.now
  let (ev, s1) := match s0.snt.cor with
    | some c => s0.evalCorridor c cellCm t src.p1.x
    | none => ([], s0)
  if s1.rd R.SNT_STATE = 3 then s1
  else
    let a := s1.sliceAcc k
    let stale := match s1.snt.cor with
      | some c => decide (s1.rd R.COR_TMO * ftUs < s1.now - c.t)
      | none => false
    let reqLen := match s1.snt.cor with | some c => c.reqLen | none => 0
    let occ := ev.filter (fun e => e.st = .occupied)
    let unknown := s1.snt.cor = none || stale || !src.valid ||
      ev.any (fun e => decide (e.dist < reqLen) && (e.st = .unobserved || !e.win))
    let verdict := if occ ≠ [] then 1 else if unknown then 2 else 0
    let dist := match occ with
      | [] => 0xFFFF
      | e :: r => min (r.foldl (fun m x => min m x.dist) e.dist).toNat 0xFFFF
    let conflict := occ.any (fun e => cConf e.raw && (us22 te + 2 ^ 22 - cOccT e.raw) % 2 ^ 22 < 2 ^ 21)
    let s2 := if conflict then s1.bump R.CONFLICT_CNT else s1
    let s3 := s2.suspectStep a
    let (mask, oldest) := s3.contributing te
    let (chg, prev) := s3.changeList ev src.p1 k cellCm t
    let flags := boolNat conflict + 2 * boolNat a.late + 4 * boolNat (!src.ring) + 8 * boolNat s3.snt.overflow +
      16 * boolNat s3.partitioned + 32 * boolNat s3.replaying + 64 * boolNat (decide (504 < chg.length)) +
      128 * boolNat (s3.rd R.SUSPECT_MASK ≠ 0) + 256 * boolNat s3.snt.cleared + 512 * boolNat (s3.snt.cor = none) +
      1024 * boolNat stale
    let r : Res := { slice := k, validT := te, mask := mask, oldest := oldest, dist := dist, flags := flags,
                     verdict := verdict, changes := chg.take 504, out := 0 }
    let s4 := s3.sendExchange k src.p1 cellCm
    s4.mapSnt fun n => { n with waiting := n.waiting ++ [r], prev := prev, nextClose := k + 1, failFrom := none,
                                overflow := false, cleared := false, srcs := smSet (fun _ => none) n.srcs k none,
                                accs := smSet (fun _ => SliceAcc.reset) n.accs k .reset }

/-- `SLICE_CLOSE` (R28, R148): the lowest open slice closes at its end plus L. -/
def execSliceClose (s : State) : Host.Outcome State Fault Refusal :=
  s.run fun s =>
    let k := s.snt.nextClose
    if s.rd R.SNT_STATE ≠ 2 || k < s.snt.firstSlice || s.now < s.sliceCloseT k then s else s.closeSlice k

/-- `FIXED_EMITTER_RESULT` (R158): a FAILED header for the next slice, in SAFE and during a restart until the restarted
Sentinel's first slice.
[DEDUCED, log entry 28] -/
def execFixedEmitterResult (s : State) : Host.Outcome State Fault Refusal :=
  s.run fun s =>
    let k := s.snt.nextClose
    if s.snt.failFrom = none || s.now < s.sliceCloseT k || (s.rd R.SNT_STATE = 2 && s.snt.firstSlice ≤ k) then s
    else
      let r : Res := { slice := k, validT := s.sliceEnd k, mask := 0, oldest := none, dist := 0xFFFF,
                       flags := 32 * boolNat s.replaying, verdict := 3, changes := [], out := 0 }
      (s.mapSnt fun n => { n with nextClose := k + 1, nextEnd := max n.nextEnd (k + 1) }).emitResult r

/-! ### The Range (R162, R163) -/

/-- A peer's record (R452). -/
def State.peer (s : State) (r : Nat) : Peer :=
  smGet (fun r => { rid := r, lastXch := none, hostLive := false, failed := false, mapNo := 0 }) s.host.peers r

/-- Set a peer's record. -/
def State.setPeer (s : State) (r : Nat) (p : Peer) : State :=
  { s with host := { s.host with
      peers := smSet (fun r => { rid := r, lastXch := none, hostLive := false, failed := false, mapNo := 0 }) s.host.peers r p } }

/-- An exchange record folds as evidence of slice `k` (R162).
[DESIGN CHOICE, log entry 29] -/
def State.foldRecord (s : State) (k : Nat) (pose : Pose) (rid te : Nat) (w : Nat) : State :=
  let x := Fx.ofRat (sgnOf 16 (bitsOf 63 48 w)) 100
  let y := Fx.ofRat (sgnOf 16 (bitsOf 47 32 w)) 100
  let p := Pose.apply pose { x := x, y := y, z := 0 }
  let kind := bitsOf 31 30 w
  let bit := bitsOf 29 23 w
  let s1 := s.mapSnt fun n => { n with peerBits := smSet (fun _ => 0) n.peerBits bit (rid + 1) }
  if kind = 1 || kind = 2 then s1.foldEvidence k (cellOf (s1.cellCm k) p.x p.y) (kind = 2) bit te else s1

/-- The peer's exchange state as a frame shows it (R162, R163, R451).
[DESIGN CHOICE, log entry 29] -/
def State.hearPeer (s : State) (r : Nat) (hostLive failed : Bool) (map : Nat) : State :=
  let s1 := (s.setPeer r { s.peer r with lastXch := some s.tclk, hostLive := hostLive, failed := failed, mapNo := map }).wr
    R.PEER_MASK (setBit (s.rd R.PEER_MASK) r)
  if map ≠ s1.rd R.MAP_CUR then s1.bump R.MAP_MISMATCH else s1

/-- The frame's cell records enter the Plate with the slice they belong to, or late (R162).
[DESIGN CHOICE, log entry 29] -/
def State.foldExchange (s : State) (r k : Nat) (recs : List (BitVec 64)) : State :=
  if s.rd R.SNT_STATE ≠ 2 || s.snt.clearing then s
  else
    let o := s.openSlice
    let kf := max k o
    let s3 := s.chooseSrc kf
    let (pose, s4) := s3.pointPose kf (s3.sliceEnd k)
    let s5 := if k < o then (s4.bump R.XCH_LATE).mapAcc kf fun a => { a with late := true } else s4
    recs.foldl (fun t w => t.foldRecord kf pose r (s.sliceEnd k) w.toNat) s5

/-- Exchange frames of a peer are taken: one of the Range, and reachable once it has been heard (R162, R163). -/
def State.hears (s : State) (r : Nat) : Bool :=
  r < s.rd R.RANGE_N && r ≠ s.host.rangeId && (s.reachable r || (s.peer r).lastXch = none)

/-- `EXCHANGE_FRAME_RX` (R162, R163, R452): a reachable peer's frame folds, late into the next open slice; frames of a
peer that became unreachable are discarded. -/
def execExchangeFrameRx (rid : Fin 8) (slice : BitVec 64) (hostLive failed : Bool) (map : Fin 8)
    (recs : List (BitVec 64)) (s : State) : Host.Outcome State Fault Refusal :=
  s.run fun s =>
    if !s.hears rid.val then s
    else (s.hearPeer rid.val hostLive failed map.val).foldExchange rid.val slice.toNat recs

/-- `PEER_UNREACHABLE` (R163): no exchange frame for `PEER_TMO`. -/
def execPeerUnreachable (rid : Fin 8) (s : State) : Host.Outcome State Fault Refusal :=
  s.run fun s =>
    let r := rid.val
    let p := s.peer r
    let last := p.lastXch.getD 0
    if s.rd R.RANGE_N ≤ r || r = s.host.rangeId || (!s.reachable r && p.lastXch ≠ none) ||
        s.tclk < last + s.rd R.PEER_TMO * tclkUs then s
    else ((s.setPeer r { p with lastXch := some last }).wr R.PEER_MASK (clearBit (s.rd R.PEER_MASK) r)).event 0x2507 0 []

/-! ### The Plate -/

/-- The sweeper's visit to one stored cell (R136). -/
def State.sweepCell (s : State) (i : Nat) : State :=
  let c := s.worldCell (i / 1024) (i % 1024)
  let (v, s1) := s.readCell c
  let t := us22 s1.now
  let age := fun (x : Nat) => (t + 2 ^ 22 - x) % 2 ^ 22
  let v1 := if cOccV v && s1.sntVal R.OCC_HOLD < age (cOccT v) then clearBit v 2 else v
  let v2 := if cFreeV v && s1.sntVal R.OBS_WIN < age (cFreeT v) then clearBit v1 1 else v1
  if v2 = v || s1.rd R.SNT_STATE = 3 then s1 else s1.writeCell c v2

/-- `EVIDENCE_EXPIRY` (R136): the sweeper visits the four cells of a group. -/
def execEvidenceExpiry (group : Fin 262144) (s : State) : Host.Outcome State Fault Refusal :=
  s.run fun s =>
    if s.rd R.SNT_STATE ≠ 2 || s.snt.clearing then s
    else (List.range 4).foldl (fun t i => t.sweepCell (4 * group.val + i)) s

/-- Sentinel begins to run with the first slice that starts from now on; a JTAG instruction that takes its pins gives way
(R144, R158, R501). -/
def State.startRun (s : State) : State :=
  let k := ceilDiv s.now s.sliceLen
  let takesPins := s.dome.jtagInstr = .extest || s.dome.jtagInstr = .intest || s.dome.jtagInstr = .clamp ||
    s.dome.jtagInstr = .highz || s.dome.jtagInstr = .otherPins
  let s2 := (s.wr R.SNT_STATE 2).mapSnt fun n =>
    { n with running := true, firstSlice := k, nextEnd := k, srcs := [], accs := [],
             nextClose := if n.failFrom = none then k else n.nextClose }
  (if takesPins then { s2 with dome := { s2.dome with jtagInstr := .bypass } } else s2).updateSafe

/-- `PLATE_CLEAR_DONE` (R144, R165): folding resumes; at start-up and after a restart Sentinel runs from the first slice
that starts after the clear, and the JTAG port loses an instruction that takes pins (R501). -/
def execPlateClearDone (s : State) : Host.Outcome State Fault Refusal :=
  s.run fun s =>
    if !s.snt.clearing then s
    else
      let s1 := s.mapSnt fun n => { n with clearing := false }
      if s1.rd R.SNT_STATE ≠ 1 || s1.snt.selfTest then s1 else s1.startRun

/-! ### Corridors -/

/-- The pose Sentinel places a corridor with (R146). -/
def State.corPose (s : State) (t : Nat) : Pose × State :=
  if s.snt.fallback then (s.integPose t, s) else let l := s.lookup 0x2000 t; (l.pose, l.s)

/-- The refusal of a corridor record, or the corridor (R146).
[DEDUCED, log entry 27] -/
def State.checkCorridor (s : State) (d : Bytes) : Nat × Option Corridor × State :=
  let h := leNat (d.take 32)
  let n := bitsOf 47 40 h
  let t? := ftOfWord (bitsOf 191 64 h)
  let crcIn := toLe 4 0 ++ (padTo (32 + 8 * n) d).drop 4
  let seqNo := bitsOf 255 192 h
  let k := s.sliceOf s.now
  let cellCm := s.cellCm k
  let reqLen := bitsOf 63 48 h
  if crc32 crcIn ≠ bitsOf 31 0 h then (0x2501, none, s)
  else if n < 2 || 64 < n then (0x2004, none, s)
  else if (match s.snt.cor with | some c => decide (seqNo ≤ c.seqNo) | none => false) then (0x2502, none, s)
  else match t? with
    | none => (0x2006, none, s)
    | some t =>
      if t + s.rd R.COR_TMO * ftUs < s.now || s.now + s.rd R.FUTURE_TOL * ftNs < t then (0x2503, none, s)
      else if 512 * cellCm < reqLen then (0x2504, none, s)
      else
        let verts := (List.range n).map (fun i =>
          let w := leAt d (32 + 8 * i) 8
          ({ x := sgnOf 16 (bitsOf 63 48 w), y := sgnOf 16 (bitsOf 47 32 w), w := bitsOf 31 16 w } : Vertex))
        let (pose, s1) := s.corPose t
        let c : Corridor := { seqNo := seqNo, t := t, reqLen := reqLen, verts := verts, pose := pose, cells := [],
                              committed := s.now, stale := false }
        let cells := s1.rasterize cellCm (polyOdo c)
        if 32768 < cells.length then (0x2505, none, s1) else (0, some { c with cells := cells }, s1)

/-- The effect of a write of 1 to `COR_COMMIT` (R146): the record in `COR_DATA` is submitted. -/
def State.corCommit (s : State) : State × Nat := match s.checkCorridor s.snt.corData with
  | (0, some c, s1) => (s1.mapSnt fun n => { n with corNext := some c }, 0)
  | (e, _, s1) => (s1.event 0x2505 0 [], e)

/-- `COR_COMMIT` (R146). -/
def execCorCommit (r : Route) (s : State) : Host.Outcome State Fault Refusal :=
  s.run fun s => s.hostWrite r.val 0x2510 2 (toLe 1 1) State.corCommit

/-- `CORRIDOR_CURRENT` (R146): at the first slice that starts at least 20 µs after the commit. -/
def execCorridorCurrent (s : State) : Host.Outcome State Fault Refusal :=
  s.run fun s => match s.snt.corNext with
    | none => s
    | some c =>
      if s.now < ceilDiv (c.committed + 20 * ftUs) s.sliceLen * s.sliceLen then s
      else (s.mapSnt fun n => { n with cor := some c, corNext := none }).wr R.COR_SEQ_CUR c.seqNo

/-- `CORRIDOR_STALE` (R148, R167): the corridor in use becomes older than `COR_TMO`. -/
def execCorridorStale (s : State) : Host.Outcome State Fault Refusal :=
  s.run fun s => match s.snt.cor with
    | none => s
    | some c =>
      if c.stale || s.now - c.t ≤ s.rd R.COR_TMO * ftUs then s
      else (s.mapSnt fun n => { n with cor := some { c with stale := true } }).event 0x2506 0 []

/-- The bits of an entry written 1 clear (R8). -/
def State.w1c (s : State) (k v : Nat) : State := s.wr k (clearMask (s.rd k) v)

/-- `SUSPECT_MASK_CLEAR` (R149). -/
def execSuspectMaskClear (r : Route) (mask : BitVec 96) (s : State) : Host.Outcome State Fault Refusal :=
  s.run fun s => s.hostWrite r.val 0x2500 0x0E (toLe 12 mask.toNat) fun s => (s.w1c R.SUSPECT_MASK mask.toNat, 0)

/-! ### Detectors and the restart (R157, R158, R165) -/

/-- A detector of R157 detects while Sentinel's domains are on: Sentinel enters SAFE.
[DEDUCED, log entry 28] -/
def State.sentinelFault (s : State) (nn : Nat) : State :=
  if s.rd R.SNT_STATE = 0 then s else ((s.injHere nn 0).detect nn 0x2000 []).enterSafe

/-- `SLICE_RESULT` (R154): the oldest result that waits is emitted, unless an injection suppresses it (R515): D023 follows. -/
def execSliceResult (s : State) : Host.Outcome State Fault Refusal :=
  s.run fun s => match s.snt.waiting with
    | [] => s
    | r :: t =>
      if s.injArmed 23 0 && s.rd R.SNT_STATE = 2 then s.sentinelFault 23
      else (s.mapSnt fun n => { n with waiting := t }).emitResult r

/-- `COMPARATOR_MISMATCH` (R157): D020.
[DESIGN CHOICE, log entry 60] -/
def execComparatorMismatch (s : State) : Host.Outcome State Fault Refusal := s.run fun s => s.sentinelFault 20

/-- `SNCLK_OUT_OF_RANGE` (R157): D022. -/
def execSnclkOutOfRange (s : State) : Host.Outcome State Fault Refusal := s.run fun s => s.sentinelFault 22

/-- `RESULT_MISSING` (R157): D023, when the oldest result owed is not out by its close + 2 µs. -/
def execResultMissing (s : State) : Host.Outcome State Fault Refusal :=
  s.run fun s =>
    let k := match s.snt.waiting with | x :: _ => x.slice | [] => s.snt.nextClose
    if s.rd R.SNT_STATE ≠ 2 || k < s.snt.firstSlice || s.now ≤ s.sliceCloseT k + 2 * ftUs then s else s.sentinelFault 23

/-- The own check of a commit of `SNT_RESTART`: a BOOLEAN. -/
def sntRestartCheck (v : Bytes) (_ : State) : Nat := if leNat v ≤ 1 then 0 else 0x2004

/-- The effect of a committed `SNT_RESTART` of 1 (R158): in SAFE the self-test runs.
[DEDUCED, log entry 27] -/
def sntRestartApply (v : Bytes) (s : State) : State :=
  if leNat v = 1 && s.rd R.SNT_STATE = 3 then (s.wr R.SNT_STATE 1).mapSnt fun n => { n with selfTest := true } else s

/-- `SNT_RESTART` (R158). -/
def execSntRestart (r : Route) (cr : CommitRec) (s : State) : Host.Outcome State Fault Refusal :=
  s.run fun s => s.commit r.val 0x2500 0x1F cr sntRestartCheck sntRestartApply

/-- `SELF_TEST_DONE` (R157, R165): the Plate clear follows, or D024. -/
def execSelfTestDone (ok : Bool) (s : State) : Host.Outcome State Fault Refusal :=
  s.run fun s =>
    if !s.snt.selfTest then s
    else
      let s1 := s.mapSnt fun n => { n with selfTest := false }
      if ok && !s.injArmed 24 0 then s1.clearPlate else s1.sentinelFault 24

/-! ### Safety outputs (R159 to R161) -/

/-- `SNT_HB` (R160, R164): the output toggles at a 500 µs boundary while Sentinel runs outside SAFE; in replay it is
low. -/
def execSntHb (s : State) : Host.Outcome State Fault Refusal :=
  s.run fun s =>
    let i := s.now / (500 * ftUs)
    if i ≤ s.snt.hbIndex then s
    else s.mapSnt fun n => { n with hbIndex := i,
                                    hb := if s.replaying then false else if s.rd R.SNT_STATE = 2 then !n.hb else n.hb }

/-- `SAFE_HOLD_EXPIRY` (R159). -/
def execSafeHoldExpiry (s : State) : Host.Outcome State Fault Refusal := s.run fun s => s.updateSafe

/-- The 16 data bytes of a hazard frame for a window (R161).
[DEDUCED, log entry 28] -/
def State.hazardFrame (s : State) (w : Nat) : Bytes :=
  let usable := (s.snt.emitted.filter (fun x => decide (x.out + 5 * ftUs ≤ w))).getLast?
  let body := match usable with
    | some x =>
      if x.out + (s.rd R.HZ_PERIOD + 2) * ftUs < w then none
      else
        let ageNs := match x.oldest with | some t => compactAge x.out t | none => noAge
        some (x.flags + x.dist * 2 ^ 16 + (min (ageNs / 1000) 0xFFFFFFFF) * 2 ^ 32 + (x.slice % 2 ^ 32) * 2 ^ 64 +
          x.verdict * 2 ^ 106)
    | none => none
  let v := body.getD (0xFFFF * 2 ^ 16 + 0xFFFFFFFF * 2 ^ 32 + 3 * 2 ^ 106)
  let b := toLe 14 (v + s.snt.alive * 2 ^ 108)
  b ++ toLe 2 (crc16 (b ++ toLe 2 (s.rd R.HZ_DATA_ID)))

/-- A hazard frame starts on the bus, or is lost while the controller is bus-off (R161, R513). -/
def State.startHazard (s : State) (d : Bytes) : State :=
  let c := s.rd R.HZ_PORT
  if s.siu.busOff.testBit c then s.bump R.HZ_LOST else s.emit (.canFrame c (s.rd R.HZ_ID) d)

/-- A held frame goes out when the bus is free (R161).
[DEDUCED, log entry 28] -/
def State.sendHeldHazard (s : State) (busy : Bool) : State := match s.snt.hzHeld with
  | some (_, d) => if busy then s else (s.mapSnt fun n => { n with hzHeld := none }).startHazard d
  | none => s

/-- The window of hazard frames that holds now (R161). -/
def State.hazardIndex (s : State) : Nat := (s.now - s.rd R.HZ_PHASE * ftUs) / (s.rd R.HZ_PERIOD * ftUs)

/-- The frame of a window goes out, or is held for the bus (R161).
[DEDUCED, log entry 28] -/
def State.hazardSend (s : State) (busy : Bool) : State :=
  let w := s.hazardIndex * (s.rd R.HZ_PERIOD * ftUs) + s.rd R.HZ_PHASE * ftUs
  let d := s.hazardFrame w
  let s1 := s.mapSnt fun n => { n with hzLast := some s.hazardIndex, alive := (n.alive + 1) % 16 }
  if busy then (s1.mapSnt fun n => { n with hzHeld := some (w, d) }).bump R.HZ_SLIP else s1.startHazard d

/-- `HAZARD_FRAME_WINDOW` (R161): a frame held for the bus starts when the bus is free; at a window reached for the first
time the frame is built and sent, or held for the bus. -/
def execHazardFrameWindow (busy : Bool) (s : State) : Host.Outcome State Fault Refusal :=
  s.run fun s =>
    let s0 := s.sendHeldHazard busy
    if s0.replaying || !s0.pdOn 16 || s0.now < s0.rd R.HZ_PHASE * ftUs || s0.snt.hzLast = some s0.hazardIndex then s0
    else s0.hazardSend busy

/-- `HAZARD_FRAME_WITHDRAW` (R161): a frame not started by the window + `HZ_PERIOD` / 2 is withdrawn. -/
def execHazardFrameWithdraw (s : State) : Host.Outcome State Fault Refusal :=
  s.run fun s => match s.snt.hzHeld with
    | none => s
    | some (w, _) =>
      if s.now < w + s.rd R.HZ_PERIOD * ftUs / 2 then s
      else (s.mapSnt fun n => { n with hzHeld := none }).bump R.HZ_LOST

end Sys2Proof.Machine
end

