-- ==== Sys2Proof/Machine/RangeOps.lean ====
section
/-! DEFINITION. What an epoch instant decides for the Range (R451, R452, R456): the anchor, a share map, peers. -/
namespace Sys2Proof.Machine

/-- The anchor by this device's own view: the lowest Range ID with a live host that has not failed (R452). -/
def State.anchorNow (s : State) : Option Nat :=
  (List.range 8).find? (fun r =>
    if r = s.host.rangeId then s.hostLive && s.rd R.DEV_STATE ≠ 4
    else s.reachable r && (s.peer r).hostLive && !(s.peer r).failed)

/-- The anchor is taken at an epoch instant; `DR_EMITTER` follows it (R452). -/
def State.takeAnchor (s : State) : State :=
  let a := s.anchorNow.getD 0xFF
  if a = s.rd R.ANCHOR then s
  else
    let s1 := (s.wr R.ANCHOR a).event 0x2D24 0 [(8, a)]
    if a = 0xFF then s1 else s1.wr R.DR_EMITTER a

/-- The selected share map takes effect (R451). -/
def State.mapTake (s : State) (k e : Nat) : State :=
  ({ s with host := { s.host with mapPend := none } }.wr R.MAP_CUR k).event 0x2D23 0 [(8, k), (32, e)]

/-- Peers are re-admitted (R360, R456): they fold again, and the cairns they own are poisoned until R363 re-arms them.
[DEDUCED, log entry 45] -/
def State.peersTake (s : State) (mask : Nat) : State :=
  let s1 := ({ s with host := { s.host with admitPend := none } }.wr R.PEER_ADMIT 0).wr R.PEER_MASK
    (s.rd R.PEER_MASK ||| (mask % 256))
  (bitsSet 8 mask).foldl (fun t r => (t.setPeer r { t.peer r with lastXch := some t.tclk }).poisonOwner (0x8000 + r)) s1

/-- The share map selected is due (R451). -/
def State.mapDue (s : State) : State := match s.host.mapPend with
  | some (k, e) => if s.now < s.instant e then s else s.mapTake k e
  | none => s

/-- The re-admission committed is due: its mask and the epoch whose instant it waits for (R456). -/
def State.peersDue (s : State) : State := match s.host.admitPend with
  | some (m, e) => if s.now < s.instant e then s else s.peersTake m
  | none => s

/-- The Almanac switch accepted is due (R253). -/
def State.almDue (s : State) : State := match s.deep.ag.almPend with
  | some (g, m) => if s.now < s.instant m then s else s.almTake g m
  | none => s

/-- An epoch instant passes (R29, R253, R374, R451, R452, R456).
[DEDUCED, log entry 38] -/
def State.epochInstant (s : State) : State :=
  let s1 := (s.mapTt fun t => { t with epochNext := t.epochNext + 1 }).balanceCheck
  (((s1.peersDue).mapDue).almDue).takeAnchor

/-- This device writes deep results: alone in its Range, or as the anchor that `DR_EMITTER` names (R278, R452).
[DEDUCED, log entry 37] -/
def State.emitsDeep (s : State) : Bool :=
  s.rd R.RANGE_N ≤ 1 || (s.rd R.ANCHOR ≠ 0xFF && s.rd R.DR_EMITTER = s.host.rangeId)

/-- `MAP_SWITCH` (R451): at instant(E). -/
def execMapSwitch (s : State) : Host.Outcome State Fault Refusal := s.run fun s => s.mapDue

/-- `PEER_READMISSION` (R456): at the epoch instant. -/
def execPeerReadmission (s : State) : Host.Outcome State Fault Refusal := s.run fun s => s.peersDue

end Sys2Proof.Machine
end

