-- ==== Sys2Proof/Machine/TxOps.lean ====
section
/-! DEFINITION. Transmit time-stamps, launch times and the trigger pins (R57 to R66). -/
namespace Sys2Proof.Machine

/-! ### Transmit time-stamps (R59, R60) -/

/-- The transmit time-stamp queue of a port. -/
def State.stamps (s : State) (p : Nat) : List Nat := smGet (fun _ => []) s.net.stamps p

/-- Set the transmit time-stamp queue of a port. -/
def State.setStamps (s : State) (p : Nat) (v : List Nat) : State :=
  { s with net := { s.net with stamps := smSet (fun _ => []) s.net.stamps p v } }

/-- The pattern that an armed flip mask of class 11 stores with an entry of a transmit queue: its data bits invert bits 63:0,
and what it does to the parity bits stands above the entry's 192 bits, where the read finds it (R404, R419).
[DESIGN CHOICE, log entry 12] -/
def State.stampFlip (s : State) : Nat :=
  if s.rd (R.FLIP_ARMED 11) = 1 && !(s.rd (R.FLIP_ADDR 11)).testBit 63 then
    s.rd (R.FLIP_MASK 11) % 2 ^ 64 + (s.rd (R.FLIP_MASK 11) % 2 ^ 72) * 2 ^ 192
  else 0

/-- Place an entry in the queue of a port, or count it in `TS_OVF` (R59, R60). -/
def State.placeStamp (s : State) (p id status time : Nat) : State :=
  let q := s.stamps p
  if q.length < 16 then
    (s.disarmFlip 11).setStamps p (q ++ [(time + (id % 65536) * 2 ^ 128 + p * 2 ^ 144 + status * 2 ^ 148) ^^^ s.stampFlip])
  else (s.bump (R.TS_OVF p)).event 0x2106 0 []

/-- A full time with `d` ns added to it, with the flags of now. -/
def State.timeWordOf (s : State) (t : Nat) : Nat := ftWord t s.timeFlags

/-- The transmit stamp of a frame that leaves now: `TX_LAT` is added (R57). -/
def State.txStamp (s : State) (p : Nat) : Nat := s.now + s.rd (R.TX_LAT p) * ftNs

/-- A frame leaves a port, with its stamp entry when one was requested (R59). -/
def State.sendEth (s : State) (p : Nat) (data : Bytes) (stamp : Option Nat) (status : Nat) : State :=
  let s1 := s.emit (.ethFrame p data)
  match stamp with
  | some id => s1.placeStamp p id status (s1.timeWordOf (s1.txStamp p))
  | none => s1

/-! ### Launch times (R62, R63) -/

/-- The frames that wait on a port, in submission order. -/
def State.launchQ (s : State) (p : Nat) : List LaunchFrame := smGet (fun _ => []) s.net.launch p

/-- Set the frames that wait on a port. -/
def State.setLaunchQ (s : State) (p : Nat) (v : List LaunchFrame) : State :=
  { s with net := { s.net with launch := smSet (fun _ => []) s.net.launch p v } }

/-- A launch-time frame is dropped: a status 0x3 entry when a stamp was requested (R59, R62, R68). -/
def State.dropStamp (s : State) (p : Nat) (stamp : Option Nat) : State :=
  match stamp with
  | some id => s.placeStamp p id 3 s.nowWord
  | none => s

/-- A frame is dropped as `LATE_LAUNCH` (R62). -/
def State.lateLaunch (s : State) (p : Nat) (stamp : Option Nat) : State :=
  ((s.bump (R.LATE_LAUNCH p)).dropStamp p stamp).event 0x2107 0 []

/-- The frames of a port whose launch time a step skipped are dropped as `LATE_LAUNCH` (R55).
[DEDUCED, log entry 15] -/
def State.stepLaunch (s : State) (a b p : Nat) : State :=
  let gone := fun (f : LaunchFrame) => decide (a ≤ f.launch) && decide (f.launch < b)
  let q := s.launchQ p
  (q.filter gone).foldl (fun t f => t.lateLaunch p f.stamp) (s.setLaunchQ p (q.filter (fun f => !gone f)))

/-! ### Trigger pins (R64 to R66) -/

/-- The next pulse start of a pin. -/
def State.tioNext (s : State) (n : Nat) : Option Nat := smGet (fun _ => none) s.net.tioNext n

/-- Set the next pulse start of a pin. -/
def State.setTioNext (s : State) (n : Nat) (v : Option Nat) : State :=
  { s with net := { s.net with tioNext := smSet (fun _ => none) s.net.tioNext n v } }

/-- The end of the pulse in progress on a pin. -/
def State.tioEnd (s : State) (n : Nat) : Option Nat := smGet (fun _ => none) s.net.tioEnd n

/-- Set the end of the pulse in progress on a pin. -/
def State.setTioEnd (s : State) (n : Nat) (v : Option Nat) : State :=
  { s with net := { s.net with tioEnd := smSet (fun _ => none) s.net.tioEnd n v } }

/-- `TIO_START` as a full time in 2^−16 ns. -/
def State.tioStart (s : State) (n : Nat) : Nat := (ftOfWord (s.rd (R.TIO_START n))).getD 0

/-- The first grid point of a periodic trigger that is not before `t`, and how many points lie before `t` (R64).
[DEDUCED, log entry 19] -/
def gridFrom (start period t : Nat) : Nat × Nat :=
  if t ≤ start then (start, 0)
  else
    let m := ceilDiv (t - start) period
    (start + m * period, m)

/-- A pin's next pulse from its present settings (R64, R65). `count` says that passed pulses count as missed, as they do
when the settings are written.
[DEDUCED, log entry 19] -/
def State.tioArm (s : State) (n : Nat) (count : Bool) : State :=
  let t := s.now + 100 * ftNs
  let start := s.tioStart n
  match s.rd (R.TIO_MODE n) with
  | 4 =>
    if t ≤ start then s.setTioNext n (some start)
    else
      let s1 := s.setTioNext n none
      if count then (s1.bump (R.TIO_MISSED n)).event 0x2108 0 [] else s1
  | 5 =>
    let g := gridFrom start (s.rd (R.TIO_PERIOD n) * ftNs) t
    let s1 := s.setTioNext n (some g.1)
    if count && g.2 ≠ 0 then (s1.bumpN (R.TIO_MISSED n) g.2).event 0x2108 0 [] else s1
  | _ => s.setTioNext n none

/-- After a step from `a` to `b` a pin resumes at the first grid point at least 100 ns after `b`; points inside are
neither driven nor counted (R66).
[DEDUCED, log entry 15] -/
def State.stepTio (s : State) (a b n : Nat) : State :=
  match s.rd (R.TIO_MODE n), s.tioNext n with
  | 5, some _ =>
    s.setTioNext n (some (gridFrom (s.tioStart n) (s.rd (R.TIO_PERIOD n) * ftNs) (b + 100 * ftNs)).1)
  | 4, some t => if decide (a ≤ t) && decide (t < b) then s.setTioNext n none else s
  | _, _ => s

/-- The inactive level of a pin. -/
def State.tioIdle (s : State) (n : Nat) : Bool := s.rd (R.TIO_POL n) = 0

end Sys2Proof.Machine
end

