-- ==== Sys2Proof/Machine/Steps.lean ====
section
/-! DEFINITION. What a step of Meridian does to the rest of the device (R53, R55, R66, R101, R110, R144, R308). -/
namespace Sys2Proof.Machine

/-- One open slice at a step: it closes, or the fixed emitter's header stands for it (R55, R158). -/
def State.stepSlice (s : State) : State :=
  let k := s.snt.nextClose
  if s.rd R.SNT_STATE = 2 && s.snt.firstSlice ≤ k then s.closeSlice k
  else
    let r : Res := { slice := k, validT := s.sliceEnd k, mask := 0, oldest := none, dist := 0xFFFF,
                     flags := 32 * boolNat s.replaying, verdict := 3, changes := [], out := 0 }
    s.mapSnt fun n => { n with waiting := n.waiting ++ [r], nextClose := k + 1 }

/-- The open slices up to slice `last`, in order. -/
def stepSlices : Nat → Nat → State → State
  | 0, _, s => s
  | n + 1, last, s =>
    if last < s.snt.nextClose then s
    else if (s.rd R.SNT_STATE = 2 && s.snt.firstSlice ≤ s.snt.nextClose) || s.snt.failFrom ≠ none then
      stepSlices n last s.stepSlice
    else s

/-- Sentinel at a step: before the clock moves every open slice closes (R55).
[DEDUCED, log entry 15] -/
def State.stepSentinelBefore (s : State) : State :=
  let last := s.sliceOf s.now
  stepSlices (2 * (last + 1 - s.snt.nextClose) + 2) last s

/-- Sentinel at a step: the first slice after it is the one that holds `b`, and the Plate is cleared (R55, R144).
[DEDUCED, log entry 15] -/
def State.stepSentinelAfter (s : State) (b : Nat) : State :=
  let k := s.sliceOf b
  let s1 := s.mapSnt fun n =>
    { n with nextClose := if n.failFrom = none then max k n.firstSlice else k, nextEnd := max k n.firstSlice, srcs := [],
             accs := [], integ := { n.integ with t := 0 } }
  if s.rd R.SNT_STATE = 2 then s1.clearPlate else s1

/-- Every slot's timers restart at the step (R101).
[DEDUCED, log entry 15] -/
def State.stepSlots (s : State) (b : Nat) : State :=
  { s with siu := { s.siu with slots := s.siu.slots.map (fun e => (e.1, { e.2 with timer := b })) } }

/-- A step of Meridian, made by `move`, with its effects in their order (R53, R55).
[DEDUCED, log entry 15] -/
def State.stepWith (s : State) (move : State → State) : State :=
  let a := s.now
  let s1 := move s.stepSentinelBefore
  let b := s1.now
  let s2 := ((s1.stepSentinelAfter b).stepTalus b).stepSlots b
  let s3 := (List.range s2.ethPorts).foldl (fun t p => t.stepLaunch a b p) s2
  let s4 := (List.range 16).foldl (fun t n => t.stepTio a b n) s3
  (s4.stepTimetable a b).clearFilter

/-- A step of Meridian by `d` ns (R53, R55).
[DEDUCED, log entry 15] -/
def State.meridianStep (s : State) (d : Int) : State := s.stepWith fun t => t.moveClock d

end Sys2Proof.Machine
end

