-- ==== Sys2Proof/Machine/Servo.lean ====
section
/-! DEFINITION. The servo: offset samples, lock states, path delays (R49 to R53, R562). -/
namespace Sys2Proof.Machine

/-- Steps 3 to 5 of R562: the frequency term is measured from `l` when it is given, and the sum is written.
[DEDUCED, log entry 18] -/
def State.servoRun (s : State) (l : Option (List OffSample)) : State :=
  let s1 := match l with
    | some x => s.measureFreq x
    | none => s
  s1.servoWrite (s1.mer.freq + s1.slewTerm)

/-- The sum of the offsets of samples, in 2^−16 ns. -/
def offSum (l : List OffSample) : Int := l.foldl (fun a o => a + o.off) 0

/-- The samples agree within 1 µs of their mean (R51). -/
def samplesAgree (l : List OffSample) : Bool :=
  let n : Int := l.length
  l.all (fun o => (n * o.off - offSum l).natAbs ≤ l.length * ftUs)

/-- An offset is within `LOCK_THR`; the offset is in 2^−16 ns and multiplied by `n`. -/
def State.withinLock (s : State) (off : Int) (n : Nat) : Bool := off.natAbs ≤ n * s.rd R.LOCK_THR * ftNs

/-- Entry to ACQUIRE or LOCKED from FREERUN, HOLDOVER or HOLDOVER_SUSPECT: the filter holds no sample (R562). -/
def State.enterFollow (s : State) (st : Nat) : State :=
  let s1 := s.setMer st
  { s1 with mer := { s1.mer with qual := [], run := 0, decide := false } }.clearFilter

/-- A source has qualified (R51): the first-lock step from FREERUN, none from HOLDOVER; the rate is then set. -/
def State.qualified (s : State) (q : List OffSample) : State :=
  let sum := offSum q
  let n := q.length
  if s.rd R.MER_STATE = 0 then
    ((s.meridianStep (roundDiv (-sum) ((n * ftNs : Nat) : Int))).enterFollow 2).servoRun (some q)
  else (s.enterFollow (if s.withinLock sum n then 2 else 1)).servoRun (some q)

/-- A sample in FREERUN or HOLDOVER (R51). -/
def State.qualSample (s : State) (o : OffSample) : State :=
  let n := s.rd R.ACQ_N
  let q := lastN n (s.mer.qual ++ [o])
  let s1 := { s with mer := { s.mer with qual := q } }
  if q.length = n && samplesAgree q then s1.qualified q else s1

/-- The 4-sample counts of R51, over `OFFSET`. -/
def State.lockRun (s : State) : State :=
  let inside := decide (s.offset.natAbs ≤ s.rd R.LOCK_THR)
  let st := s.rd R.MER_STATE
  let counts := if st = 2 then !inside else inside
  let n := if counts then s.mer.run + 1 else 0
  if 4 ≤ n then { s with mer := { s.mer with run := 0 } }.setMer (if st = 2 then 1 else 2)
  else { s with mer := { s.mer with run := n } }

/-- A sample in ACQUIRE or LOCKED (R46, R51, R562). -/
def State.followSample (s : State) (o : OffSample) : State :=
  let n := s.rd R.ACQ_N
  let acc := lastN n (s.mer.acc ++ [o])
  let s1 := { s with mer := { s.mer with acc := acc, accN := s.mer.accN + 1 } }
  let s2 :=
    if s1.mer.decide then { s1 with mer := { s1.mer with decide := false, run := 0 } }.setMer (if s1.withinLock o.off 1 then 2 else 1)
    else s1.lockRun
  s2.servoRun (if n ≤ s2.mer.accN then some acc else none)

/-- An offset sample (R49, R51, R562).
[DEDUCED, log entry 16] -/
def State.offsetSample (s : State) (o : OffSample) : State :=
  match s.rd R.MER_STATE with
  | 0 => (s.filterSample o).qualSample o
  | 3 => (s.filterSample o).qualSample o
  | 4 =>
    if s.mer.suspect ≠ none then s.bump R.OFFSET_REJ
    else (((s.filterSample o).acceptPd).enterFollow (if s.withinLock o.off 1 then 2 else 1)).servoRun none
  | _ => (s.filterSample o).followSample o

/-! ### Path delay (R49, R51) -/

/-- The median of up to three results, the mean of two truncated (R49).
[DEDUCED, log entry 16] -/
def medianNat (l : List Nat) : Nat :=
  match l with
  | [a] => a
  | [a, b] => (a + b) / 2
  | [a, b, c] => max (min a b) (min (max a b) c)
  | _ => 0

/-- The path delay `v` is accepted (R49). -/
def State.setPd (s : State) (v : Nat) : State := { s with mer := { s.mer with pd := some v } }.wr R.SRC_PD v

/-- A new `MEAN_PD` of the slave port; `old` is the value before it (R49, R51).
[DEDUCED, log entry 16] -/
def State.slavePd (s : State) (old : Option Nat) (v : Nat) : State :=
  let thr := s.rd R.PD_JUMP_THR
  let far := fun (a b : Nat) => decide (thr < (max a b) - (min a b))
  let st := s.rd R.MER_STATE
  let jump := match old with
    | some o => far o v
    | none => false
  if (st = 1 || st = 2) && jump then
    (({ s with mer := { s.mer with suspect := some [v], qual := [], run := 0, decide := false } }.event 0x2104 0 []).setMer
      4).freezeRate
  else if st = 4 then
    match s.mer.suspect with
    | none => s
    | some l =>
      let w := lastN (s.rd R.PD_STABLE_N) (l ++ [v])
      if w.length = s.rd R.PD_STABLE_N && w.all (fun x => !far (w.headD 0) x) then
        { s with mer := { s.mer with suspect := none } }.setPd v
      else { s with mer := { s.mer with suspect := some w } }
  else s.setPd v

/-- A Pdelay result of a port, in ns (R49).
[DEDUCED, log entry 16] -/
def State.pdResult (s : State) (p v : Nat) : State :=
  let q := s.ptpPort p
  let old := if q.results = [] then none else some (s.rd (R.MEAN_PD p))
  let rs := lastN 3 (q.results ++ [v])
  let m := medianNat rs
  let s1 := (s.setPtpPort p { q with results := rs }).wr (R.MEAN_PD p) m
  if s1.mer.slave = some p then s1.slavePd old m else s1

end Sys2Proof.Machine
end

