-- ==== Sys2Proof/Machine/TimeCmds.lean ====
section
/-! DEFINITION. The commands of Meridian and network time (chapter 02). -/
namespace Sys2Proof.Machine

/-! ### The rate and the source (R43, R44, R46) -/

/-- The effect of a write of `RATE_ADJ` (R44, R68): refused with `SERVO_OWNS` while the servo owns it. -/
def State.rateWrite (s : State) (v : Nat) : State × Nat :=
  if s.rd R.SERVO_EN = 1 then (s, 0x2101) else (s.setRate (sgnOf 32 v), 0)

/-- `RATE_ADJ_WRITE` (R44). -/
def execRateAdjWrite (r : Route) (v : BitVec 32) (s : State) : Host.Outcome State Fault Refusal :=
  s.run fun s => s.hostWrite r.val 0x2100 4 (toLe 4 v.toNat) fun s => s.rateWrite v.toNat

/-- The servo takes `RATE_ADJ` back at once in HOLDOVER and HOLDOVER_SUSPECT (R44). -/
def State.servoEnable (s : State) (v : Nat) : State :=
  let s1 := s.wr R.SERVO_EN v
  if v = 1 && s.rd R.SERVO_EN = 0 && (s.rd R.MER_STATE = 3 || s.rd R.MER_STATE = 4) then s1.freezeRate else s1

/-- `SERVO_EN_WRITE` (R44). -/
def execServoEnWrite (r : Route) (v : Bool) (s : State) : Host.Outcome State Fault Refusal :=
  s.run fun s => s.hostWrite r.val 0x2100 5 (toLe 1 (boolNat v)) fun s => (s.servoEnable (boolNat v), 0)

/-- `SRC_SEL_WRITE` (R46). -/
def execSrcSelWrite (r : Route) (v : BitVec 8) (s : State) : Host.Outcome State Fault Refusal :=
  s.run fun s => s.hostWrite r.val 0x2100 6 (toLe 1 v.toNat) fun s => ((s.wr R.SRC_SEL v.toNat).reselect, 0)

/-! ### PTP messages (R48, R49, R563, R564) -/

/-- What R563 does with a message before its type's own meaning. -/
def State.ptpMsg (s : State) (p : Nat) (m : PtpMsg) (bad : Bool) (f : State → State) : State :=
  if !s.ptpOn p || m.domain ≠ s.rd R.DOMAIN_NUM then s
  else if m.short || m.version ≠ 2 || decide (1000000000 ≤ m.tsNs) || bad then s.bump (R.BAD_MSG p)
  else f s

/-- The time stamp of a message with its correction, in 2^−16 ns. -/
def ptpFt (m : PtpMsg) : Int := ((m.tsSec * 1000000000 + m.tsNs) * ftNs : Nat) + m.correction

/-- The ingress stamp of a frame that arrives now (R57). -/
def State.rxStamp (s : State) (p : Nat) : Nat := s.now - s.rd (R.RX_LAT p) * ftNs

/-- A message the device sends, with a time stamp floored to the nanosecond. -/
def State.ptpOwn (s : State) (seq : Nat) (log : Int) (t : Nat) : PtpMsg :=
  let o := s.ownVec
  { short := false, version := 2, domain := s.rd R.DOMAIN_NUM, seqId := seq % 65536, twoStep := true, logInterval := log,
    correction := 0, tsSec := t / ftSec, tsNs := t / ftNs % 1000000000, source := Config.ownClock 3, gm := o.getD 5 0,
    prio1 := o.getD 0 0, clockClass := o.getD 1 0, accuracy := o.getD 2 0, variance := o.getD 3 0, prio2 := o.getD 4 0,
    steps := 0, utcOffset := s.rdI 16 R.UTC_OFFSET }

/-- A Sync has been taken: its record waits for the Follow_Up, and the source has been heard (R49, R51).
[DEDUCED, log entry 16] -/
def State.takeSync (s : State) (p : Nat) (m : PtpMsg) : State :=
  let q := s.ptpPort p
  let x : SyncRec := { seqId := m.seqId, stamp := s.rxStamp p, corr := m.correction,
                       asym := s.rdI 32 (R.ASYM p), tclk := s.tclk, adj := s.mer.adjSum }
  let s1 := s.setPtpPort p { q with sync := some x }
  if s1.mer.slave = some p then
    { s1 with mer := { s1.mer with lastSync := s1.tclk, syncLog := m.logInterval, syncLost := false } }.reselect
  else s1

/-- `SYNC` (R49, R563): stamped, and held for its Follow_Up. A Sync of the slave port ends a loss. -/
def execSync (p : Fin 16) (m : PtpMsg) (s : State) : Host.Outcome State Fault Refusal :=
  s.run fun s => s.ptpMsg p.val m (!m.twoStep) fun s => s.takeSync p.val m

/-- The source in use is the PTP slave port `p`. -/
def State.timeFrom (s : State) (p : Nat) : Bool := match s.mer.src with
  | some (.ptp q _) => q = p
  | _ => false

/-- A Follow_Up has been taken: with the Sync of its sequence ID it gives an offset sample (R49). -/
def State.takeFollowUp (s : State) (p : Nat) (m : PtpMsg) : State :=
  let q := s.ptpPort p
  match q.sync with
  | none => s
  | some x =>
    if x.seqId ≠ m.seqId then s
    else
      let s1 := s.setPtpPort p { q with sync := none }
      match s1.mer.pd with
      | some d =>
        if s1.mer.slave = some p && s1.timeFrom p then
          s1.offsetSample { off := (x.stamp : Int) - (ptpFt m + x.corr + ((d : Int) + x.asym) * 65536), stamp := x.stamp,
                            tclk := x.tclk, adj := x.adj }
        else s1
      | none => s1

/-- `FOLLOW_UP` (R49): completes the Sync it belongs to; the slave port's gives an offset sample once it has an accepted
path delay. -/
def execFollowUp (p : Fin 16) (m : PtpMsg) (s : State) : Host.Outcome State Fault Refusal :=
  s.run fun s => s.ptpMsg p.val m false fun s => s.takeFollowUp p.val m

/-- A Pdelay_Req is answered with both its responses (R48, R49). -/
def State.answerPdelay (s : State) (p : Nat) (m : PtpMsg) : State :=
  (s.emit (.ptp p .pdelayResp (s.ptpOwn m.seqId m.logInterval (s.rxStamp p)))).emit
    (.ptp p .pdelayRespFollowUp (s.ptpOwn m.seqId m.logInterval (s.txStamp p)))

/-- `PDELAY_REQ` (R48, R564): answered with the receipt and the response stamps. -/
def execPdelayReq (p : Fin 16) (m : PtpMsg) (s : State) : Host.Outcome State Fault Refusal :=
  s.run fun s => s.ptpMsg p.val m false fun s => s.answerPdelay p.val m

/-- A Pdelay_Resp to the request in progress gives t2 and t4 (R48). -/
def State.takePdelayResp (s : State) (p : Nat) (m : PtpMsg) : State :=
  match (s.ptpPort p).req with
  | some (seq, _) =>
    if seq = m.seqId then s.setPtpPort p { s.ptpPort p with resp := some (ptpFt m, (s.rxStamp p : Int)) } else s
  | none => s

/-- `PDELAY_RESP` (R48): to the port's own request. -/
def execPdelayResp (p : Fin 16) (m : PtpMsg) (s : State) : Host.Outcome State Fault Refusal :=
  s.run fun s => s.ptpMsg p.val m false fun s => s.takePdelayResp p.val m

/-- The neighborRateRatio from two successive pairs (t3, t4); kept where the spec gives none.
[PRESUMED, log entry 17] -/
def newRatio (old : Int × Int) (prev : Option (Int × Int)) (t3 t4 : Int) : Int × Int := match prev with
  | some (a, b) => if t4 ≤ b || t3 ≤ a then old else (t3 - a, t4 - b)
  | none => old

/-- A Pdelay_Resp_Follow_Up gives t3, and with it the delay and the rate ratio (R48, R49).
[DEDUCED, log entry 16; PRESUMED, log entry 17] -/
def State.takePdelayFollowUp (s : State) (p : Nat) (m : PtpMsg) : State :=
  let q := s.ptpPort p
  match q.req, q.resp with
  | some (seq, t1), some (t2, t4) =>
    if seq ≠ m.seqId then s
    else
      let t3 := ptpFt m
      let r := newRatio q.nrr q.prev t3 t4
      let v := (((t4 - t1) * r.1 - (t3 - t2) * r.2).tdiv (2 * 65536 * r.2)).toNat
      let s1 := s.setPtpPort p { q with req := none, resp := none, prev := some (t3, t4), nrr := r }
      let ppb := clampInt (-(2 ^ 31)) (2 ^ 31 - 1) (roundDiv ((r.1 - r.2) * 1000000000) r.2)
      (s1.wr (R.NRR p) (ofSgn 32 ppb)).pdResult p (min v maxCount)
  | _, _ => s

/-- `PDELAY_RESP_FOLLOW_UP` (R48, R49): a path delay result, scaled by neighborRateRatio. -/
def execPdelayRespFollowUp (p : Fin 16) (m : PtpMsg) (s : State) : Host.Outcome State Fault Refusal :=
  s.run fun s => s.ptpMsg p.val m false fun s => s.takePdelayFollowUp p.val m

/-- An Announce has been taken: the port's best master candidate, and the UTC offset of the source (R48, R564). -/
def State.takeAnnounce (s : State) (p : Nat) (m : PtpMsg) : State :=
  let a : AnnInfo := { vec := [m.prio1, m.clockClass, m.accuracy, m.variance, m.prio2, m.gm, m.steps, m.source],
                       gm := m.gm, at_ := s.tclk, log := m.logInterval }
  let s1 := (s.setPtpPort p { s.ptpPort p with ann := some a }).reselect
  if s1.timeFrom p then s1.wr R.UTC_OFFSET (ofSgn 16 m.utcOffset) else s1

/-- `ANNOUNCE` (R47, R48, R564): the port's information is renewed and the BMCA runs; with a PTP source in use,
`UTC_OFFSET` is the slave port's. -/
def execAnnounce (p : Fin 16) (m : PtpMsg) (s : State) : Host.Outcome State Fault Refusal :=
  s.run fun s => s.ptpMsg p.val m false fun s => s.takeAnnounce p.val m

/-- 2^`log` s in TCLK cycles. -/
def intervalTclk (log : Int) : Nat :=
  if 0 ≤ log then 500000000 * 2 ^ log.toNat else 500000000 / 2 ^ (-log).toNat

/-- `ANNOUNCE_RECEIPT_TIMEOUT` (R48, R564): three intervals without an Announce. -/
def execAnnounceReceiptTimeout (p : Fin 16) (s : State) : Host.Outcome State Fault Refusal :=
  s.run fun s => match (s.ptpPort p.val).ann with
    | none => s
    | some a =>
      if s.tclk < a.at_ + 3 * intervalTclk a.log then s
      else (s.setPtpPort p.val { s.ptpPort p.val with ann := none }).reselect

/-- `ANNOUNCE_TX` (R48): a Master port announces the device's own vector. -/
def execAnnounceTx (p : Fin 16) (s : State) : Host.Outcome State Fault Refusal :=
  s.run fun s =>
    if !s.ptpOn p.val || s.rd (R.PORT_STATE p.val) ≠ 6 then s
    else
      let q := s.ptpPort p.val
      (s.setPtpPort p.val { q with seqTx := (q.seqTx + 1) % 65536 }).emit (.ptp p.val .announce (s.ptpOwn q.seqTx 0 s.now))

/-- `SYNC_TX` (R48, R68): a Master port sends a Sync and its Follow_Up. -/
def execSyncTx (p : Fin 16) (s : State) : Host.Outcome State Fault Refusal :=
  s.run fun s =>
    if !s.ptpOn p.val || s.rd (R.PORT_STATE p.val) ≠ 6 then s
    else
      let q := s.ptpPort p.val
      let log := s.rdI 8 (R.LOG_SYNC p.val)
      ((s.setPtpPort p.val { q with seqTx := (q.seqTx + 1) % 65536 }).emit (.ptp p.val .sync (s.ptpOwn q.seqTx log 0))).emit
        (.ptp p.val .followUp (s.ptpOwn q.seqTx log (s.txStamp p.val)))

/-- `PDELAY_REQ_TX` (R564): Pdelay runs on every enabled port in every state. -/
def execPdelayReqTx (p : Fin 16) (s : State) : Host.Outcome State Fault Refusal :=
  s.run fun s =>
    if !s.ptpOn p.val then s
    else
      let q := s.ptpPort p.val
      let q1 := { q with seqTx := (q.seqTx + 1) % 65536, req := some (q.seqTx, (s.txStamp p.val : Int)), resp := none }
      (s.setPtpPort p.val q1).emit (.ptp p.val .pdelayReq (s.ptpOwn q.seqTx (s.rdI 8 (R.LOG_PDELAY p.val)) 0))

/-- `SOURCE_LOSS` (R46, R51): no Sync for `SRC_LOSS_N` intervals, or no qualified PPS for 2 s. -/
def execSourceLoss (s : State) : Host.Outcome State Fault Refusal :=
  s.run fun s => match s.mer.src with
    | some (.ptp _ _) =>
      if s.tclk < s.mer.lastSync + s.rd R.SRC_LOSS_N * intervalTclk s.mer.syncLog then s
      else { s with mer := { s.mer with syncLost := true } }.reselect
    | some .gnss => s.reselect
    | none => s

/-! ### Critical writes (R54, R56, R58) -/

/-- A launch-time frame waits on some port. -/
def State.launchWaits (s : State) : Bool := (List.range 16).any (fun p => s.launchQ p ≠ [])

/-- The refusals of `RESTEP` (R54). -/
def restepCheck (v : Bytes) (s : State) : Nat :=
  let d := sgnOf 64 (leNat v)
  if 0 ≤ d then 0
  else if ((s.clock.sec * 1000000000 + s.clock.ns : Nat) : Int) + d < 0 then 0x2004
  else if (List.range 96).any (fun i => s.rd (R.SLOT_EN i) = 1) || s.rd R.SNT_STATE = 2 || s.launchWaits then 0x2102
  else 0

/-- The effect of `RESTEP` (R51, R53, R54).
[DEDUCED, log entry 15] -/
def restepApply (v : Bytes) (s : State) : State :=
  let d := sgnOf 64 (leNat v)
  if d = 0 then s
  else
    let s1 := s.meridianStep d
    match s.rd R.MER_STATE with
    | 0 => { s1 with mer := { s1.mer with qual := [] } }
    | 3 => s1
    | 4 => let s2 := s1.acceptPd.setMer 2; { s2 with mer := { s2.mer with suspect := none, run := 0 } }
    | _ => let s2 := s1.setMer 1; { s2 with mer := { s2.mer with run := 0, decide := false } }

/-- `RESTEP` (R54). -/
def execRestep (r : Route) (cr : CommitRec) (s : State) : Host.Outcome State Fault Refusal :=
  s.run fun s => s.commit r.val 0x2100 0x0C cr restepCheck restepApply

/-- A commit that its target never refuses. -/
def noCheck (_ : Bytes) (_ : State) : Nat := 0

/-- The effect of a committed value that only sets its entry. -/
def keyApply (k : Nat) (v : Bytes) (s : State) : State := s.wr k (keepFields (k / 256) (k % 256) (leNat v))

/-- `ASYM` (R56): used from the next Sync. -/
def execAsym (r : Route) (p : Fin 16) (cr : CommitRec) (s : State) : Host.Outcome State Fault Refusal :=
  s.run fun s => s.commit r.val (0x2110 + p.val) 3 cr noCheck (keyApply (R.ASYM p.val))

/-- The entry a parameter names: index and subindex. -/
def cwEntry : CwParam → Nat × Nat
  | .rxLat p => (0x2110 + p.val, 4)
  | .txLat p => (0x2110 + p.val, 5)
  | .ppsLat n => (0x2130 + n.val, 2)
  | .deserLat i => (0x2200 + i.val, 0x0C)
  | .flipAddr c => (0x2C10 + c.val, 2)

/-- `CW_PARAM_COMMIT` (R58, R480). -/
def execCwParamCommit (r : Route) (t : CwParam) (cr : CommitRec) (s : State) : Host.Outcome State Fault Refusal :=
  s.run fun s => s.commit r.val (cwEntry t).1 (cwEntry t).2 cr noCheck (keyApply (entryKey (cwEntry t).1 (cwEntry t).2))

/-- `LOCKOUT_END` (R482). -/
def execLockoutEnd (s : State) : Host.Outcome State Fault Refusal :=
  s.run fun s => match s.routes.lockUntil with
    | some t => if s.tclk < t then s else { s with routes := { s.routes with lockUntil := none } }
    | none => s

/-! ### Frames (R59 to R63, R68) -/

/-- `LAUNCH_FRAME_SUBMIT` (R62, R68). -/
def execLaunchFrameSubmit (p : Fin 16) (launch : BitVec 128) (data : Bytes) (stamp : Option (BitVec 16)) (s : State) :
    Host.Outcome State Fault Refusal :=
  s.run fun s => match ftOfWord launch.toNat with
    | none => s
    | some t =>
      let id := stamp.map (fun x => x.toNat)
      if s.ethPorts ≤ p.val then s
      else if s.replaying then s.dropStamp p.val id
      else if t < s.now + 400 * ftNs then s.lateLaunch p.val id
      else if s.now + ftSec < t then s
      else s.setLaunchQ p.val (s.launchQ p.val ++ [{ launch := t, data := data, stamp := id, slipped := false }])

/-- `LAUNCH_TIME_REACHED` (R62, R63): the head's time has come; on a busy line it waits and is counted. -/
def execLaunchTimeReached (p : Fin 16) (busy : Bool) (s : State) : Host.Outcome State Fault Refusal :=
  s.run fun s => match s.launchQ p.val with
    | [] => s
    | f :: rest =>
      if s.now < f.launch then s
      else if busy then
        if f.slipped then s else (s.setLaunchQ p.val ({ f with slipped := true } :: rest)).bump (R.LAUNCH_SLIP p.val)
      else (s.setLaunchQ p.val rest).sendEth p.val f.data f.stamp (if f.slipped then 2 else 1)

/-- `FRAME_TRANSMIT` (R59). -/
def execFrameTransmit (p : Fin 16) (data : Bytes) (stamp : Option (BitVec 16)) (s : State) :
    Host.Outcome State Fault Refusal :=
  s.run fun s => if s.ethPorts ≤ p.val then s else s.sendEth p.val data (stamp.map (fun x => x.toNat)) 0

/-- A read of `TS_POP` (R59): the head entry is returned and removed; zeros when the queue is empty. A broken entry is reported
as it is read (R404).
[DESIGN CHOICE, log entry 12] -/
def State.tsPop (s : State) (p : Nat) : Bytes × State := match s.stamps p with
  | [] => (toLe 24 0, s)
  | e :: t =>
    let s1 := s.setStamps p t
    (toLe 24 e, if parityBits (e / 2 ^ 192) = 0 then s1 else s1.smallParity 0x7000 p (e / 2 ^ 192))

/-- `TS_POP` (R59). -/
def execTsPop (r : Route) (p : Fin 16) (s : State) : Host.Outcome State Fault Refusal :=
  s.run fun s => s.hostRead r.val (0x2110 + p.val) 0x0A 24 fun s => s.tsPop p.val

/-! ### Trigger pins (R64 to R68) -/

/-- The subindex of a timing entry. -/
def tioSub : TioField → Nat
  | .start => 2
  | .period => 3
  | .width => 4

/-- The effect of a write of a pin's timing entry (R15, R64, R65): the next pulse follows it.
[DEDUCED, log entry 19] -/
def State.tioWrite (s : State) (n sub : Nat) (data : Bytes) : State × Nat :=
  if sub = 2 && ftOfWord (leNat data) = none then (s, 0x2006)
  else
    let s1 := s.wr (entryKey (0x2120 + n) sub) (leNat data)
    (if sub = 4 then s1 else s1.tioArm n (sub = 2), 0)

/-- `TIO_START_WRITE` (R15, R64, R65).
[DEDUCED, log entry 19] -/
def execTioStartWrite (r : Route) (n : Fin 16) (which : TioField) (data : Bytes) (s : State) :
    Host.Outcome State Fault Refusal :=
  s.run fun s => s.hostWrite r.val (0x2120 + n.val) (tioSub which) data fun s => s.tioWrite n.val (tioSub which) data

/-- `TIO_PULSE` (R64, R68): the next pulse starts; in replay it is counted and not driven. -/
def execTioPulse (n : Fin 16) (s : State) : Host.Outcome State Fault Refusal :=
  s.run fun s => match s.tioNext n.val with
    | none => s
    | some t =>
      if s.now < t || s.tioEnd n.val ≠ none then s
      else
        let nx := if s.rd (R.TIO_MODE n.val) = 5 then some (t + s.rd (R.TIO_PERIOD n.val) * ftNs) else none
        let s1 := s.setTioNext n.val nx
        if s1.replaying then s1.bump (R.TIO_REPLAY n.val)
        else (s1.setTioEnd n.val (some (t + s1.rd (R.TIO_WIDTH n.val) * ftNs))).emit (.tio n.val (!s1.tioIdle n.val))

/-- `TIO_PULSE_END` (R64). -/
def execTioPulseEnd (n : Fin 16) (s : State) : Host.Outcome State Fault Refusal :=
  s.run fun s => match s.tioEnd n.val with
    | none => s
    | some t => if s.now < t then s else (s.setTioEnd n.val none).emit (.tio n.val (s.tioIdle n.val))

end Sys2Proof.Machine
end

