-- ==== Sys2Proof/Machine/ColCmds.lean ====
section
/-! DEFINITION. The Col links and the Range: training, loss, flits received, share maps, peers (R443 to R456). -/
namespace Sys2Proof.Machine

/-! ### Links (R444, R447) -/

/-- The link exists and its domain is on. -/
def State.linkOn (s : State) (l : Nat) : Bool := resourcePresent s.variant (0x2D90 + l) 1 && s.entryPowered (0x2D90 + l)

/-- `SEQ` that the next flit of a link carries; none right after training. -/
def State.nextSeq (s : State) (l : Nat) : Option Nat :=
  let n := smGet (fun _ => 65536) s.host.seqRx l
  if n = 65536 then none else some n

/-- `COL_LINK_TRAINED` (R444): the far end's Range ID and image. A link that is UP does not train.
[DEDUCED, log entry 49] -/
def execColLinkTrained (l : Fin 6) (peer : Fin 8) (image : BitVec 64) (variant : Fin 4) (s : State) :
    Host.Outcome State Fault Refusal :=
  s.run fun s =>
    if !s.linkOn l.val || s.rd (R.LINK_STATE l.val) = 2 || variant.val = 0 then s
    else if peer.val = s.host.rangeId then (s.wr (R.LINK_STATE l.val) 3).event 0x2D22 0 []
    else ((s.wr (R.LINK_STATE l.val) 2).wr (R.LINK_PEER l.val) peer.val).mapHost fun h =>
      { h with linkImage := smSet (fun _ => 0) h.linkImage l.val image.toNat,
               seqRx := smSet (fun _ => 65536) h.seqRx l.val 65536,
               seqTx := smSet (fun _ => 0) h.seqTx l.val 0,
               badRun := smSet (fun _ => 0) h.badRun l.val 0 }

/-- A link goes DOWN: D031; it then retrains (R447). -/
def State.linkDown (s : State) (l : Nat) : State :=
  (((s.wr (R.LINK_STATE l) 0).wr (R.LINK_PEER l) 0xFF).bump (R.COL_DOWNS l)).detect 31 0 []

/-- `COL_LINK_DOWN` (R447): lane lock is lost. -/
def execColLinkDown (l : Fin 6) (s : State) : Host.Outcome State Fault Refusal :=
  s.run fun s => if s.rd (R.LINK_STATE l.val) = 2 then (s.injHere 31 l.val).linkDown l.val else s

/-! ### Flits (R443, R447, R448) -/

/-- A flit that is discarded: D030, and D031 at the sixteenth in a row (R447).
[DEDUCED, log entry 49] -/
def State.badFlit (s : State) (l : Nat) (next : Option Nat) : State :=
  let n := smGet (fun _ => 0) s.host.badRun l + 1
  let s1 := s.mapHost fun h => { h with badRun := smSet (fun _ => 0) h.badRun l (if n < 16 then n else 0),
                                        seqRx := smSet (fun _ => 65536) h.seqRx l (next.getD 65536) }
  let s2 := (s1.bump (R.COL_CRC l)).detect 30 0 []
  if n < 16 then s2 else s2.linkDown l

/-- A flit has passed the link's checks: its sequence number is the last taken.
[DEDUCED, log entry 49] -/
def State.flitTaken (s : State) (l : Nat) (f : Flit) : State :=
  s.mapHost fun h => { h with badRun := smSet (fun _ => 0) h.badRun l 0,
                              seqRx := smSet (fun _ => 65536) h.seqRx l ((f.seqNo.toNat + 1) % 65536) }

/-- A flit is received on a link: its checks, then `body` at the device it is for, or its way on (R443, R444, R447, R448). -/
def State.colRx (s : State) (l : Nat) (f : Flit) (typ : Nat) (body : State → State) : State :=
  let after := fun (n : Nat) => some ((n + 1) % 65536)
  if !s.linkOn l || s.rd (R.LINK_STATE l) ≠ 2 || f.typ.toNat ≠ typ then s
  else if !f.crcOk || s.injArmed 30 l then (s.injHere 30 l).badFlit l ((s.nextSeq l).bind after)
  else if s.nextSeq l ≠ none && s.nextSeq l ≠ some f.seqNo.toNat then s.badFlit l (after f.seqNo.toNat)
  else
    let s1 := s.flitTaken l f
    if smGet (fun _ => 0) s.host.linkImage l ≠ s.rd R.IMAGE_ID then s1.bump R.XCH_FOREIGN
    else if f.dstRid.val ≠ s.host.rangeId then
      s1.passFlit typ f.agent.toNat f.srcRid.val f.dstRid.val f.tag.toNat f.addr.toNat f.poison f.payload
    else body s1

/-- The agent that a peer's access carries on this device (R19).
[DEDUCED, log entry 49] -/
def colAgent (f : Flit) : Nat := 0x8000 + f.srcRid.val

/-- The device address of a flit's local address on this device. -/
def State.flitAddr (s : State) (f : Flit) : Nat := s.host.rangeId * 2 ^ 45 + localPart f.addr.toNat

/-- A peer's write is carried out and acknowledged (R448).
[DEDUCED, log entry 49] -/
def State.peerWrite (s : State) (f : Flit) : State :=
  let (st, s1) := s.devWrite (colAgent f) (s.flitAddr f) f.payload f.poison
  if st = .ok then s1.sendFlit 2 (colAgent f) f.srcRid.val f.tag.toNat f.addr.toNat false [] else s1

/-- `COL_WRITE` (R448): the write is applied and acknowledged. A write that reaches no memory is not acknowledged, and its
writer's access fails after 40 µs. -/
def execColWrite (l : Fin 6) (f : Flit) (s : State) : Host.Outcome State Fault Refusal :=
  s.run fun s => s.colRx l.val f 1 fun s => s.peerWrite f

/-- An acknowledgement ends the write it names (R448). -/
def State.peerAck (s : State) (f : Flit) : State :=
  if s.host.remote.any (fun a => a.tag = f.tag.toNat && a.write) then s.dropRemote f.tag.toNat else s

/-- `COL_WRITE_ACK` (R448). -/
def execColWriteAck (l : Fin 6) (f : Flit) (s : State) : Host.Outcome State Fault Refusal :=
  s.run fun s => s.colRx l.val f 2 fun s => s.peerAck f

/-- A peer's read is carried out and answered (R448). -/
def State.peerRead (s : State) (f : Flit) : State :=
  let r := s.devRead (colAgent f) (s.flitAddr f) (min flitMax (leNat f.payload)) none
  if r.st = .ok then r.s.sendFlit 4 (colAgent f) f.srcRid.val f.tag.toNat f.addr.toNat r.poison r.data
  else if r.st = .stall then s else r.s

/-- `COL_READ_REQUEST` (R448): the read is answered with a read response. A read that reaches no memory is not answered. -/
def execColReadRequest (l : Fin 6) (f : Flit) (s : State) : Host.Outcome State Fault Refusal :=
  s.run fun s => s.colRx l.val f 3 fun s => s.peerRead f

/-- A response ends the read it names with its data (R435, R448). -/
def State.peerData (s : State) (f : Flit) : State :=
  match s.host.remote.find? (fun a => a.tag = f.tag.toNat && !a.write) with
  | none => s
  | some a =>
    let s1 := (s.dropRemote a.tag).emit (.hostRead (a.agent % 4096) true f.poison (padTo a.len f.payload))
    if f.poison then (s1.wr R.DP_ERR 6).wr R.DP_ERR_ADDR a.addr else s1

/-- `COL_READ_RESPONSE` (R448): the data port's read completes, poisoned as the response is (R416, R435). -/
def execColReadResponse (l : Fin 6) (f : Flit) (s : State) : Host.Outcome State Fault Refusal :=
  s.run fun s => s.colRx l.val f 4 fun s => s.peerData f

/-- `COL_CAIRN_OPERATION` (R368): a peer's forward, a signal-add of the value it carries. -/
def execColCairnOperation (l : Fin 6) (f : Flit) (s : State) : Host.Outcome State Fault Refusal :=
  s.run fun s => s.colRx l.val f 5 fun s => s.sigAdd (colAgent f) (f.addr.toNat % 2 ^ 14) (leAt f.payload 0 4)

/-! ### Share maps and peers (R445, R449, R451, R456) -/

/-- `LIVE` of a declared share map (R449). -/
def State.mapLive (s : State) (k : Nat) : Nat := leAt (s.obj (0x5700 + k)) 0 1

/-- The lowest epoch whose instant is at or after `t`. -/
def State.epochAt (s : State) (t : Nat) : Nat :=
  let m := s.epochOf t
  if 0 < m && t ≤ s.instant (m - 1) then m - 1 else m

/-- `MAP_SEL`'s own check (R451). -/
def mapSelCheck (v : Bytes) (s : State) : Nat :=
  let k := leAt v 0 1
  let e := leAt v 8 8
  if 8 ≤ k || s.obj (0x5700 + k) = [] then 0x2D01
  else if s.instant e < s.now + 1000 * ftUs then 0x2D02
  else if (bitsSet 8 (s.mapLive k)).any (fun r => r ≠ s.host.rangeId && !s.reachable r) then 0x2D03
  else 0

/-- `MAP_SEL`'s effect: the map is selected from epoch E (R451). -/
def mapSelApply (v : Bytes) (s : State) : State :=
  (s.wr R.MAP_SEL (leNat v)).mapHost fun h => { h with mapPend := some (leAt v 0 1, leAt v 8 8) }

/-- `MAP_SEL` (R451). -/
def execMapSel (r : Route) (cr : CommitRec) (s : State) : Host.Outcome State Fault Refusal :=
  s.run fun s => s.commit r.val 0x2DA0 5 cr mapSelCheck mapSelApply

/-- A peer has a route over links that are UP (R456): a direct link, or another link and a way on from there.
[DEDUCED, log entry 49] -/
def State.peerRoute (s : State) (p : Nat) : Bool :=
  p < s.rd R.RANGE_N && p ≠ s.host.rangeId &&
    ((s.linkTo p).isSome ||
      ((List.range 6).any (fun l => s.rd (R.LINK_STATE l) = 2) && Config.remoteRoute s.tclk p))

/-- `PEER_ADMIT`'s own check (R456). -/
def peerAdmitCheck (v : Bytes) (s : State) : Nat := if (bitsSet 8 (leNat v)).all s.peerRoute then 0 else 0x2D04

/-- `PEER_ADMIT`'s effect: the mask waits for the first epoch instant at least 1 ms away (R456). -/
def peerAdmitApply (v : Bytes) (s : State) : State :=
  (s.wr R.PEER_ADMIT (leNat v)).mapHost fun h => { h with admitPend := some (leNat v, s.epochAt (s.now + 1000 * ftUs)) }

/-- `PEER_ADMIT` (R456). -/
def execPeerAdmit (r : Route) (cr : CommitRec) (s : State) : Host.Outcome State Fault Refusal :=
  s.run fun s => s.commit r.val 0x2DA0 4 cr peerAdmitCheck peerAdmitApply

/-- `RANGE_ID` (R445): the committed value is in effect from the next admission on. -/
def execRangeId (r : Route) (cr : CommitRec) (s : State) : Host.Outcome State Fault Refusal :=
  s.run fun s => s.commit r.val 0x2DA0 1 cr noCheck (keyApply R.RANGE_ID)

end Sys2Proof.Machine
end

