-- ==== Sys2Proof/Machine/DeepCmds.lean ====
section
/-! DEFINITION. Deep results (R273 to R278). -/
namespace Sys2Proof.Machine

/-- A stream entry before its age is taken: Range ID, slot, kind, status, frame, contribution time. -/
structure StreamEnt where
  rid : Nat
  slot : Nat
  kind : Nat
  status : Nat
  frame : Nat
  t : Option Int

/-- A stream that contributes: `FRESH`, `LATE_FED` or `REUSE`. -/
def StreamEnt.fed (e : StreamEnt) : Bool := e.status ≤ 2

/-- The local slots the image declares as deep inputs (R275): range slots, and camera slots that an input names.
[DEDUCED, log entry 37] -/
def State.deepSlots (s : State) : List Nat :=
  (List.range s.slotCount).filter (fun i =>
    s.rd (R.SLOT_KIND i) = 1 ||
    ((s.rd (R.SLOT_KIND i) = 2 || s.rd (R.SLOT_KIND i) = 3) &&
      s.deep.tt.tasks.any (fun t => t.inputs.any (fun x => x.kind = 2 && x.src = i))))

/-- The entry of a local slot in epoch `n` (R276). -/
def State.localStream (s : State) (n i : Nat) : StreamEnt :=
  let e := s.epochRt n
  let kind := s.rd (R.SLOT_KIND i)
  let rid := s.host.rangeId
  if kind = 1 then (match e.set with
    | some h =>
      if h.testBit (800 + i) then
        { rid := rid, slot := i, kind := kind, status := 0, frame := 0,
          t := some ((s.instant n : Int) + sgnOf 32 (bitsOf 927 896 h) * ftNs) }
      else { rid := rid, slot := i, kind := kind, status := 3, frame := 0, t := none }
    | none => { rid := rid, slot := i, kind := kind, status := 3, frame := 0, t := none })
  else match e.cams.find? (fun u => u.slot = i) with
    | some u => { rid := rid, slot := i, kind := kind, status := u.status, frame := (u.frame.map (·.num)).getD 0,
                  t := if u.fed then some (u.ref : Int) else none }
    | none => { rid := rid, slot := i, kind := kind, status := 3, frame := 0, t := none }

/-- The entry of a peer's stream: `UNREACHABLE` when the peer is (R276). -/
def State.peerStream (s : State) (p : PeerStream) : StreamEnt :=
  if s.reachable p.rid.val then
    { rid := p.rid.val, slot := p.slot.val, kind := p.kind.val, status := p.status.val, frame := p.frame.toNat,
      t := if p.status.val ≤ 2 then p.t.map (fun x => (x : Int)) else none }
  else { rid := p.rid.val, slot := p.slot.val, kind := p.kind.val, status := 6, frame := 0, t := none }

/-- Insert by Range ID, then slot. -/
def insertStream (e : StreamEnt) : List StreamEnt → List StreamEnt
  | [] => [e]
  | x :: t => if e.rid < x.rid || (e.rid = x.rid && e.slot < x.slot) then e :: x :: t else x :: insertStream e t

/-- An age on the output time, as a compact time. -/
def ageAt (now_ : Nat) (t : Int) : Nat := (clampInt 0 (2 ^ 63 - 1) (Int.fdiv ((now_ : Int) - t) ftNs)).toNat

/-- The 16 bytes of a stream entry (R275). -/
def streamWord (now_ : Nat) (e : StreamEnt) : Nat :=
  e.kind * 2 ^ 16 + e.status * 2 ^ 19 + e.slot * 2 ^ 22 + e.rid * 2 ^ 29 + e.frame * 2 ^ 32 +
    (match e.t with | some t => ageAt now_ t | none => noAge) * 2 ^ 64

/-- The heads the image declares (R272). -/
def State.headList (s : State) : List (Nat × Nat) :=
  (List.range 16).filterMap (fun h => let b := s.obj (0x55E0 + h); if b.isEmpty then none else some (h, leAt b 0 32))

/-- The bytes of a tensor with its scales. -/
def dBytes (w : Nat) : Nat := dCount w * (dUnit w + fmtScales (dFmt w))

/-- A head's entry in epoch `n` (R275): its validity, and its 32 bytes. The bytes of a LIST are free: its entries' size is
not in the spec.
[DEDUCED, log entry 37] -/
def State.headEntry (s : State) (n : Nat) (hd : Nat × Nat) : Bool × Nat × State :=
  let o := hd.2
  let k := n % max 1 (bitsOf 39 32 o)
  let handle := bitsOf (159 + 32 * k) (128 + 32 * k) o
  let valid := s.deep.tt.sb.any (fun e => e.cycle = 0 && e.inst = n && e.st = 4 && e.valid && (match s.entTask e with
    | some t => t.descs.contains handle
    | none => false))
  let w := (s.descWord handle).getD 0
  let a := s.descAddr w (dOff w)
  let base := hd.1 + boolNat valid * 2 ^ 8 + handle * 2 ^ 128 + s.devAddr a * 2 ^ 192
  if bitsOf 31 24 o = 1 then
    let r := s.readMem 0xC004 a 8
    let (d, s1) := r.s.draw
    (valid, base + leNat r.data * 2 ^ 64 + (d % 2 ^ 32) * 2 ^ 160, s1)
  else (valid, base + (dBytes w % 2 ^ 32) * 2 ^ 160, s)

/-- Every head's entry, in ascending `HEAD_ID`: all valid, the bytes.
[DEDUCED, log entry 37] -/
def State.headEntries (s : State) (n : Nat) : Bool × Bytes × State :=
  s.headList.foldl (fun (a : Bool × Bytes × State) h =>
    let (v, w, t) := a.2.2.headEntry n h
    (a.1 && v, a.2.1 ++ toLe 32 w, t)) (true, [], s)

/-- The packet of a deep result goes to `DR_QUEUE`, header only when it does not fit (R278).
[DEDUCED, log entry 37] -/
def State.deepPacket (s : State) (n mask age flags verdict : Nat) (body : Bytes) : State :=
  let q := s.rd R.DR_QUEUE
  let fits := 8 + body.length / 8 ≤ s.qFree q
  let seqNo := s.rd R.DR_SEQ_NEXT
  let fl := if fits then flags else setBit flags 6
  let b := if fits then body else []
  let inst := s.instant n
  let h := resHeader 2 seqNo n (ftWord inst s.timeFlags) mask age ((s.now - inst) / ftNs) 0xFFFF fl verdict (64 + b.length)
  let s1 := s.qPacket q 0xC004 (toLe 64 h ++ b)
  let s2 := s1.wr R.DR_SEQ_NEXT ((seqNo + 1) % 2 ^ 64)
  if fits then s2 else s2.event 0x2708 0 [(64, n)]

/-- The deep result of epoch `n` (R273 to R278).
[DEDUCED, log entry 35] -/
def State.deepEmit (s : State) (n : Nat) (peer : List PeerStream) : State :=
  let e := s.epochRt n
  let st := ((s.deepSlots.map (s.localStream n)) ++ ((peer.filter (fun p => p.rid.val ≠ s.host.rangeId)).map s.peerStream)).foldl
    (fun l x => insertStream x l) []
  let (ok, heads, s1) := s.headEntries n
  let fed := st.filter (·.fed)
  let ts := fed.filterMap (·.t)
  let age := match ts with
    | [] => noAge
    | t :: r => ageAt s.now (r.foldl min t)
  let mask := (fed.filter (fun x => x.rid = s.host.rangeId)).foldl (fun m x => setBit m x.slot) 0
  let sf := (e.set.map (bitsOf 447 416)).getD 0
  let sw := s.almSw
  let flags := boolNat e.conflict + 2 * boolNat (sf.testBit 2 || st.any (fun x => x.status = 1)) +
    4 * boolNat (sf.testBit 3 || sf.testBit 4 || sf.testBit 5 || (e.grid.map (·.poseNone)).getD false) +
    8 * boolNat (sf.testBit 0 || e.dilCapped) + 16 * boolNat s.partitioned + 32 * boolNat s.replaying +
    128 * boolNat (st.any (fun x => 2 ≤ x.status)) + 256 * boolNat e.memReset +
    512 * boolNat (match sw with | some (m, _) => n = m + 1 | none => false) + 1024 * boolNat (!ok)
  let verdict := if s.deepStopped then 3 else if s.rd R.WT_STATE ≠ 0 || s.rd R.DEV_STATE = 3 then 2 else if ok then 0 else 1
  let alm := s.almOfEpoch n
  let gen := match sw with
    | some (m, _) => if n ≤ m then s.deep.ag.oldGen else s.rd R.ALM_GEN
    | none => s.rd R.ALM_GEN
  let sum := alm + s.headList.length * 2 ^ 8 + (st.length % 2 ^ 16) * 2 ^ 16 + sf * 2 ^ 32 +
    ((e.set.map (bitsOf 351 320)).getD 0) * 2 ^ 64 + gen * 2 ^ 96
  s1.deepPacket n mask age flags verdict (toLe 16 sum ++ st.flatMap (fun x => toLe 16 (streamWord s.now x)) ++ heads)

/-- The deep result's task in RUN (R278). -/
def State.deepTask (s : State) : Option SbEntry :=
  s.deep.tt.sb.find? (fun e => e.st = 3 && e.report = 0 && (match s.entTask e with
    | some t => t.unit = 0xC004
    | none => false))

/-- `DEEP_RESULT` (R278): the task of the fixed-unit scheduler writes the result of its epoch; in a Range only the
emitter does. -/
def execDeepResult (peer : List PeerStream) (s : State) : Host.Outcome State Fault Refusal :=
  s.run fun s => match s.deepTask with
    | none => s
    | some e =>
      let n := s.instEpoch e.cycle e.inst
      let s1 := if s.emitsDeep then s.deepEmit n peer else s
      (s1.mapEpoch n fun x => { x with sent := true }).mapEntry e.key fun x => { x with report := 1 }

/-- `STOPPED_DEEP_RESULT` (R278): at instant(n) + P of each epoch while the deep layer is stopped.
[DEDUCED, log entry 37] -/
def execStoppedDeepResult (s : State) : Host.Outcome State Fault Refusal :=
  s.run fun s =>
    let k := s.deep.tt.stoppedNext
    let n := k - 1
    if k = 0 || !s.deepStopped || s.now < s.instant (n + 1) then s
    else
      let fl := 16 * boolNat s.partitioned + 32 * boolNat s.replaying
      let s1 := if s.emitsDeep then s.deepPacket n 0 noAge fl 3 [] else s
      s1.mapTt fun t => { t with stoppedNext := k + 1 }

end Sys2Proof.Machine
end

