-- ==== Sys2Proof/Machine/Img.lean ====
section
/-! DEFINITION. The schedule image (chapter 10): its header and sections as they are read, and their installation. -/
namespace Sys2Proof.Machine

/-! ### Header and sections (R283 to R285) -/

/-- A section record with its index. -/
structure Sec where
  ix : Nat
  ty : Nat
  count : Nat
  target : Nat
  off : Nat
  len : Nat

/-- An image as admission reads it: where it lies, its bytes, whether a word of it is poisoned. -/
structure Img where
  base : Nat
  b : Bytes
  poison : Bool

/-- The header as a number. -/
def Img.h (i : Img) : Nat := leAt i.b 0 256

def Img.amVer (i : Img) : Nat := bitsOf 159 128 i.h
def Img.keySlot (i : Img) : Nat := bitsOf 175 168 i.h
def Img.nsec (i : Img) : Nat := bitsOf 191 176 i.h
def Img.rbValue (i : Img) : Nat := bitsOf 287 256 i.h
def Img.rbIndex (i : Img) : Nat := bitsOf 295 288 i.h
def Img.variants (i : Img) : Nat := bitsOf 303 296 i.h
def Img.rangeN (i : Img) : Nat := bitsOf 311 304 i.h
def Img.slice (i : Img) : Nat := bitsOf 319 312 i.h
def Img.lag (i : Img) : Nat := bitsOf 351 320 i.h
def Img.period (i : Img) : Nat := bitsOf 383 352 i.h
def Img.origin (i : Img) : Nat := bitsOf 511 384 i.h
def Img.id (i : Img) : Nat := bitsOf 127 64 i.h

/-- A section record. -/
def Img.secAt (i : Img) (k : Nat) : Sec :=
  let w := leAt i.b (256 + 32 * k) 32
  { ix := k, ty := bitsOf 7 0 w, count := bitsOf 63 32 w, target := bitsOf 127 64 w, off := bitsOf 191 128 w,
    len := bitsOf 255 192 w }

/-- The section records. -/
def Img.secs (i : Img) : List Sec := (List.range i.nsec).map i.secAt

/-- The section of a type. -/
def Img.sec (i : Img) (ty : Nat) : Option Sec := i.secs.find? (fun s => s.ty = ty)

/-- The index of the section of a type, as `IMG_ERR_SEC` names it; 0xFFFF when the image has none. -/
def Img.ix (i : Img) (ty : Nat) : Nat := ((i.sec ty).map (·.ix)).getD 0xFFFF

/-- The bytes of the section of a type; a missing section is empty (R285). -/
def Img.bytes (i : Img) (ty : Nat) : Bytes := match i.sec ty with
  | some s => Machine.slice i.b s.off s.len
  | none => []

/-- The items of the section of a type. -/
def Img.count (i : Img) (ty : Nat) : Nat := ((i.sec ty).map (·.count)).getD 0

/-- The cycles (R299): origin, none when it is no full time, and period. -/
def Img.cycles (i : Img) : List (Option Nat × Nat) :=
  (List.range (i.count 1)).map (fun k =>
    let w := leAt (i.bytes 1) (32 * k) 32
    (ftOfWord (bitsOf 255 128 w), bitsOf 127 96 w))

/-- An input entry (R301). -/
def inEntOf (w : Nat) : InEnt :=
  { src := bitsOf 63 48 w, kind := bitsOf 47 44 w, fb := bitsOf 43 42 w, arg := bitsOf 31 0 w }

/-- A task record with its lists (R300). -/
structure RawTask where
  t : TaskRec
  nin : Nat
  ndesc : Nat
  inOff : Nat
  descOff : Nat

/-- A task record read from 64 bytes. -/
def Img.taskOf (i : Img) (w : Nat) : RawTask :=
  let nd := bitsOf 339 333 w
  let ni := bitsOf 332 329 w
  let d := bitsOf 319 288 w
  let n := bitsOf 287 256 w
  { nin := ni, ndesc := nd, inOff := n, descOff := d,
    t := { cycle := bitsOf 324 322 w, task := bitsOf 223 208 w, unit := bitsOf 239 224 w, cirqN := bitsOf 207 200 w,
           spurs := bitsOf 328 325 w, prog := bitsOf 383 352 w, progW := bitsOf 351 340 w,
           descs := (List.range nd).map (fun k => leAt (i.bytes 9) (d + 4 * k) 4),
           inputs := (List.range ni).map (fun k => inEntOf (leAt (i.bytes 3) (n + 8 * k) 8)),
           doneCairn := bitsOf 255 242 w, startMin := bitsOf 447 416 w, inDl := bitsOf 479 448 w, wcet := bitsOf 415 384 w,
           doneDl := bitsOf 511 480 w } }

/-- The task records, in order. -/
def Img.tasks (i : Img) : List RawTask := (List.range (i.count 2)).map (fun k => i.taskOf (leAt (i.bytes 2) (64 * k) 64))

/-- The tables of a slot section (R561): resource, stated count, entries. -/
def parseTables : Nat → Bytes → List (Nat × Nat × List Nat)
  | 0, _ => []
  | n + 1, b =>
    let c := leAt b 2 2
    (leAt b 0 2, c, (List.range c).map (fun k => leAt b (8 + 4 * k) 4)) :: parseTables n (b.drop (8 + 4 * c))

/-- The tables of the section of a type. -/
def Img.tables (i : Img) (ty : Nat) : List (Nat × Nat × List Nat) := parseTables (i.count ty) (i.bytes ty)

/-- Every table. -/
def Img.allTables (i : Img) : List (Nat × Nat × List Nat) := i.tables 5 ++ i.tables 6 ++ i.tables 7

/-- A cairn plan entry (R372) with its cairn. -/
def planOf (w : Nat) : Nat × CairnPlan :=
  (bitsOf 13 0 w,
   { fwdStep := bitsOf 255 224 w, fwdTgt := bitsOf 223 192 w, fwdAdd := bitsOf 191 160 w, rest := bitsOf 159 128 w,
     owner := bitsOf 127 112 w, waitMax := bitsOf 111 96 w, fwdCairn := bitsOf 95 82 w, fwdRid := bitsOf 81 79 w,
     fwdMode := bitsOf 78 77 w, bal := w.testBit 76, cycle := bitsOf 75 73 w, home := bitsOf 72 67 w })

/-- The cairn plan. -/
def Img.plan (i : Img) : List (Nat × CairnPlan) := (List.range (i.count 0xA)).map (fun k => planOf (leAt (i.bytes 0xA) (32 * k) 32))

/-- Timeout value `k` of the 512. -/
def Img.tmo (i : Img) (k : Nat) : Nat := leAt (i.bytes 0xA) (32 * i.count 0xA + 4 * k) 4

/-- The `DATA` sections. -/
def Img.datas (i : Img) : List Sec := i.secs.filter (fun s => s.ty = 0xF)

/-! ### What an image presets (R85, R131, R166, R244, R280, R342, R394, R457, R524) -/

/-- An entry takes its value from an image section. -/
def presetEntry (idx sub : Nat) : Bool :=
  (0x2200 ≤ idx && idx ≤ 0x225F && ((2 ≤ sub && sub ≤ 0xA) || sub = 0xE)) ||
  (idx = 0x2400 && ((1 ≤ sub && sub ≤ 7) || sub = 0x15)) || (idx = 0x2401 && 1 ≤ sub) ||
  (idx = 0x2410 && (sub = 1 || sub = 4 || sub = 5)) || (idx = 0x2500 && (sub = 4 || sub = 0x16)) ||
  (idx = 0x2530 && sub = 1) || (idx = 0x2540 && 1 ≤ sub) || (idx = 0x2700 && (sub = 9 || sub = 0xA || sub = 0x10)) ||
  (idx = 0x2900 && (sub = 1 || sub = 2)) || (0x2B00 ≤ idx && idx ≤ 0x2BFF && 1 ≤ sub && sub ≤ 6) ||
  (0x2D40 ≤ idx && idx ≤ 0x2D7F && sub = 1) || (idx = 0x2F00 && sub = 6) || (idx = 0x2F60 && sub = 4)

/-- The type of the section that gives an entry its value (R285). -/
def presetSec (idx : Nat) : Nat := if idx ≤ 0x225F then 8 else if 0x2400 ≤ idx && idx ≤ 0x2410 then 0xB else 0x10

/-- A preset value is in the entry's range. -/
def State.presetOk (s : State) (idx sub v : Nat) : Bool := match entryOf idx sub with
  | none => false
  | some e =>
    presetEntry idx sub && v < 2 ^ (8 * e.len) && s.inRange e idx sub v &&
    (if idx ≤ 0x225F && sub = 4 then v ≤ 127
     else if idx = 0x2400 && sub = 0x15 then v % 128 = 0 && v + 65536 ≤ 4194304
     else if idx = 0x2410 && sub = 1 then v % 65536 = 0
     else if idx = 0x2410 && sub = 4 then v % 4096 = 0
     else if idx = 0x2540 then v ≤ 95
     else if idx = 0x2700 && sub = 9 then v ≤ 63
     else if idx = 0x2700 && sub = 0xA then v ≤ 7
     else if idx = 0x2900 && sub = 1 then v ≤ 1
     else if idx = 0x2900 && sub = 2 then v ≤ 95
     else if idx = 0x2F00 then v ≤ 63 || v = 0xFFFF
     else true)

/-! ### Installing, step by step (R286) -/

/-- The running timetable is abandoned: units stop, every entry empties without a result (R286 step 2). -/
def State.dropTimetable (s : State) : State :=
  let s1 := (s.deep.tt.sb.filter (fun e => e.st = 3)).foldl (fun t e => match s.entTask e with
    | some r => t.unitStop r
    | none => t) s
  s1.mapTt fun t => { t with sb := [], fbInst := [], gateBad := [] }

/-- Descriptors, copy objects and allocations are destroyed (R204, R286 step 3). -/
def State.dropObjects (s : State) : State :=
  let s1 := s.deep.descs.foldl (fun t e => t.descDestroy e.1) s
  let s2 := s1.mapDeep fun d => { d with copies := [], files := [] }
  (({ s2 with allocs := [] }.wr R.ALLOC_USED 0).wr R.DESC_USED 0).wr R.COPY_USED 0

/-- The entries that take their values from the image (R286 step 4): those it does not give have their defaults. -/
def State.putPresets (s : State) (i : Img) (x : ImageExtra) : State :=
  let s1 := { s with dict := smDrop (fun k => presetEntry (k / 256) (k % 256)) s.dict }
  let s2 := x.presets.foldl (fun t p => t.wr (entryKey p.1 p.2.1) p.2.2) s1
  let s3 := (List.range 512).foldl (fun t k => t.wr (R.TMO_REG (k / 16) (k % 16 + 1)) (i.tmo k)) s2
  ((((((s3.wr R.EPOCH_P i.period).wr R.EPOCH_ORIGIN i.origin).wr R.ADM_LAG i.lag).wr R.SLICE_LEN i.slice).wr R.RANGE_N
    i.rangeN).wr R.IMAGE_ID i.id).wr R.RB_COUNT x.rulebooks.length

/-- An index of an object that comes from the image and is not an Almanac object. -/
def imageObject (k : Nat) : Bool :=
  (0x5200 ≤ k && k < 0x5280) || (0x5380 ≤ k && k < 0x53C0) || (0x55C0 ≤ k && k < 0x55F0) || (0x5600 ≤ k && k < 0x5680) ||
  (0x5700 ≤ k && k < 0x5708)

/-- A handle in an image names the descriptor by its index: the generation is the one it has now.
[DESIGN CHOICE, log entry 41] -/
def State.imgHandle (s : State) (h : Nat) : Nat := if h % 2 ^ 14 = 0 then 0 else s.handleOf (h % 2 ^ 14)

/-- Replace the handle at bit `lo`.
[DESIGN CHOICE, log entry 41] -/
def State.fixHandle (s : State) (w lo : Nat) : Nat := setBits (lo + 31) lo w (s.imgHandle (bitsOf (lo + 31) lo w))

/-- An Astrograph spec with its handles. -/
def State.fixSpec (s : State) (b : Bytes) : Bytes :=
  let h := [432, 400, 368, 336].foldl (fun w lo => s.fixHandle w lo) (specHead b)
  toLe 64 h ++ (specCams b).flatMap (fun e => toLe 32 (s.fixHandle (s.fixHandle e 192) 160))

/-- A head with its handles. -/
def State.fixHead (s : State) (b : Bytes) : Bytes := toLe 32 ([128, 160, 192, 224].foldl (fun w lo => s.fixHandle w lo) (leAt b 0 32))

/-- The DOMAIN objects of the image (R86, R224, R257, R272, R321, R330, R449). -/
def State.putObjects (s : State) (x : ImageExtra) : State :=
  let s1 := { s with objs := smDrop imageObject s.objs }
  let s2 := x.tpls.foldl (fun t p => t.setObj (0x5200 + p.1) (padTo 2048 p.2)) s1
  let s3 := x.rulebooks.foldl (fun t w => t.setObj (0x5380 + bitsOf 5 0 w) (toLe 16 w)) s2
  let s4 := x.specs.foldl (fun t b => t.setObj (0x55C0 + bitsOf 103 96 (specHead b)) (t.fixSpec b)) s3
  let s5 := x.heads.foldl (fun t b => t.setObj (0x55E0 + leAt b 0 1) (t.fixHead b)) s4
  let s6 := x.theoTpls.foldl (fun t b => t.setObj (0x5600 + bitsOf 279 272 (leAt b 0 64)) b) s5
  let s7 := x.theoProgs.foldl (fun t b => t.setObj (0x5640 + bitsOf 71 64 (leAt b 0 64)) (padTo 64 b)) s6
  (x.maps.foldl (fun (a : Nat × State) b => (a.1 + 1, a.2.setObj (0x5700 + a.1) b)) (0, s7)).2

/-- The image's Almanac goes to copy 0 (R251). -/
def State.putAlmanac (s : State) (i : Img) : State :=
  if (i.sec 0xE).isNone then s
  else
    let b := i.bytes 0xE
    let r := (almIndexes s.slotCount 0).foldl (fun (a : Nat × State) k =>
      (a.1 + almLen k, a.2.setObj k (padTo (almLen k) (Machine.slice b a.1 (almLen k))))) (0, s)
    (r.2.wr R.ALM_ACTIVE 0).wr R.ALM_GEN 0

/-- A creation that may be refused: a code of R219 with the item, and the state. -/
abbrev Made := Option (Nat × Nat) × State

/-- Create the image's allocations in order (R199, R200). -/
def State.putAllocs (s : State) (x : ImageExtra) : Made :=
  (x.allocs.foldl (fun (a : Nat × Made) p =>
    if a.2.1.isSome then a
    else
      let c := a.2.2.allocCheck p.1 p.2.1
      (a.1 + 1, if c ≠ 0 then (some (c, a.1), a.2.2) else (none, (a.2.2.allocMake p.1 p.2.1 0x6000 true p.2.2).2)))
    (0, (none, s))).2

/-- The bytes of the descriptor table (R204). -/
abbrev descTableBytes : Nat := 1048576

/-- Keeper reserves the descriptor table in DRAM stack 0 (R204): where is free, apart from every allocation.
[DESIGN CHOICE, log entry 41] -/
def State.putTable (s : State) : State :=
  let at_ := (List.range 16384).map (fun k => (Config.descTable + k) % 16384 * descTableBytes)
  let a := (at_.find? (fun a => s.allocCheck a descTableBytes = 0)).getD 0
  (s.allocMake a descTableBytes 0x6000 true false).2.wr R.DT_BASE a

/-- Create the image's descriptors in order (R203, R209). -/
def State.putDescs (s : State) (x : ImageExtra) : Made :=
  (x.descs.foldl (fun (a : Nat × Made) b =>
    if a.2.1.isSome then a
    else
      let r := a.2.2.descNew (leAt b 0 64) true
      (a.1 + 1, if r.1 ≠ 0 then (some (r.1, a.1), a.2.2) else (none, r.2.2))) (0, (none, s))).2

/-- Create the image's copies in order (R215, R216). -/
def State.putCopies (s : State) (x : ImageExtra) : Made :=
  (x.copies.foldl (fun (a : Nat × Made) b =>
    if a.2.1.isSome then a
    else
      let w := leAt b 0 16
      let r := a.2.2.copyNew (a.2.2.imgHandle (bitsOf 127 96 w)) (a.2.2.imgHandle (bitsOf 95 64 w)) (bitsOf 14 0 w) true
      (a.1 + 1, if r.1 ≠ 0 then (some (r.1, a.1), a.2.2) else (none, r.2.2))) (0, (none, s))).2

/-- A `DATA` section is copied to its target, and its allocation holds weights (R285, R417). -/
def State.putData (s : State) (i : Img) (d : Sec) : State :=
  let s1 := (s.writeMem 0x6000 d.target (Machine.slice i.b d.off d.len) false).2
  match s1.alloc (s1.allocOf d.target) with
  | some a => s1.setAlloc (s1.allocOf d.target) (some { a with weights := true })
  | none => s1

/-- Zero a range of memory with correct check bits. -/
def State.zeroRange (s : State) (a n : Nat) : State :=
  let at_ := fun (k : Nat) => if k < 2 ^ 48 then 16 * k else 8 * (k - 2 ^ 48)
  { s with mem := { s.mem with bytes := smDrop (fun k => a ≤ k && k < a + n) s.mem.bytes,
                                werr := smDrop (fun k => a ≤ at_ k && at_ k < a + n) s.mem.werr } }

/-- The bytes of a set buffer's bucket table (R120). -/
abbrev bucketBytes : Nat := 268435456

/-- Talus with the image's set buffers, cleared, and an empty pose ring (R109, R112).
[DESIGN CHOICE, log entry 41] -/
def State.putTalus (s : State) (x : ImageExtra) : State :=
  let ps := x.setBufs.map (fun b =>
    { base := b.base, header := b.header, oct := b.oct, ready := b.ready, release := b.release, releaseTarget := b.target : SetPlace })
  let s1 := ps.foldl (fun t p => t.zeroRange p.base bucketBytes) (s.mapTalus fun _ => { Talus.reset with places := ps })
  let s2 := s1.zeroRange (0x12000000000 + s.rd R.PR_BASE) 65536
  (s2.wr R.PR_HEAD 0).setRb none

/-- Rulebook offsets and sizes (R233). -/
def State.putRulebooks (s : State) : State :=
  let rs := (List.range 64).filter (fun r => (s.rbSpec r).isSome)
  let s0 := (List.range 64).foldl (fun t r => ((((t.wr (R.RB_OFF r) 0).wr (R.RB_WC r) 0).wr (R.RB_TILES r) 0).wr (R.RB_NS r) 0).wr
    (R.RB_FLAGS r) 0) s
  (rs.foldl (fun (a : Nat × State) r =>
    let n := match s.rbSpec r with | some w => s.rbWorst w r | none => 0
    (upTo 4096 (a.1 + n), (a.2.wr (R.RB_OFF r) a.1).wr (R.RB_WC r) n)) (upTo 4096 (32 * s.rd R.SITE_CAP), s0)).2

/-- The Cairn Store at an admission (R346). -/
def State.putCairns (s : State) (i : Img) : State :=
  let s1 := s.cs.waiters.foldl (fun t e => t.wakeWaiter e.1 .poison) s
  let p := i.plan
  let pl : SMap (Option CairnPlan) := p.foldl (fun m e => smSet (fun _ => none) m e.1 (some e.2)) []
  let s2 := { s1 with cs := { s1.cs with cairns := [], waiters := [], plan := pl } }
  let fresh := fun (e : CairnPlan) =>
    { Cairn.idle with cstate := .armed, value := e.rest, rest := e.rest, fwdTgt := e.fwdTgt, owner := e.owner }
  (p.foldl (fun t e => t.setCairn e.1 (fresh e.2)) s2).wr R.WAITERS_USED 0

/-- The timetable of the image (R299 to R302, R289): its cycles, tasks, programs and slot tables. -/
def State.putTimetable (s : State) (i : Img) (x : ImageExtra) : State :=
  s.mapTt fun t =>
    { t with loaded := true, cycles := i.cycles.map (fun c => (c.1.getD 0, c.2)),
             tasks := i.tasks.map (fun r => { r.t with descs := r.t.descs.map s.imgHandle }), progs := i.bytes 4,
             tables := i.allTables.foldl (fun m e => smSet (fun _ => []) m e.1 e.2.2) [],
             checking := false, rbIndex := i.rbIndex, rbValue := i.rbValue, image := some (i.b, x) }

/-- The units' own state at an admission: queues, Astrograph, Theodolite, camera buffers, the Range. -/
def State.putUnits (s : State) (x : ImageExtra) : State :=
  let s1 := (List.range 256).foldl (fun t q => t.qReset q) s
  let s2 := s1.mapAg fun _ => Astro.reset
  let s3 := s2.mapTheo fun t =>
    { Theo.reset with inForce := t.inForce, resetDue := true,
                      rings := x.rings.foldl (fun m e => smSet (fun _ => (0, 0)) m e.1 (e.2, 0)) [] }
  let cams := x.cams.foldl (fun m e =>
    smSet (fun _ => []) m e.1 (e.2.map (fun b => { addr := b.1, size := b.2, busy := false, ready := none, fed := false : CamBuf }))) []
  let s4 := { s3 with siu := { s3.siu with cams := cams }, almSw := none }
  let s5 := { s4 with host := { s4.host with mapPend := none, admitPend := none, rangeId := s.rd R.RANGE_ID } }
  ((((s5.wr R.MAP_CUR 0).wr R.PEER_ADMIT 0).wr R.DR_SEQ_NEXT 0).wr R.WT_STATE 0).wr R.WT_POISON 0

/-- Sentinel as an admission leaves it (R286 steps 1 and 6): it stops, and restarts under R165; in SAFE, which is latched,
it stays.
[DESIGN CHOICE, log entry 41] -/
def State.putSentinel (s : State) : State :=
  let n := s.snt
  let s1 := ((s.wr R.SEQ_NEXT 0).wr R.COR_SEQ_CUR 0).mapSnt fun _ =>
    { Snt.reset with failFrom := n.failFrom, nextClose := n.nextClose, hb := n.hb, hbIndex := n.hbIndex, alive := n.alive,
                     hzHeld := n.hzHeld, hzLast := n.hzLast, pendSet := n.pendSet, corData := n.corData,
                     safeCause := s.now }
  let s2 := if s.rd R.SNT_STATE = 3 then s1
    else if s.pdOn 4 && s.pdOn 5 then (s1.wr R.SNT_STATE 1).mapSnt fun m => { m with selfTest := true }
    else
      let ds := [30, 4, 5].filter (fun d => !s1.pdOn d && !s1.power.switching.contains d)
      { s1 with power := { s1.power with switching := s1.power.switching ++ ds } }
  s2.updateSafe

/-- `SUM_RATE` (R98): the admitted sum over range slots. -/
def State.sumRate (s : State) (reg : Nat → Nat) : Nat :=
  (((List.range 96).filter (fun i => s.rd (R.SLOT_KIND i) = 1)).map (fun i => s.rd (reg i))).foldl (· + ·) 0

/-- Steps 1 to 4 of R286, with the first refusal that creation met (step 9 of R295) as a section type, code and item.
[DESIGN CHOICE, log entry 41] -/
def State.installImage (s : State) (i : Img) (x : ImageExtra) : Option (Nat × Nat × Nat) × State :=
  let s1 := ((s.dropTimetable).dropObjects).putPresets i x
  let (ea, s2) := s1.putAllocs x
  let (ed, s3) := (s2.putTable).putDescs x
  let (ec, s4) := s3.putCopies x
  let err := [ea, ed, ec].findSome? (fun e => e.map (fun c => (9, c.1, c.2)))
  let s5 := (((s4.putObjects x).putAlmanac i).putRulebooks).putTimetable i x
  let s6 := i.datas.foldl (fun t d => t.putData i d) s5
  (err, ((s6.putTalus x).putCairns i).putUnits x)

/-- The cycles begin (R299): each loads the first instance whose origin is at or after now.
[DESIGN CHOICE, log entry 41] -/
def State.beginCycles (s : State) : State :=
  let s1 := s.mapTt fun t => { t with nextInst := [] }
  let s2 := s1.restartCycles s.now false
  let n0 := (s2.nextOf 0).getD 0
  let s3 := s2.mapTt fun t => { t with epochNext := s2.firstFrom 0 s.now, stoppedNext := if s.deepStopped then n0 + 1 else 0 }
  (s3.mapAg fun g => { g with firstEpoch := n0 }).mapTalus fun t => { t with firstEpoch := n0 }

/-- Steps 5 and 6 of R286: the image is admitted. -/
def State.admitted (s : State) (used : Nat) : State :=
  let s1 := (((s.wr R.IMG_STATUS 2).wr R.IMG_ERR 0).wr R.IMG_ERR_SEC 0).wr R.IMG_ERR_ITEM 0
  let s2 := (s1.wr R.SUM_RATE (s1.sumRate R.C_RATE)).event 0x2801 0 [(64, s1.rd R.IMAGE_ID)]
  let s3 := { s2.beginCycles with power := { s2.power with usedDomains := used } }
  let s4 := if s3.rd R.DEV_STATE = 1 || s3.rd R.DEV_STATE = 3 then s3.setDev 2 else s3
  let dig := match s4.deep.tt.image with | some p => Machine.slice p.1 64 32 | none => []
  (s4.putSentinel).lbRecord 0x6000 0x30 (toLe 8 (s4.rd R.IMAGE_ID) ++ dig)

end Sys2Proof.Machine
end

