-- ==== Sys2Proof/Machine/Template.lean ====
section
/-! DEFINITION. Parser templates (R86 to R89, R92, R565): layout, field extraction, values, range checks. -/
namespace Sys2Proof.Machine

/-- A field descriptor (R87). -/
structure Field where
  role : Nat
  level : Nat
  off : Nat
  width : Nat
  be : Bool
  signed : Bool
  scale : Nat
  mn : Nat
  mx : Nat
  dmax : Nat
deriving DecidableEq, Repr

/-- A parser template (R86). -/
structure Tpl where
  kind : Nat
  nchan : Nat
  tmode : Nat
  len : Nat
  mport : Nat
  mid : Nat
  mmask : Nat
  pktLat : Nat
  nblock : Nat
  blkStride : Nat
  blkBase : Nat
  ptPerBlk : Nat
  ptStride : Nat
  ptBase : Nat
  tsTol : Nat
  rows : Nat
  fields : List Field
  raw : Bytes
deriving DecidableEq, Repr

/-- A field descriptor from its 24 bytes (R87). -/
def fieldOf (w : Nat) : Field :=
  { role := bitsOf 7 0 w, level := bitsOf 9 8 w, signed := w.testBit 10, be := w.testBit 11, off := bitsOf 31 16 w,
    width := bitsOf 38 32 w, scale := bitsOf 95 64 w, mn := bitsOf 127 96 w, mx := bitsOf 159 128 w,
    dmax := bitsOf 191 160 w }

/-- A template from its 2,048 bytes (R86). -/
def tplOf (b : Bytes) : Tpl :=
  let h := leAt b 0 64
  { kind := bitsOf 7 0 h, nchan := bitsOf 23 16 h, tmode := bitsOf 31 24 h, len := bitsOf 47 32 h,
    mport := bitsOf 63 48 h, mid := bitsOf 95 64 h, mmask := bitsOf 127 96 h, pktLat := bitsOf 159 128 h,
    nblock := bitsOf 175 160 h, blkStride := bitsOf 191 176 h, blkBase := bitsOf 207 192 h,
    ptPerBlk := bitsOf 223 208 h, ptStride := bitsOf 239 224 h, ptBase := bitsOf 255 240 h, tsTol := bitsOf 287 256 h,
    rows := bitsOf 303 288 h, raw := b,
    fields := (List.range (bitsOf 15 8 h)).map (fun i => fieldOf (leAt b (64 + 24 * i) 24)) }

/-- The roles that take the raw integer (R565). -/
def rawRole (r : Nat) : Bool := r = 4 || r = 5 || r = 6 || r = 0x0A || r = 0x0B || r = 0x17

/-- The roles that are rounded to a whole number (R565). -/
def wholeRole (r : Nat) : Bool := r = 7 || r = 8 || r = 9 || r = 0x0C

/-- The roles of R88. -/
def roleListed (r : Nat) : Bool := (1 ≤ r && r ≤ 0x0C) || (0x10 ≤ r && r ≤ 0x17)

/-- A template's own part of step 8 of R295 (R86, R565): every check passes. -/
def tplOk (kind : Nat) (b : Bytes) : Bool :=
  let h := leAt b 0 64
  let t := tplOf b
  1 ≤ bitsOf 15 8 h && bitsOf 15 8 h ≤ 24 && t.nchan ≤ 128 && t.tmode ≤ 1 && t.kind = kind &&
  t.fields.all (fun f =>
    1 ≤ f.width && f.width ≤ 64 && f.level ≤ 2 && roleListed f.role && fpFinite fp32 f.mn && fpFinite fp32 f.mx &&
      fpFinite fp32 f.dmax && (rawRole f.role || (fpFinite fp32 f.scale && !(fpDy fp32 f.scale).isZero)))

/-- A byte of a payload; beyond its end the value is free.
[DESIGN CHOICE, log entry 20] -/
def payloadByte (p : Bytes) (i : Nat) : Byte := match p[i]? with
  | some b => b
  | none => Config.beyondPayload i

/-- The raw value of a field in the record that starts at byte `start` (R87). -/
def fieldRaw (p : Bytes) (start : Nat) (f : Field) : Int :=
  let o := 8 * start + f.off
  let a := o / 8
  let e := (o + f.width + 7) / 8
  let bs := (List.range (e - a)).map (fun i => payloadByte p (a + i))
  let v := if f.be then beNat bs >>> ((e - a) * 8 - o % 8 - f.width) else leNat bs >>> (o % 8)
  if f.signed then sgnOf f.width v else ((v % 2 ^ f.width : Nat) : Int)

/-- A field's value (R565): the descriptor, the raw integer, and the exact value the checks compare. -/
structure FVal where
  f : Field
  raw : Int
  exact : Dy
deriving DecidableEq, Repr

/-- The value of a field. -/
def fieldVal (p : Bytes) (start : Nat) (f : Field) : FVal :=
  let r := fieldRaw p start f
  { f := f, raw := r, exact := if rawRole f.role then Dy.ofInt r else Dy.mul (Dy.ofInt r) (fpDy fp32 f.scale) }

/-- The values of the fields of a level.
[DEDUCED, log entry 21] -/
def levelVals (t : Tpl) (p : Bytes) (level start : Nat) : List FVal :=
  (t.fields.filter (fun f => f.level = level)).map (fieldVal p start)

/-- The value handed on: FP32 bits, or a whole number (R565). -/
def FVal.handed (v : FVal) : Int :=
  if rawRole v.f.role then v.raw else if wholeRole v.f.role then v.exact.roundEven else ((fpRound fp32 v.exact : Nat) : Int)

/-- The first value of a role. -/
def roleVal (vs : List FVal) (r : Nat) : Option FVal := vs.find? (fun v => v.f.role = r)

/-- The range test of R92. -/
def inField (v : FVal) : Bool :=
  let lo := fpDy fp32 v.f.mn
  let hi := fpDy fp32 v.f.mx
  (lo.isZero && hi.isZero) || (Dy.le lo v.exact && Dy.le v.exact hi)

/-- Some value of a level fails its range check; constant checks and validity bits are step 3's. -/
def rangeFails (vs : List FVal) : Bool := vs.any (fun v => v.f.role ≠ 0x0B && v.f.role ≠ 0x17 && !inField v)

/-- The constant checks and validity bits of a level hold (R88, R91 step 3). -/
def wellFormedVals (vs : List FVal) : Bool :=
  vs.all (fun v =>
    if v.f.role = 0x0B then Dy.le (fpDy fp32 v.f.mn) v.exact && Dy.le v.exact (fpDy fp32 v.f.mx)
    else if v.f.role = 0x17 then v.raw ≠ 0 else true)

/-- The blocks of a payload: start byte of each, none where no field has block or point level. -/
def blockStarts (t : Tpl) : List Nat :=
  if t.fields.all (fun f => f.level = 0) then [] else (List.range t.nblock).map (fun b => t.blkBase + b * t.blkStride)

/-- The points of a block: start byte of each. -/
def pointStarts (t : Tpl) (blk : Nat) : List Nat :=
  (List.range t.ptPerBlk).map (fun i => blk + t.ptBase + i * t.ptStride)

/-- Step 3 of R91 on the contents: `LEN`, and every constant check and validity bit of every level. -/
def unitFormed (t : Tpl) (p : Bytes) : Bool :=
  (t.len = 0 || p.length = t.len) && wellFormedVals (levelVals t p 0 0) &&
  (blockStarts t).all (fun b => wellFormedVals (levelVals t p 1 b) &&
    (pointStarts t b).all (fun q => wellFormedVals (levelVals t p 2 q)))

/-- Elevation and azimuth offset of a channel, FP32 bits (R88 (a)).
[DESIGN CHOICE, log entry 20] -/
def chanEntry (t : Tpl) (c : Nat) : Nat × Nat :=
  let w := if c < t.nchan then leAt t.raw (640 + 8 * c) 8 else Config.noChannel c
  (bitsOf 31 0 w, bitsOf 63 32 w)

/-- Degrees to radians. -/
def radians (d : Fx) : Fx := Fx.mul d Fx.pi / 180

/-- x, y, z of a range point in FP32 (R89), from range, azimuth, its offset and elevation in FP32.
[DEDUCED, log entry 21] -/
def pointXyz (r az azo el : Nat) : Nat × Nat × Nat :=
  let rr := Fx.ofDy (fpDy fp32 r)
  let a := radians (Fx.ofDy (Dy.add (fpDy fp32 az) (fpDy fp32 azo)))
  let e := radians (Fx.ofDy (fpDy fp32 el))
  let rc := Fx.mul rr (Fx.cos e)
  let out := fun (v : Fx) => fpRound fp32 (Fx.toDy v)
  (out (Fx.mul rc (Fx.cos a)), out (Fx.mul rc (Fx.sin a)), out (Fx.mul rr (Fx.sin e)))

end Sys2Proof.Machine
end

