-- ==== Sys2Proof/Machine/SiuOps.lean ====
section
/-! DEFINITION. The SIU: slots, the checks of R91, contracts, samples, range points and camera frames (chapter 03). -/
namespace Sys2Proof.Machine

/-! ### Slots -/

/-- A slot beside its entries. -/
def State.slotRt (s : State) (i : Nat) : SlotRt := smGet (fun _ => SlotRt.reset) s.siu.slots i

/-- Set a slot beside its entries. -/
def State.setSlotRt (s : State) (i : Nat) (v : SlotRt) : State :=
  { s with siu := { s.siu with slots := smSet (fun _ => SlotRt.reset) s.siu.slots i v } }

/-- The template of a slot. -/
def State.tpl (s : State) (i : Nat) : Tpl := tplOf (padTo 2048 (s.obj (0x5200 + s.rd (R.SLOT_TPL i))))

/-- An event of R105 carries the slot number. -/
def State.slotEvent (s : State) (code i : Nat) : State := s.event code 0 [(7, i)]

/-- A slot changes state (R100). Entering LIVE or WAIT resets the rate-of-change baseline (R93). -/
def State.setSlotState (s : State) (i n : Nat) : State :=
  if s.rd (R.SLOT_STATE i) = n then s
  else
    let r := s.slotRt i
    let r1 := if n = 2 || n = 1 then { r with base := none, fails := 0 } else if n = 4 then { r with seq := none } else r
    ((s.setSlotRt i r1).wr (R.SLOT_STATE i) n).slotEvent 0x2201 i

/-- The class, number and sub of a slot's port (R81). -/
def State.slotPort (s : State) (i : Nat) : Nat × Nat × Nat :=
  let v := s.rd (R.SLOT_PORT i)
  (bitsOf 15 12 v, bitsOf 11 4 v, bitsOf 3 0 v)

/-- The enabled slots of a port, lowest first (R82). -/
def State.slotsOn (s : State) (cls num : Nat) : List Nat :=
  (List.range s.slotCount).filter (fun i =>
    s.rd (R.SLOT_EN i) = 1 && s.rd (R.SLOT_KIND i) ≠ 0 && (s.slotPort i).1 = cls && (s.slotPort i).2.1 = num)

/-- The contract bucket of a slot when full (R96). -/
def State.bucketFull (s : State) (i : Nat) : Nat := s.rd (R.C_BURST i) * ftSec

/-- The frame buffers of a slot. -/
def State.camBufs (s : State) (i : Nat) : List CamBuf := smGet (fun _ => []) s.siu.cams i

/-- Change one frame buffer of a slot. -/
def State.mapCam (s : State) (i b : Nat) (f : CamBuf → CamBuf) : State :=
  let cams := (s.camBufs i).mapIdx (fun j c => if j = b then f c else c)
  { s with siu := { s.siu with cams := smSet (fun _ => []) s.siu.cams i cams } }

/-- A write of `SLOT_EN` (R83, R96, R100). -/
def State.enableSlot (s : State) (i : Nat) (on : Bool) : State × Nat :=
  if on then
    if s.rd (R.SLOT_KIND i) = 0 then (s, 0x2007)
    else if s.rd (R.SLOT_EN i) = 1 then (s, 0)
    else
      let r := { SlotRt.reset with tokens := s.bucketFull i, fillT := s.now, timer := s.now, 
                                      enc := { (s.slotRt i).enc with grid := s.now * s.rd (R.C_RATE i) / ftSec } }
      (((s.setSlotRt i r).wr (R.SLOT_EN i) 1).setSlotState i 1, 0)
  else
    let r := s.slotRt i
    let s1 := match r.frame with
      | some f => match f.buf with
        | some b => s.mapCam i b (fun c => { c with busy := false })
        | none => s
      | none => s
    (((s1.setSlotRt i { r with frame := none }).wr (R.SLOT_EN i) 0).setSlotState i 0, 0)

/-! ### The Logbook's records of ingress (R516, R518) -/

/-- A unit that passed steps 1 and 2 is recorded raw, when its slot is in `LB_SLOTS`. -/
def State.lbUnit (s : State) (i rtype stamp : Nat) (raw : Bytes) : State :=
  if s.rd R.LB_EN = 1 && !s.replaying && (s.rd R.LB_SLOTS).testBit i then
    let p := s.slotPort i
    s.lbAppend (ftWord stamp s.timeFlags) (0x9000 + i) rtype
      (toLe 1 p.1 ++ toLe 1 p.2.1 ++ toLe 1 p.2.2 ++ toLe 1 i ++ toLe 4 0 ++ raw)
  else s

/-- A capture edge is recorded: pin class, pin, edge. -/
def State.lbEdge (s : State) (cls pin edge stamp : Nat) : State :=
  if s.rd R.LB_EN = 1 && !s.replaying then
    s.lbAppend (ftWord stamp s.timeFlags) 0 6 (toLe 1 cls ++ toLe 1 pin ++ toLe 1 edge)
  else s

/-! ### Checks (R91 to R94) -/

/-- The outcome of the sequence check (R94): the gap, or a duplicate. -/
inductive SeqRes where
  | first | ok (gap : Nat) | dup

/-- The sequence check of a value modulo `m` against the baseline. -/
def seqCheck (base : Option Nat) (v m : Nat) : SeqRes := match base with
  | none => .first
  | some b =>
    let d := (v % m + m - b % m) % m
    if d = 0 || m ≤ 2 * d then .dup else .ok (d - 1)

/-- Step 4 of R91: `false` when the unit is dropped. -/
def State.seqStep (s : State) (i v m : Nat) : Bool × State :=
  match seqCheck (s.slotRt i).seq v m with
  | .first => (true, s)
  | .dup => (false, s.bump (R.DROP_DUP i))
  | .ok g => (true, if g = 0 then s else (s.bumpN (R.SEQ_GAP i) g).slotEvent 0x2203 i)

/-- A unit that passed steps 1 to 5 is accepted (R91, R100).
[DEDUCED, log entry 21] -/
def State.acceptUnit (s : State) (i stamp : Nat) (seq : Option Nat) : State :=
  let s1 := (s.add64 (R.UNITS i) 1).wr (R.LAST_UNIT i) (ftWord stamp s.timeFlags)
  let s2 := s1.setSlotState i 2
  let r := s2.slotRt i
  s2.setSlotRt i { r with timer := s.now, seq := if seq = none then r.seq else seq }

/-! ### Contracts (R96) -/

/-- The bucket is evaluated at a unit's capture stamp. -/
def State.refill (s : State) (i stamp : Nat) : State :=
  let r := s.slotRt i
  if stamp ≤ r.fillT then s
  else s.setSlotRt i { r with tokens := min (s.bucketFull i) (r.tokens + (stamp - r.fillT) * s.rd (R.C_RATE i)), fillT := stamp }

/-- One token is taken. -/
def State.takeToken (s : State) (i : Nat) : State :=
  let r := s.slotRt i
  s.setSlotRt i { r with tokens := r.tokens - ftSec }

/-- A drop by the contract: event 0x2202 at the first in a Meridian second.
[DEDUCED, log entry 21] -/
def State.contractDrop (s : State) (i : Nat) : State :=
  let s1 := s.bump (R.DROP_CONTRACT i)
  let r := s1.slotRt i
  let sec := s.now / ftSec
  if r.dropSec = some sec then s1 else (s1.setSlotRt i { r with dropSec := some sec }).slotEvent 0x2202 i

/-- A range point may enter. -/
def State.pointAdmitted (s : State) (i : Nat) (keep : Bool) : Bool :=
  let t := (s.slotRt i).tokens
  ftSec ≤ t && (keep || s.rd (R.KEEP_RES i) * s.bucketFull i ≤ 100 * t)

/-! ### Time (R89, R91 step 5) -/

/-- The base time of a unit in 2^−16 ns; `none` when the sensor's time lies too far from the stamp. -/
def unitBase (t : Tpl) (pk : List FVal) (stamp : Nat) : Option Int :=
  if t.tmode = 1 then
    let f := fun (r : Nat) => match roleVal pk r with
      | some v => v.handed
      | none => 0
    let b := (f 8 * 1000000000 + f 9) * 65536
    if (b - (stamp : Int)).natAbs ≤ t.tsTol * ftNs then some b else none
  else some ((stamp : Int) - (t.pktLat * ftNs : Nat))

/-- The value of a role at the most specific level that has it.
[DEDUCED, log entry 21] -/
def pickRole (r : Nat) (a b c : List FVal) : Option FVal :=
  match roleVal a r with
  | some v => some v
  | none => match roleVal b r with
    | some v => some v
    | none => roleVal c r

/-! ### Range points (R89 to R92, R96, R97, R99) -/

/-- The keep test of a point (R97), by the Almanac copy in use at its time.
[DEDUCED, log entry 21] -/
def State.keepTest (s : State) (i t x y z : Nat) : Bool :=
  let alm := s.almOfTime t
  let v := Pose.apply (s.extrinsic alm i)
    { x := Fx.ofDy (fpDy fp32 x), y := Fx.ofDy (fpDy fp32 y), z := Fx.ofDy (fpDy fp32 z) }
  s.keepAt alm v.x v.y

/-- The depth of a hand-off buffer (R85). -/
abbrev bufDepth : Nat := 16384

/-- A point is handed to Sentinel A, Sentinel B and Talus, or dropped for all three (R90, R99). The write takes an armed flip
mask of class 11; a point whose word has broken parity is reported and does not reach its readers (R404, R419).
[DESIGN CHOICE, log entry 12] -/
def State.handOff (s : State) (i : Nat) (p : Pt) : State :=
  if bufDepth ≤ s.siu.fifoS.length || bufDepth ≤ s.siu.fifoT.length then
    ((s.bump (R.DROP_BUF i)).slotEvent 0x2206 i).mapSnt fun n => { n with overflow := true }
  else if s.flipBreaks 11 then (s.disarmFlip 11).smallParity (0x9000 + i) 16 (s.rd (R.FLIP_MASK 11))
  else
    let s := s.disarmFlip 11
    let fs := s.siu.fifoS ++ [p]
    let ft := s.siu.fifoT ++ [p]
    { s with siu := { s.siu with fifoS := fs, fifoT := ft } }.wr R.BUF_PEAK
      (max (s.rd R.BUF_PEAK) (max fs.length ft.length))

/-- One point of a packet (R91 steps 6 to 10). `pk` and `bv` are the packet's and the block's values, `j` its position.
[DEDUCED, log entry 21] -/
def State.rangePoint (s : State) (i : Nat) (t : Tpl) (stamp : Nat) (base : Int) (pk bv pv : List FVal) (j : Nat) : State :=
  let hand := fun (r : Nat) => (pickRole r pv bv pk).map (fun v => v.handed)
  match pickRole 1 pv bv pk with
  | none => s
  | some rng =>
    if rng.raw = 0 then s
    else if rangeFails pv then s.bump (R.DROP_RANGE i)
    else
      let chan := match hand 6 with
        | some c => c.toNat
        | none => j
      let ce := chanEntry t chan
      let az := ((hand 2).getD 0).toNat
      let el := match hand 3 with
        | some e => e.toNat
        | none => ce.1
      let c := pointXyz rng.handed.toNat az ce.2 el
      let ti := base + ((hand 7).getD 0) * 65536
      if (stamp : Int) + (s.rd R.FUTURE_TOL * ftNs : Nat) < ti then (s.bump (R.DROP_TIME i)).slotEvent 0x2204 i
      else
        let keep := s.keepTest i ti.toNat c.1 c.2.1 c.2.2
        if !s.pointAdmitted i keep then s.contractDrop i
        else
          (s.takeToken i).handOff i
            { t := ti.toNat, x := c.1, y := c.2.1, z := c.2.2, range := rng.handed.toNat,
              inten := (clampInt 0 65535 ((hand 4).getD 0)).toNat, echo := (clampInt 0 7 ((hand 5).getD 0)).toNat,
              chan := chan % 256, slot := i, keep := keep, group := s.siu.group }

/-- The points of a block, in payload order. -/
def State.rangeBlock (s : State) (i : Nat) (t : Tpl) (p : Bytes) (stamp : Nat) (base : Int) (pk : List FVal) (b : Nat) : State :=
  let bv := levelVals t p 1 b
  if rangeFails bv then s.bump (R.DROP_RANGE i)
  else
    ((pointStarts t b).foldl (fun (acc : Nat × State) q =>
      (acc.1 + 1, acc.2.rangePoint i t stamp base pk bv (levelVals t p 2 q) acc.1)) (0, s)).2

/-- An accepted range packet is handed on as one group (R90). -/
def State.rangePacket (s : State) (i : Nat) (t : Tpl) (p : Bytes) (stamp : Nat) (base : Int) (pk : List FVal) : State :=
  if rangeFails pk then s.bump (R.DROP_RANGE i)
  else
    let s1 := (blockStarts t).foldl (fun x b => x.rangeBlock i t p stamp base pk b) (s.refill i stamp)
    { s1 with siu := { s1.siu with group := (s1.siu.group + 1) % 2 ^ 48 } }

/-! ### Samples (R79, R91, R93, R103) -/

/-- A field's change exceeds `DMAX` × Δt (R93); `old` is the exact value of the baseline. The difference of an encoder's
32-bit count is taken modulo 2^32 (R79). -/
def rateFails (kind : Nat) (v : FVal) (old : Dy) (t t0 : Nat) : Bool :=
  let lim := fpDy fp32 v.f.dmax
  if lim.isZero then false
  else
    let d :=
      if kind = 5 && v.f.role = 0x16 && v.f.width = 32 then
        -- the count's baseline is kept as its raw value
        Dy.mul (Dy.ofInt (sgnOf 32 ((v.raw - old.floor) % 2 ^ 32).toNat)) (fpDy fp32 v.f.scale)
      else Dy.sub v.exact old
    Dy.lt (Dy.mul lim (Dy.ofInt ((t : Int) - t0))) (Dy.mul d.abs (Dy.ofInt (ftSec : Nat)))

/-- The baseline kept for a field. -/
def baseVal (kind : Nat) (v : FVal) : Dy :=
  if kind = 5 && v.f.role = 0x16 && v.f.width = 32 then Dy.ofInt v.raw else v.exact

/-- Step 7 of R91: whether the sample goes on.
[DEDUCED, log entry 21] -/
def State.rateStep (s : State) (i t : Nat) (vs : List FVal) : Bool × State :=
  let r := s.slotRt i
  let kind := s.rd (R.SLOT_KIND i)
  let nb := some (t, vs.map (baseVal kind))
  let fails := match r.base with
    | some (t0, l) => (vs.zip l).any (fun e => rateFails kind e.1 e.2 t t0)
    | none => false
  if !fails then (true, s.setSlotRt i { r with base := nb, fails := 0 })
  else if r.fails + 1 < 3 then (false, (s.setSlotRt i { r with fails := r.fails + 1 }).bump (R.DROP_RATE i))
  else (true, (s.setSlotRt i { r with base := nb, fails := 0 }).slotEvent 0x2205 i)

/-- A sample reaches its consumers: Sentinel's integrator and Theodolite; a GNSS sample Theodolite only (R80). -/
def State.deliver (s : State) (x : Sample) (kind : Nat) : State :=
  (if kind = 7 then s else s.integSample x).theoSample x

/-- A sample's values by role; an encoder's also carry its count and the scale (R79). -/
def sampleVals (kind : Nat) (vs : List FVal) : List (Nat × Nat) :=
  let l := vs.map (fun v => (v.f.role, ofSgn 64 v.handed))
  match kind, roleVal vs 0x16 with
  | 5, some v => l ++ [(0x100, ofSgn 32 v.raw), (0x101, v.f.scale)]
  | _, _ => l

/-- A sample of a slot whose values and time are known (R91 steps 4 to 9). `ti` is its time.
[DEDUCED, log entry 21] -/
def State.sampleUnit (s : State) (i : Nat) (vs : List FVal) (stamp : Nat) (seq : Option (Nat × Nat)) (ti : Option Int) : State :=
  let kind := s.rd (R.SLOT_KIND i)
  let (okSeq, s1) := match seq with
    | some (v, m) => s.seqStep i v m
    | none => (true, s)
  if !okSeq then s1
  else match ti with
    | none => s1.bump (R.DROP_TIME i)
    | some t0 =>
      let t := t0.toNat
      let old := match (s1.slotRt i).lastT with
        | some p => decide (t ≤ p)
        | none => false
      if old then s1.bump (R.DROP_TIME i)
      else
        let s2 := s1.acceptUnit i stamp (seq.map (fun e => e.1))
        let s3 := s2.setSlotRt i { s2.slotRt i with lastT := some t }
        if rangeFails vs then s3.bump (R.DROP_RANGE i)
        else
          let (ok, s4) := s3.rateStep i t vs
          if !ok then s4
          else if stamp + s4.rd R.FUTURE_TOL * ftNs < t then (s4.bump (R.DROP_TIME i)).slotEvent 0x2204 i
          else
            let s5 := s4.refill i stamp
            if (s5.slotRt i).tokens < ftSec then s5.contractDrop i
            else (s5.takeToken i).deliver { slot := i, t := t, vals := sampleVals kind vs } kind

/-- The sequence value of a unit with its modulus (R94). -/
def State.seqOf (s : State) (i : Nat) (pk : List FVal) : Option (Nat × Nat) :=
  (roleVal pk 0x0A).map (fun v =>
    let m := if s.rd (R.SEQ_MOD i) = 0 then 2 ^ v.f.width else s.rd (R.SEQ_MOD i)
    ((v.raw % (m : Int)).toNat, m))

/-- A matched unit of a range or sample slot (R91 steps 3 to 10). -/
def State.unit (s : State) (i : Nat) (p : Bytes) (stamp : Nat) : State :=
  let t := s.tpl i
  if !unitFormed t p then s.bump (R.DROP_FORMAT i)
  else
    let pk := levelVals t p 0 0
    if s.rd (R.SLOT_KIND i) = 1 then
      let seq := s.seqOf i pk
      let (okSeq, s1) := match seq with
        | some (v, m) => s.seqStep i v m
        | none => (true, s)
      if !okSeq then s1
      else match unitBase t pk stamp with
        | none => s1.bump (R.DROP_TIME i)
        | some b => (s1.acceptUnit i stamp (seq.map (fun e => e.1))).rangePacket i t p stamp b pk
    else
      let vs := pk ++ (blockStarts t).flatMap (fun b => levelVals t p 1 b)
      let off := match roleVal vs 7 with
        | some v => v.handed * 65536
        | none => 0
      s.sampleUnit i vs stamp (s.seqOf i pk) ((unitBase t pk stamp).map (fun b => b + off))

/-! ### Camera frames (R73, R95) -/

/-- A frame in progress is given up: its buffer is free again. -/
def State.dropFrame (s : State) (i : Nat) (f : FrameRt) : State :=
  let s1 := match f.buf with
    | some b => s.mapCam i b (fun c => { c with busy := false })
    | none => s
  s1.setSlotRt i { s1.slotRt i with frame := none }

/-- A damaged frame (R91 step 3). -/
def State.damagedFrame (s : State) (i : Nat) (f : FrameRt) : State :=
  ((s.dropFrame i f).bump (R.DROP_FORMAT i)).slotEvent 0x2207 i

/-- A frame starts: a free buffer is taken; the frame before it that has not ended is damaged.
[DEDUCED, log entry 22] -/
def State.frameStart (s : State) (i stamp num : Nat) : State :=
  let s0 := match (s.slotRt i).frame with
    | some f => s.damagedFrame i f
    | none => s
  let b := (List.range (s0.camBufs i).length).find? (fun j => match (s0.camBufs i)[j]? with
    | some c => !c.busy && c.ready = none
    | none => false)
  let s1 := match b with
    | some j => s0.mapCam i j (fun c => { c with busy := true })
    | none => s0
  s1.setSlotRt i { s1.slotRt i with
    frame := some { fs := stamp, fe := stamp, rows := 0, num := num, damaged := false, expo := none, bytes := 0, buf := b,
                    bad := false, rangeBad := false } }

/-- One image row: stored at its place in the buffer.
[DEDUCED, log entry 22] -/
def State.frameRow (s : State) (i : Nat) (data : Bytes) (crcOk : Bool) : State :=
  match (s.slotRt i).frame with
  | none => s
  | some f =>
    let t := s.tpl i
    let row := data.take t.blkStride
    let s1 := match f.buf.bind (fun b => (s.camBufs i)[b]?) with
      | some c =>
        let off := f.rows * t.blkStride
        if f.rows < t.rows && off + row.length ≤ c.size then (s.writeMem (0x9000 + i) (c.addr + off) row false).2 else s
      | none => s
    s1.setSlotRt i { s1.slotRt i with
      frame := some { f with rows := f.rows + 1, bytes := f.bytes + row.length, damaged := f.damaged || !crcOk } }

/-- Embedded data of a frame (R88, R95): its checks and the exposure. -/
def State.frameEmbedded (s : State) (i : Nat) (data : Bytes) (crcOk : Bool) : State :=
  match (s.slotRt i).frame with
  | none => s
  | some f =>
    let vs := levelVals (s.tpl i) data 0 0
    let e := (roleVal vs 0x0C).map (fun v => v.handed.toNat)
    s.setSlotRt i { s.slotRt i with
      frame := some { f with expo := if e = none then f.expo else e, damaged := f.damaged || !crcOk,
                             bad := f.bad || !wellFormedVals vs, rangeBad := f.rangeBad || rangeFails vs } }

/-- A frame ends and takes the checks of R91; `seq` is its sequence value with the modulus, none when not checked.
[DEDUCED, log entry 22] -/
def State.frameEnd (s : State) (i stamp : Nat) (seq : Option (Nat × Nat)) : State :=
  match (s.slotRt i).frame with
  | none => s
  | some f =>
    let t := s.tpl i
    if f.damaged || f.rows ≠ t.rows then s.damagedFrame i f
    else if f.bad then (s.dropFrame i f).bump (R.DROP_FORMAT i)
    else
      let (okSeq, s1) := match seq with
        | some (v, m) => s.seqStep i v m
        | none => (true, s)
      if !okSeq then s1.dropFrame i f
      else
        let s2 := s1.acceptUnit i f.fs (seq.map (fun e => e.1))
        if f.rangeBad then (s2.dropFrame i f).bump (R.DROP_RANGE i)
        else
          let s3 := s2.refill i f.fs
          if (s3.slotRt i).tokens < ftSec then (s3.dropFrame i f).contractDrop i
          else
            let s4 := s3.takeToken i
            match f.buf with
            | none => ((s4.dropFrame i f).bump (R.DROP_BUF i)).slotEvent 0x2206 i
            | some b =>
              let lat := s4.rd (R.DESER_LAT i) * ftNs
              let g := { f with fs := f.fs - lat, fe := stamp - lat, expo := some (f.expo.getD (s4.rd (R.EXPO_NS i))) }
              (s4.setSlotRt i { s4.slotRt i with frame := none }).mapCam i b
                (fun c => { c with busy := false, ready := some g, fed := false })

/-- The reference time of a ready frame (R95), floored to 2^−16 ns.
[DEDUCED, log entry 22] -/
def State.frameRef (s : State) (i : Nat) (f : FrameRt) : Nat :=
  let rows := (s.tpl i).rows
  let rr := s.rd (R.REF_ROW i)
  -- twice the reference row
  let rr2 := if rr = 0 then rows else 2 * rr
  let line : Int := if rows ≤ 1 then 0 else ((rr2 * (f.fe - f.fs) : Nat) : Int) / (2 * ((rows : Int) - 1))
  ((f.fs : Int) - ((f.expo.getD 0) * ftNs / 2 : Nat) + line).toNat

end Sys2Proof.Machine
end

