-- ==== Sys2Proof/Machine/ImgCheck.lean ====
section
/-! DEFINITION. The checks of admission, steps 1 to 11 of R295. Each answers the code of R560, the section index and the item,
or nothing; the first that answers refuses the image. -/
namespace Sys2Proof.Machine

/-- What a check answers: code, section index (0xFFFF the header), item within the section. -/
abbrev Chk := Option (Nat × Nat × Nat)

/-- A check that refuses when `b` holds. -/
def failIf (b : Bool) (code sec item : Nat) : Chk := if b then some (code, sec, item) else none

/-- A code of the header. -/
def failHdr (b : Bool) (code : Nat) : Chk := failIf b code 0xFFFF 0

/-- The first of the items that is bad. -/
def firstBad {α : Type} (l : List α) (bad : α → Bool) (code sec : Nat) (item : α → Nat) : Chk :=
  match l.find? bad with
  | some a => some (code, sec, item a)
  | none => none

/-- The item number of a slot-table entry: table and entry.
[DEDUCED, log entry 40] -/
def tableItem (t e : Nat) : Nat := t * 65536 + e

/-! ### Step 1 (R282, R284, R285) -/

/-- The bytes that a section's stated items take, for the types whose items have a fixed length. -/
def secNeeds (s : Sec) : Nat := match s.ty with
  | 1 => 32 * s.count
  | 2 => 64 * s.count
  | 0xA => 32 * s.count + 2048
  | _ => 0

/-- A section record by itself. -/
def secBad (len : Nat) (s : Sec) : Bool :=
  !(1 ≤ s.ty && s.ty ≤ 0x10) || s.off % 64 ≠ 0 || len < s.off + s.len || s.len < secNeeds s ||
    (s.ty ≠ 0xF && s.target ≠ 0)

/-- Two sections that one image may not hold together. -/
def secsMeet (a b : Sec) : Bool :=
  a.ix ≠ b.ix && (overlaps a.off a.len b.off b.len || (a.ty = b.ty && a.ty ≠ 0xF))

/-- `IMG_FORMAT` at a section. -/
def secFault : Option Sec → Chk
  | some s => some (0x2810, s.ix, 0)
  | none => none

/-- The form of the image: its header, then its section records.
[DEDUCED, log entry 40] -/
def Img.checkForm (i : Img) (room : Nat) : Chk :=
  let len := bitsOf 255 192 i.h
  let tab := 256 + 32 * i.nsec
  failHdr (bitsOf 31 0 i.h ≠ 0x4B564E31 || i.nsec = 0 || 256 < i.nsec || len < tab || room < len) 0x2810 <|>
  secFault (i.secs.find? (fun s => secBad len s || s.off < tab)) <|>
  secFault (i.secs.find? (fun s => i.secs.any (secsMeet s))) <|>
  failHdr ((i.sec 1).isNone || (i.sec 2).isNone || (i.sec 8).isNone) 0x2810

/-- The image's bytes meet a pinned allocation of the running image (R282).
[DEDUCED, log entry 40] -/
def State.checkPlace (s : State) (i : Img) : Chk :=
  failHdr (s.allocs.any (fun e => match e.2 with
    | some a => a.pinned && overlaps a.base a.size i.base (bitsOf 255 192 i.h)
    | none => false)) 0x2811

/-! ### Steps 2 to 6 -/

/-- Signature, rollback counter, digest (R283, R488, R495).
[DEDUCED, log entry 40] -/
def State.checkSigned (s : State) (i : Img) : Chk :=
  let hb := Machine.slice i.b 0 256
  let sl := s.fuseSlot i.keySlot
  failHdr (4 ≤ i.keySlot || !sl.mayUse 1 || !edVerify sl.pub (shake256 (hb.take 142) 64) (hb.drop 142)) 0x2812 <|>
  failHdr (64 ≤ i.rbIndex || i.rbValue < s.rollback i.rbIndex) 0x2813 <|>
  failHdr (i.poison || shake256 (i.b.drop 256) 32 ≠ Machine.slice hb 64 32) 0x2814

/-- `CAP_DEV` (R287). -/
def capDev (variant : Nat) : Nat :=
  let by_ := fun (k v : Nat) => v * 2 ^ (8 * k)
  let x := variant = 3
  0x3FFF + by_ 2 0x07 + by_ 3 0x0F + by_ 4 0x0F + by_ 5 0xFF + by_ 6 0x01 + by_ 8 (if x then 96 else 48) + by_ 10 32 +
  by_ 11 (if variant = 1 then 1 else 2) + by_ 12 (if x then 32 else 16) + by_ 13 (if x then 16 else 8) +
  by_ 14 (if x then 6 else 4) + by_ 15 8

/-- The image fits the device (R288). -/
def State.checkCaps (s : State) (i : Img) : Chk :=
  let req := bitsOf 1023 768 i.h
  let dev := capDev s.variant
  let cnt := fun (w k n : Nat) => bitsOf (8 * k + 8 * n - 1) (8 * k) w
  failHdr (clearMask (req % 2 ^ 56) dev ≠ 0 || cnt dev 8 2 < cnt req 8 2 ||
    [10, 11, 12, 13, 14, 15].any (fun k => cnt dev k 1 < cnt req k 1)) 0x2815 <|>
  failHdr (bitsOf 31 16 i.amVer ≠ 1 || bitsOf 15 0 i.amVer ≠ 0) 0x2816 <|>
  failHdr (!i.variants.testBit (s.variant - 1)) 0x2817 <|>
  failHdr (popCount 8 (cnt req 6 1) ≠ 1) 0x2818

/-- The item of a preset: the slot, the queue, or the entry. -/
def presetItem (idx sub : Nat) : Nat :=
  if idx ≤ 0x225F then idx - 0x2200 else if 0x2B00 ≤ idx && idx ≤ 0x2BFF then idx - 0x2B00 else entryArg idx sub

/-- Header values and preset values in range (step 6). -/
def State.checkValues (s : State) (i : Img) (x : ImageExtra) : Chk :=
  failHdr (i.period < 16666667 || 100000000 < i.period || i.lag < 4 || 2000 < i.lag || !([1, 2, 4].contains i.slice) ||
    i.rangeN = 0 || 8 < i.rangeN || (ftOfWord i.origin).isNone) 0x2004 <|>
  match x.presets.find? (fun p => !s.presetOk p.1 p.2.1 p.2.2) with
  | some p => some (0x2004, i.ix (presetSec p.1), presetItem p.1 p.2.1)
  | none => none

/-! ### Step 7: what the image names is present (R3, R19, R526, R528, R561) -/

/-- An agent of R19 exists on the variant. -/
def agentPresent (variant a : Nat) : Bool :=
  let n := a % 4096
  match a / 4096 with
  | 0 => n < 128
  | 1 => n = 0
  | 2 => n < 2
  | 3 => n = 0
  | 4 => n < 2
  | 5 => n < 64
  | 6 => n = 0
  | 7 => n < 4
  | 8 => n < 8
  | 9 => n < (if variant = 3 then 96 else 48)
  | 0xA => n = 0
  | 0xB => n < 4 && !(variant = 1 && n = 1)
  | 0xC => n < 5 || n = 8
  | _ => false

/-- A port of R81 exists on the variant. -/
def portPresent (variant cls num : Nat) : Bool := match cls with
  | 0 => num < (if variant = 3 then 32 else 16)
  | 1 => num < (if variant = 3 then 16 else 8)
  | 2 => num < 4
  | 3 => num < 4
  | 4 => num < 2
  | 5 => num < 16
  | _ => false

/-- The domain of a port (R526). -/
def portDomain (cls num : Nat) : Nat := match cls with
  | 0 => if num < 16 then 15 else 31
  | 1 => if num < 8 then 14 else 31
  | 5 => 3
  | _ => 16

/-- The domain of a slotted resource (R526, R561). -/
def resDomain (r : Nat) : Nat :=
  if r < 0x100 then 10 else if r < 0x120 then 22 + (r - 0x100) / 4 else if r < 0x140 then 22 + (r - 0x120) / 4
  else if r < 0x144 then 18 + (r - 0x140) else if r < 0x148 then 18 + (r - 0x144)
  else if r < 0x1D0 then 22 + (r - 0x150) / 16 else if r < 0x1D2 then 30 else if r < 0x1D4 then 10
  else if r < 0x200 then 13 else if r < 0x210 then 11 else if r < 0x220 then 12
  else if (r - 0x300) / 2 < 4 then 17 else 31

/-- A slotted resource exists on the variant: no link leaves the grid (R561). -/
def resPresent (variant r : Nat) : Bool :=
  if r < 0x100 then
    let n := r / 4
    n < 60 && !(r % 4 = 0 && n % 10 = 9) && !(r % 4 = 1 && n % 10 = 0) && !(r % 4 = 2 && n / 10 = 5) && !(r % 4 = 3 && n / 10 = 0)
  else if r < 0x148 then true
  else if r < 0x150 then false
  else if r ≤ 0x1D4 then true
  else if r < 0x200 then false
  else if r < 0x220 then r < 0x210 || variant ≠ 1
  else if r < 0x300 then false
  else r < 0x300 + 2 * (if variant = 3 then 6 else 4)

/-- The domains an agent works in (R526). -/
def State.agentDomains (s : State) (a : Nat) : List Nat :=
  let n := a % 4096
  match a / 4096 with
  | 0 => [22 + n / 16]
  | 1 => [6]
  | 2 => [4 + n]
  | 3 => [7]
  | 4 => if n = 0 then [8] else [9, 8]
  | 6 => [2]
  | 7 => if n = 2 then [16] else if n = 3 then [14] else [13]
  | 8 => [17]
  | 9 => let p := s.rd (R.SLOT_PORT n); [portDomain (bitsOf 15 12 p) (bitsOf 11 4 p)]
  | 0xB => if n = 0 then [11] else if n = 1 then [12] else if n = 2 then [30] else [10]
  | 0xC => if n < 4 then [18 + n] else [10]
  | _ => [10]

/-- Every domain is on. -/
def State.domainsOn (s : State) (ds : List Nat) : Bool := ds.all s.pdOn

/-- The declared slots, in the values the image presets. -/
def State.declaredSlots (t : State) : List Nat := (List.range 96).filter (fun i => t.rd (R.SLOT_KIND i) ≠ 0)

/-- A slot's port exists and its domain is on. -/
def State.slotPortOk (t : State) (i : Nat) : Bool :=
  let v := t.rd (R.SLOT_PORT i)
  let c := bitsOf 15 12 v
  let n := bitsOf 11 4 v
  i < t.slotCount && portPresent t.variant c n && t.pdOn (portDomain c n)

/-- The domain of the store that holds a local address; none outside the stores. -/
def addrDomain (variant a : Nat) : Option Nat :=
  let r := regionOf variant a
  if classOf r = 12 then none else if classOf r = 8 then some 10 else some (domainOfStore (storeOf r))

/-- An allocation names a stack or store that the variant lacks or whose domain is off.
[DEDUCED, log entry 40] -/
def State.allocAbsent (t : State) (base : Nat) : Bool :=
  (addrDomain t.variant base).isNone && (addrDomain 3 base).isSome ||
    (match addrDomain t.variant base with | some d => !t.pdOn d | none => false)

/-- Tables with their place in a section. -/
def Img.numbered (i : Img) (ty : Nat) : List (Nat × Nat × Nat × List Nat) :=
  (i.tables ty).mapIdx (fun k t => (k, t.1, t.2.1, t.2.2))

/-- A task's units exist and are on; a span that passes C31 is `TT_FORMAT`'s. -/
def State.taskPresent (t : State) (r : TaskRec) : Bool :=
  agentPresent t.variant r.unit &&
    (if r.isSpur then (r.cirques.filter (· < 32)).all (fun c => t.pdOn (22 + c / 4)) else t.domainsOn (t.agentDomains r.unit))

/-- Step 7. -/
def State.checkPresent (t : State) (i : Img) (x : ImageExtra) : Chk :=
  (match x.presets.find? (fun p => !resourcePresent t.variant p.1 p.2.1) with
    | some p => some (0x2005, i.ix (presetSec p.1), presetItem p.1 p.2.1)
    | none => none) <|>
  firstBad t.declaredSlots (fun k => !t.slotPortOk k) 0x2005 (i.ix 8) (fun k => k) <|>
  firstBad (x.cams.map (·.1) ++ x.rings.map (·.1)) (fun k => t.slotCount ≤ k) 0x2005 (i.ix 8) (fun k => k) <|>
  [5, 6, 7].findSome? (fun ty =>
    firstBad (i.numbered ty) (fun e => !resPresent t.variant e.2.1 || !t.pdOn (resDomain e.2.1)) 0x2005 (i.ix ty)
      (fun e => tableItem e.1 0)) <|>
  (match x.allocs.findIdx? (fun a => t.allocAbsent a.1) with
    | some k => some (0x2005, i.ix 9, k)
    | none => none) <|>
  firstBad i.tasks (fun r => !t.taskPresent r.t || r.t.inputs.any (fun e => e.kind = 2 && t.slotCount ≤ e.src)) 0x2005 (i.ix 2)
    (fun r => r.t.task)

/-! ### Step 8: stream slots and templates (R82, R86, R98, R121 (b), R162, R565) -/

/-- The match rules of a slot: port, identifier or address, its mask, UDP port.
[DEDUCED, log entry 40] -/
def State.matchRule (t : State) (k : Nat) : Nat × Nat × Nat × Nat :=
  let p := t.tpl k
  (t.rd (R.SLOT_PORT k), p.mid, p.mmask, p.mport)

/-- Step 8. -/
def State.checkStreams (t : State) (i : Img) : Chk :=
  let sl := t.declaredSlots
  let rng := sl.filter (fun k => t.rd (R.SLOT_KIND k) = 1)
  let sec := i.ix 8
  let sum := fun (f : Nat → Nat) => (rng.map (fun k => t.rd (f k))).foldl (· + ·) 0
  firstBad sl (fun k => sl.any (fun j => j < k && t.matchRule j = t.matchRule k)) 0x2820 sec (fun k => k) <|>
  failIf (320000000 < sum R.C_RATE) 0x2821 sec 0 <|>
  failIf (16384 < sum R.C_BURST) 0x2822 sec 0 <|>
  firstBad rng (fun k => rng.any (fun j => j < k && t.rd (R.MASK_BIT (j + 1)) = t.rd (R.MASK_BIT (k + 1)))) 0x2823 sec (fun k => k) <|>
  firstBad sl (fun k => !tplOk (t.rd (R.SLOT_KIND k)) (padTo 2048 (t.obj (0x5200 + t.rd (R.SLOT_TPL k))))) 0x2004 sec
    (fun k => t.rd (R.SLOT_TPL k)) <|>
  firstBad sl (fun k => t.rd (R.DEAD_T k) ≤ t.rd (R.STALE_T k) || t.rd (R.SEQ_MOD k) = 1) 0x2004 sec (fun k => k) <|>
  firstBad rng (fun k => 1000000 < t.rd (R.SWEEP_T (k + 1))) 0x2004 (i.ix 0xB) (fun k => k)

/-! ### Step 9: objects, `DATA`, queues (R219, R285, R379) -/

/-- A range lies inside one pinned allocation.
[DEDUCED, log entry 40] -/
def State.insidePinned (t : State) (a n : Nat) : Bool :=
  t.allocs.any (fun e => match e.2 with
    | some al => al.pinned && al.base ≤ a && a + n ≤ al.base + al.size
    | none => false)

/-- The bytes of queue memory that queue `q` takes. -/
def State.qRange (t : State) (q : Nat) : Nat × Nat := (8 * t.rd (R.Q_BASE q), 8 * t.qWords q)

/-- An agent that a queue names exists: any host route for class 7 (R378). -/
def State.qAgentBad (t : State) (q : Nat) : Bool :=
  let p := t.rd (R.Q_PROD q)
  let c := t.rd (R.Q_CONS q)
  !agentPresent t.variant p || !agentPresent t.variant c || (q < 64 && c / 4096 ≠ 7) ||
    (248 ≤ q && (p / 4096 = 7 || c / 4096 = 7))

/-- Step 9; `err` is what creating the objects met. -/
def State.checkObjects (t : State) (i : Img) (x : ImageExtra) (err : Option (Nat × Nat × Nat)) : Chk :=
  let qs := (List.range 256).filter t.qEnabled
  let sec := i.ix 0x10
  (match err with
    | some e => some (0x2C00 + e.2.1, i.ix e.1, e.2.2)
    | none => none) <|>
  (match i.datas.find? (fun d => !t.insidePinned d.target d.len) with
    | some d => some (0x2824, d.ix, 0)
    | none => none) <|>
  (match x.allocs.findIdx? (fun a => overlaps a.1 a.2.1 i.base (bitsOf 255 192 i.h)) with
    | some k => some (0x2811, i.ix 9, k)
    | none => none) <|>
  firstBad qs (fun q => t.rd (R.Q_LOG2 q) < 6 || 19 < t.rd (R.Q_LOG2 q) || t.rd (R.Q_BASE q) % t.qWords q ≠ 0) 0x2825 sec
    (fun q => q) <|>
  firstBad qs (fun q =>
    let a := t.qRange q
    overlaps a.1 a.2 (t.rd R.PR_BASE) 65536 ||
      qs.any (fun p => p < q && overlaps a.1 a.2 (t.qRange p).1 (t.qRange p).2)) 0x2826 sec (fun q => q) <|>
  firstBad qs (fun q => t.qAgentBad q) 0x2827 sec (fun q => q) <|>
  firstBad qs (fun q => (t.rd (R.Q_CAIRN q)).testBit 15 && !(i.plan.any (fun p => p.1 = t.rd (R.Q_CAIRN q) % 2 ^ 14))) 0x2828 sec
    (fun q => q)

/-! ### Step 10: slot tables (R289 to R293, R561) -/

/-- A table stands in its own section. -/
def tableHome (ty r : Nat) : Bool := match ty with
  | 5 => 0x200 ≤ r && r < 0x300
  | 6 => r < 0x200
  | _ => 0x300 ≤ r

/-- An entry whose owner does not exist, or whose use a one-way port excludes. -/
def entryBad (variant r e : Nat) : Bool :=
  let u := bitsOf 15 13 e
  let rdPort := (0x100 ≤ r && r < 0x120) || (0x140 ≤ r && r < 0x144)
  let wrPort := (0x120 ≤ r && r < 0x140) || (0x144 ≤ r && r < 0x148) || (0x150 ≤ r && r < 0x1D0)
  (1 ≤ u && u ≤ 3 && !agentPresent variant (bitsOf 31 16 e)) || (rdPort && (u = 2 || u = 3)) || (wrPort && (u = 1 || u = 3))

/-- An entry of the PCIe transmit path that gives a slot of the PCIe core away, or another slot to an owner that may have none
there (R428).
[DEDUCED, log entry 40] -/
def pcieBad (r k e : Nat) : Bool :=
  let a := bitsOf 31 16 e
  r = 0x1D4 && 1 ≤ bitsOf 15 13 e && bitsOf 15 13 e ≤ 3 && (k % 8 = 0 || (a / 4096 ≠ 5 && a ≠ 0xA000))

/-- The node of a port resource (R561). -/
def resNode (r : Nat) : Option (Nat × Nat) :=
  if r < 0x100 then none
  else if r < 0x140 then some (agentNode (4 * (r % 32)))
  else if r < 0x148 then some (0, r % 4 + 1)
  else if r < 0x150 then none
  else if r < 0x1D0 then some (agentNode (r - 0x150))
  else if r < 0x1D2 then some (4, 0)
  else if r < 0x1D4 then some (5, 0)
  else if 0x200 ≤ r && r < 0x220 then some ((if r < 0x210 then 0 else 6) + r % 16 / 4, 0)
  else none

/-- The routes an agent's slots on the ports give it (R292, R561). -/
def routesOf (ts : List (Nat × Nat × List Nat)) (a : Nat) : List (List Nat) :=
  ts.flatMap (fun t => match resNode t.1 with
    | none => []
    | some n =>
      let own := fun w => t.2.2.any (fun e => bitsOf 31 16 e = a && usePermits (bitsOf 15 13 e) w)
      (if own true then [routeLinks (agentNode a) n] else []) ++ (if own false then [routeLinks n (agentNode a)] else []))

/-- The owner of slot `i` of a wheel; none where it is idle. -/
def ownerAt (ts : List (Nat × Nat × List Nat)) (r i : Nat) : Option Nat :=
  match ts.find? (fun t => t.1 = r) with
  | none => none
  | some t => let e := t.2.2.getD (i % 512) 0; if 1 ≤ bitsOf 15 13 e && bitsOf 15 13 e ≤ 3 then some (bitsOf 31 16 e) else none

/-- Every hop of a route that starts in slot `i` belongs to the agent. -/
def chainOwned (ts : List (Nat × Nat × List Nat)) (a i : Nat) (route : List Nat) : Bool :=
  (route.mapIdx (fun h l => ownerAt ts l (i + h) == some a)).all id

/-- Slot `i` of link `l` starts a chain of its owner along which another owner stands (R292).
[DEDUCED, log entry 40] -/
def chainBroken (ts : List (Nat × Nat × List Nat)) (l i : Nat) : Bool := match ownerAt ts l i with
  | none => false
  | some a =>
    let rs := (routesOf ts a).filter (fun r => r.head? = some l)
    !rs.isEmpty && rs.all (fun r => !chainOwned ts a i r)

/-- The entries of a table that use `USE` = 4. -/
def refreshes (l : List Nat) : Nat := (l.filter (fun e => bitsOf 15 13 e = 4)).length

/-- Step 10. The peers' tables are outside the image, so `SLOT_PEER` is not raised.
[DESIGN CHOICE, log entry 60] -/
def State.checkTables (t : State) (i : Img) : Chk :=
  let all := i.allTables
  let each := fun (code : Nat) (bad : Nat → Nat × Nat × Nat × List Nat → Bool) =>
    [5, 6, 7].findSome? (fun ty => firstBad (i.numbered ty) (bad ty) code (i.ix ty) (fun e => tableItem e.1 0))
  each 0x2830 (fun _ e => (all.filter (fun a => a.1 = e.2.1)).length ≠ 1) <|>
  each 0x2835 (fun ty e => !tableHome ty e.2.1 || e.2.2.1 ≠ wheelLen e.2.1) <|>
  [5, 6, 7].findSome? (fun ty => (i.numbered ty).findSome? (fun e =>
    match (List.range e.2.2.2.length).find? (fun k =>
        entryBad t.variant e.2.1 (e.2.2.2.getD k 0) || pcieBad e.2.1 k (e.2.2.2.getD k 0)) with
    | some k => some (0x2831, i.ix ty, tableItem e.1 k)
    | none => none)) <|>
  (i.numbered 6).findSome? (fun e =>
    if 0x100 ≤ e.2.1 then none
    else match (List.range 512).find? (chainBroken all e.2.1) with
      | some k => some (0x2832, i.ix 6, tableItem e.1 k)
      | none => none) <|>
  ((List.range (if t.variant = 1 then 16 else 32)).findSome? (fun c =>
    match i.tables 5 |>.findIdx? (fun e => e.1 = 0x200 + c) with
    | none => some (0x2833, i.ix 5, tableItem c 0)
    | some k => failIf (refreshes ((i.tables 5).getD k (0, 0, [])).2.2 < 8) 0x2833 (i.ix 5) (tableItem k 0)))

/-! ### Step 11: the cairn plan (R373) -/

/-- An owner that R360 lists, present. -/
def State.ownerOk (t : State) (a : Nat) : Bool :=
  agentPresent t.variant a && ([1, 3, 4, 5, 6, 7, 8].contains (a / 4096) || (a / 4096 = 0 && a % 4 = 0))

/-- A chain of forwards on this device comes back to its start within `fuel` steps. -/
def forwardLoop (p : List (Nat × CairnPlan)) (start : Nat) : Nat → Nat → Bool
  | 0, _ => false
  | fuel + 1, c => match p.find? (fun e => e.1 = c) with
    | none => false
    | some e =>
      if e.2.fwdMode = 1 || e.2.fwdMode = 3 then e.2.fwdCairn = start || forwardLoop p start fuel e.2.fwdCairn else false

/-- A forwarding entry of the plan is bad. -/
def fwdBad (p : List (Nat × CairnPlan)) (n : Nat) (e : Nat × CairnPlan) : Bool :=
  let c := e.2
  if c.fwdMode = 0 then c.fwdStep ≠ 0
  else
    ((c.fwdMode = 1 || c.fwdMode = 3) && !(p.any (fun x => x.1 = c.fwdCairn))) || c.fwdStep = 0 || 2 ^ 31 ≤ c.fwdStep ||
    c.fwdTgt ≠ (c.rest + c.fwdStep) % 2 ^ 32 || forwardLoop p e.1 p.length e.1 || (c.fwdMode = 2 && n ≤ c.fwdRid)

/-- The cairn an instruction word names: class 6, operations 1 to 5. -/
def wordCairn (w : Nat) : Option Nat :=
  if bitsOf 63 60 w = 6 && 1 ≤ bitsOf 59 54 w && bitsOf 59 54 w ≤ 5 then some (bitsOf 45 32 w) else none

/-- The instruction words of a cirque task. -/
def Img.taskWords (i : Img) (t : TaskRec) : List Nat :=
  if !t.isSpur then []
  else
    let b := i.bytes 4
    (List.range (max 1 t.cirqN)).flatMap (fun c => (bitsSet 4 t.spurs).flatMap (fun k =>
      (List.range t.progW).map (fun j => leAt b (t.prog + (4 * c + k) * 8 * t.progW + 8 * j) 8)))

/-- The cairns a task names. -/
def Img.taskCairns (i : Img) (t : TaskRec) : List Nat :=
  t.doneCairn :: (t.inputs.filter (fun e => e.kind = 5)).map (fun e => e.arg % 2 ^ 14) ++ (i.taskWords t).filterMap wordCairn

/-- Step 11. -/
def State.checkCairns (t : State) (i : Img) (x : ImageExtra) : Chk :=
  let p := i.plan
  let sec := i.ix 0xA
  let item := fun (e : Nat × CairnPlan) => e.1
  let undecl := fun c => !(p.any (fun e => e.1 = c))
  firstBad p (fun e => 1 < (p.filter (fun f => f.1 = e.1)).length) 0x2838 sec item <|>
  firstBad p (fun e => (32 ≤ e.2.home && e.2.home ≤ 62) ||
    (e.2.home < 32 && 128 < (p.filter (fun f => f.2.home = e.2.home)).length)) 0x2839 sec item <|>
  firstBad p (fun e => !t.ownerOk e.2.owner || i.count 1 ≤ e.2.cycle) 0x283A sec item <|>
  firstBad p (fwdBad p i.rangeN) 0x283B sec item <|>
  failIf (7936 < (p.map (fun e => e.2.waitMax)).foldl (· + ·) 0) 0x283C sec 0 <|>
  firstBad i.tasks (fun r => (i.taskCairns r.t).any undecl) 0x283D (i.ix 2) (fun r => r.t.task) <|>
  firstBad x.setBufs (fun b => undecl b.ready || undecl b.release) 0x283D (i.ix 0xB) (fun b => b.ready) <|>
  firstBad x.rulebooks (fun w => undecl (rProg w)) 0x283D (i.ix 0xB) (fun w => w % 64) <|>
  firstBad x.specs (fun b => undecl (gDone (specHead b))) 0x283D (i.ix 0xC) (fun b => bitsOf 103 96 (specHead b)) <|>
  firstBad (List.range 512) (fun k => i.tmo k = 0 || 10000000 < i.tmo k) 0x283E sec (fun k => k)

end Sys2Proof.Machine
end

