-- ==== Sys2Proof/Machine/ImgFit.lean ====
section
/-! DEFINITION. The checks of admission, steps 12 to 16 of R295: rulebooks (R225), Astrograph (R259), Theodolite (R340), task
records (R300 to R302), share maps (R450), the fast-path and timetable fit (R296, R297), scoreboards (R298). -/
namespace Sys2Proof.Machine

/-! ### Step 12: rulebooks (R225). Times in units of 1/80 ns -/

/-- The rulebook specs with their IDs, ascending. -/
def State.rulebooks (t : State) : List (Nat × Nat) :=
  (List.range 64).filterMap (fun r => (t.rbSpec r).map (fun w => (r, w)))

/-- `RB_KERNEL`. -/
def kernelBad (w : Nat) : Bool :=
  if rMode w ≤ 1 then [rKx w, rKy w, rKz w].any (fun k => k ≠ 1 && k ≠ 3 && k ≠ 5)
  else rKx w ≠ 2 || rKy w ≠ 2 || rKz w ≠ 2

/-- The output set of a GEN rulebook with an ID below `r`. -/
def State.genSetBelow (t : State) (r id : Nat) : Bool :=
  64 ≤ id && id - 64 < r && (match t.rbSpec (id - 64) with | some w => rMode w = 1 | none => false)

/-- `RB_SET`. -/
def State.rbSetBad (t : State) (r w : Nat) : Bool :=
  let lv := t.rd R.OCT_LEVELS
  let i := rInSet w
  let isLevel := i < 64 && i < lv
  if rMode w ≤ 1 then !(isLevel || t.genSetBelow r i)
  else if rMode w = 2 then !isLevel || lv ≤ i + 1
  else !isLevel || i = 0

/-- What two specs must not agree in (`RB_DUP`). -/
def rbIdentity (w : Nat) : List Nat :=
  [rMode w, rInSet w, rKx w, rKy w, rKz w] ++
    (if rMode w = 1 then [rDilCap w, rDilMin w, rKmin w, rKmax w] else [])

/-- The bound of R229 with every count at its cap, in 1/80 ns. -/
def State.rbTime (t : State) (r w : Nat) : Nat :=
  let ni := t.setCap 65 (rInSet w)
  let no := t.setCap 65 (rOutSet w r)
  let hash := if rMode w ≤ 1 && rInSet w ≠ 0 then 50 * ni else 0
  800000 + (match rMode w with
    | 0 => 25 * ni * rVol w + 40 * no + hash
    | 1 => 25 * (ni + no) * rVol w + 200 * no + hash
    | 2 => 25 * ni + 40 * no
    | _ => 40 * no)

/-- The bound of R129 at the site cap, in 1/80 ns. -/
def State.octTime (t : State) : Nat := 1600000 + 88 * t.rd R.SITE_CAP

/-- The bytes that a set buffer's rulebook area must hold (R233). -/
def State.rbNeeds (t : State) : Nat :=
  t.rulebooks.foldl (fun a e => upTo 4096 (a + t.rbWorst e.2 e.1)) (upTo 4096 (32 * t.rd R.SITE_CAP))

/-- A rulebook field outside its range (R224).
[DEDUCED, log entry 40] -/
def rbFieldBad (w : Nat) : Bool :=
  !([64, 128, 256, 512].contains (rTileRows w)) || (rMode w = 1 && rVol w < rDilMin w)

/-- The rulebook checks. -/
def State.checkRulebooks (t : State) (i : Img) : Chk :=
  let rs := t.rulebooks
  let sec := i.ix 0xB
  let item := fun (e : Nat × Nat) => e.1
  firstBad rs (fun e => kernelBad e.2) 0x2840 sec item <|>
  firstBad rs (fun e => t.rbSetBad e.1 e.2) 0x2841 sec item <|>
  firstBad rs (fun e => rs.any (fun f => f.1 < e.1 && rbIdentity f.2 = rbIdentity e.2)) 0x2842 sec item <|>
  firstBad rs (fun e => rMode e.2 = 1 &&
    (t.rbCap e.2 e.1 < t.setCap 65 (rInSet e.2) || 4194304 < t.rbCap e.2 e.1)) 0x2843 sec item <|>
  failIf ((!rs.isEmpty || t.rd R.RB_AREA ≠ 0) && t.rd R.RB_AREA < t.rbNeeds) 0x2844 sec 0 <|>
  failIf (!rs.isEmpty && i.period * 80 < t.octTime + (rs.map (fun e => t.rbTime e.1 e.2)).foldl (· + ·) 0) 0x2845 sec 0 <|>
  firstBad rs (fun e => rbFieldBad e.2) 0x2004 sec item

/-! ### Step 12: Astrograph (R259) -/

/-- A field of a spec's header outside its range (R257). -/
def State.specRangeBad (t : State) (b : Bytes) : Bool :=
  let h := specHead b
  let op := gOp h
  let st := bitsOf 159 152 h
  let set := gInSet h
  !(1 ≤ gC h && gC h ≤ 512) || decide (gZhi h ≤ gZlo h) || 16 < gNcam h || 2 < gDisMode h ||
  !(fpFinite fp32 (gDstep h)) || !(Dy.le (Dy.ofInt 0) (fpDy fp32 (gDstep h))) || (fpDy fp32 (gDstep h)).isZero ||
  (op = 0 && !(1 ≤ gNb h && gNb h ≤ 128)) || (op = 1 && !(1 ≤ gNb h && gNb h ≤ 8)) ||
  (op = 1 && !(1 ≤ gNs h && gNs h ≤ 16)) || (if op = 1 then !([1, 2, 4, 8].contains st) else st ≠ 1) ||
  (op = 2 && !(set < 64 && set < t.rd R.OCT_LEVELS) && !(t.genSetBelow 64 set))

/-- A camera entry outside its range (R258). -/
def camRangeBad (e : Nat) : Bool :=
  kWin e < 1000 || 1000000 < kWin e || kStride e = 0 || 64 < kStride e

/-- A handle whose descriptor has the given layout, formats and extents, and `CHAN` where one is given. -/
def State.shapeIs (t : State) (h layout : Nat) (fmts : List Nat) (chan : Option Nat) (ext : List Nat) : Bool :=
  match t.descWord h with
  | none => false
  | some w =>
    dLayout w = layout && (fmts.isEmpty || fmts.contains (dFmt w)) && dRank w = ext.length &&
      (match chan with | some c => dChan w = c | none => true) && (List.range 5).all (fun d => dExt w d = ext.getD d 1)

/-- The shape rules of a spec (`AG_SHAPE`). -/
def State.specShapeOk (t : State) (b : Bytes) : Bool :=
  let h := specHead b
  let q := 1024 / gStride h
  let g := fun (c : Nat) => ceilDiv c 32
  let cams := (specCams b).all (fun e =>
    t.shapeIs (kFeat e) 1 [] (some (gC h)) [g (gC h), kW e, kH e] &&
    (gOp h ≠ 0 || t.shapeIs (kAux e) 1 [0xA, 0xB, 0xC] (some (gNb h)) [g (gNb h), kW e, kH e]) &&
    (gOp h ≠ 1 || t.shapeIs (kAux e) 0 [0xB] none [3, gNs h, gNb h, q, q]))
  let oc := if gOp h = 3 then gC h + 1 else gC h
  (1 < gOp h || cams) && t.shapeIs (gOut h) 1 [] (some oc) [g oc, q, q] &&
    (gDis h = 0 || (match t.descWord (gDis h) with
      | some w => dLayout w = 1 && dFmt w = 0xB && dChan w = gDisMode h
      | none => false))

/-- The camera entries of every spec. -/
def allCams (x : ImageExtra) : List Nat := x.specs.flatMap specCams

/-- The Astrograph checks; `first` says that no image was admitted since `PORST_N`.
[DEDUCED, log entry 40] -/
def State.checkAstro (t : State) (i : Img) (x : ImageExtra) (first : Bool) : Chk :=
  let sec := i.ix 0xC
  let id := fun (b : Bytes) => bitsOf 103 96 (specHead b)
  let cam := fun k => k < t.slotCount && (t.rd (R.SLOT_KIND k) = 2 || t.rd (R.SLOT_KIND k) = 3)
  let put := fun (b : Bytes) => t.agSpec (id b)
  let cs := allCams x
  firstBad x.specs (fun b => 3 < gOp (specHead b) || 32 ≤ id b || 1 < (x.specs.filter (fun c => id c = id b)).length) 0x2848
    sec id <|>
  firstBad x.specs (fun b => (specCams b).any (fun e => !cam (kSlot e)) ||
    (gOp (specHead b) ≤ 1 && gNcam (specHead b) = 0)) 0x2849 sec id <|>
  firstBad x.specs (fun b => t.specRangeBad b || (specCams b).any (fun e =>
    camRangeBad e || cs.any (fun f => kSlot f = kSlot e && kWin f ≠ kWin e))) 0x284A sec id <|>
  firstBad x.specs (fun b => !t.specShapeOk (put b)) 0x284B sec id <|>
  failIf (first && (i.sec 0xE).isNone) 0x284C 0xFFFF 0 <|>
  failIf (176 < t.deepSlots.length || 16 < x.heads.length) 0x284D sec 0

/-! ### Step 12: Theodolite (R340) -/

/-- The units that run a program. -/
def Img.progUnits (i : Img) (p : Nat) : List Nat :=
  ((i.tasks.filter (fun r => r.t.unit / 4096 = 4 && r.t.prog = p)).map (fun r => r.t.unit)).eraseDups

/-- `TH_KIND`. -/
def thKindBad (w h : Nat) : Bool :=
  let k := pKind w
  let n := tN h
  7 < k || n = 0 || 64 < n || tK h = 0 || 8 < tK h || 64 < tM h || (if k = 2 then tM h < n else tM h ≠ n) || 1 < tSrc h ||
    (tSrc h = 1 && !([0, 1, 5, 6, 7].contains k)) || (tSrc h = 0 && (k = 5 || k = 6))

/-- The 8 × 8 blocks that two element ranges meet all stand in `BLOCK_MASK`. -/
def maskHolds (m a an b bn : Nat) : Bool :=
  (List.range 8).all (fun p => (List.range 8).all (fun q =>
    !(overlaps a an (8 * p) 8 && overlaps b bn (8 * q) 8) || m.testBit (8 * p + q)))

/-- The blocks tile 0 to n − 1 in order, without gaps. -/
def tiles : Nat → List Blk → Option Nat
  | at_, [] => some at_
  | at_, b :: t => if b.off = at_ && b.size ≠ 0 then tiles (at_ + b.size) t else none

/-- `TH_BLOCKS`, for a template that the Assembler builds.
[DEDUCED, log entry 40] -/
def thBlocksBad (b : Bytes) : Bool :=
  let h := leAt b 0 64
  let bs := tplBlocks b
  let m := tMask h
  tSrc h = 1 && (tiles 0 bs ≠ some (tN h) || bs.any (fun x => !maskHolds m x.off x.size x.off x.size) ||
    (tplBinds b).any (fun w => match bs[bBlkA w]? with
      | none => true
      | some x => bBlkB w ≠ 0xFF && (match bs[bBlkB w]? with
        | none => true
        | some y => !maskHolds m x.off x.size y.off y.size || !maskHolds m y.off y.size x.off x.size)))

/-- `TH_BIND`. -/
def State.thBindBad (t : State) (i : Img) (p : Nat) (b : Bytes) : Bool :=
  (tplBinds b).any (fun w =>
    let k := t.rd (R.SLOT_KIND (bSlot w))
    match bFk w with
    | 1 => false
    | 2 => false
    | 3 => k ≠ 4
    | 4 => k ≠ 5 && k ≠ 6
    | 5 => k ≠ 7
    | 6 => (i.tasks.filter (fun r => r.t.unit / 4096 = 4 && r.t.prog = p)).any (fun r => !(r.t.inputs.any (fun e => e.kind = 3)))
    | _ => true)

/-- The bytes of the outputs, inputs and warm records of a program. -/
def outBytes (w h : Nat) : Nat := pBatch w * sOut w h
def inBytes (w h : Nat) : Nat := pBatch w * sIn h
def warmBytes (w h : Nat) : Nat := pBatch w * upTo 8 (sWarm h)

/-- A region lies inside its allocation, which is `WRITABLE` where the region is written. -/
def State.regionOk (t : State) (id off n : Nat) (write : Bool) : Bool := match t.alloc id with
  | some a => off + n ≤ a.size && (!write || a.writable)
  | none => false

/-- `TH_REGION` for one program. -/
def State.thRegionBad (t : State) (w h : Nat) : Bool :=
  !t.regionOk (pOutAlloc w) (pOutOff w) (outBytes w h) true || pOutOff w % 64 ≠ 0 ||
  (tSrc h = 0 && !t.regionOk (pInAlloc w) (pInOff w) (inBytes w h) false) || pInOff w % 64 ≠ 0 ||
  (pWarmAlloc w ≠ 0 && (!t.regionOk (pWarmAlloc w) (pWarmOff w) (warmBytes w h) true || pWarmOff w % 8 ≠ 0)) ||
  (tSrc h = 1 && !t.regionOk (tX0Alloc h) (tX0Off h) (8 * tN h) false)

/-- The slots of a DRAM channel in which an agent may write, ascending. -/
def writeSlots (l : List Nat) (a : Nat) : List Nat :=
  (List.range l.length).filter (fun k => bitsOf 31 16 (l.getD k 0) = a && usePermits (bitsOf 15 13 (l.getD k 0)) true)

/-- The longest gap between two slots of a list, cyclically, on a wheel of 256. -/
def longestGap (l : List Nat) : Nat := match l with
  | [] => 0
  | f :: _ => ((l.zip (l.drop 1 ++ [f + 256])).map (fun p => p.2 - p.1)).foldl max 0

/-- `TH_WB`: the write-back reserve, in thirds of a nanosecond; a DRAM slot is 160/3 ns long and moves 1,024 bytes. -/
def Img.thWbBad (i : Img) (u w h : Nat) : Bool :=
  let ss := ((i.tables 5).map (fun t => writeSlots t.2.2 u)).filter (fun l => !l.isEmpty)
  let n := (ss.map List.length).foldl (· + ·) 0
  n = 0 || 3 * pWbNs w * n < (3000 + 160 * (ss.map longestGap).foldl max 0) * n + waveSize h (pBatch w) * sOut w h * 40

/-- A program field outside its range (R330) or a template count outside its own (R321). -/
def thFieldBad (w h : Nat) : Bool :=
  let gt := fun (a b : Nat) => fpFinite fp32 a && Dy.le (fpDy fp32 b) (fpDy fp32 a) && fpDy fp32 a ≠ fpDy fp32 b
  pBatch w = 0 || 4096 < pBatch w || (tSrc h = 1 && pBatch w ≠ 1) || (5 ≤ pKind w && pIter w = 0) ||
  pEpsExp w = 0 || 60 < pEpsExp w || 4 < tNpose h || 16 < tNblk h || 16 < tNbind h ||
  (pKind w = 6 && !(gt (pLambda0 w) 0 && gt (pUp w) 0x3F800000 && gt (pDown w) 0 && gt 0x3F800000 (pDown w)))

/-- The base blocks of R337: the last pose block with VEL, GYRO_BIAS and ACC_BIAS of its index. -/
def baseBlocks (bs : List Blk) : Bool :=
  let ps := (bs.filter (fun b => b.ty = 0)).map (·.idx)
  match ps with
  | [] => false
  | p :: r => let k := r.foldl max p; [1, 2, 3].all (fun ty => bs.any (fun b => b.ty = ty && b.idx = k))

/-- The Theodolite checks. -/
def State.checkTheo (t : State) (i : Img) (x : ImageExtra) : Chk :=
  let sec := i.ix 0xD
  let ps := x.theoProgs.map (fun b => bitsOf 71 64 (leAt b 0 64))
  let w := fun p => t.thProg p
  let b := fun p => t.thTpl (pTpl (t.thProg p))
  let h := fun p => leAt (b p) 0 64
  let item := fun (p : Nat) => p
  let pose := ps.filter (fun p => pPose (w p))
  let intSrc := (List.range 5).any (fun k => bitsOf (8 * k + 7) (8 * k) (t.rd R.INT_SRC) < 96)
  firstBad ps (fun p => 64 ≤ p || 1 < (ps.filter (· = p)).length || thFieldBad (w p) (h p)) 0x2004 sec item <|>
  firstBad ps (fun p => thKindBad (w p) (h p)) 0x2850 sec item <|>
  firstBad ps (fun p => thBlocksBad (b p)) 0x2851 sec item <|>
  firstBad ps (fun p => t.thBindBad i p (b p)) 0x2852 sec item <|>
  firstBad ps (fun p => t.thRegionBad (w p) (h p) || ps.any (fun q =>
    (i.progUnits p).any (fun u => (i.progUnits q).any (fun v => u ≠ v)) &&
      overlaps (t.regionAddr (pOutAlloc (w p)) (pOutOff (w p))) (outBytes (w p) (h p))
        (t.regionAddr (pOutAlloc (w q)) (pOutOff (w q))) (outBytes (w q) (h q)))) 0x2853 sec item <|>
  firstBad ps (fun p => (i.progUnits p).any (fun u => i.thWbBad u (w p) (h p))) 0x2854 sec item <|>
  failIf (1 < pose.length || (pose.isEmpty && intSrc)) 0x2855 sec 0 <|>
  firstBad pose (fun p => !((pKind (w p) = 5 || pKind (w p) = 6) && baseBlocks (tplBlocks (b p)))) 0x2855 sec item

/-! ### Step 13: task records, input lists, share maps (R299 to R302, R450) -/

/-- A task's unit is one that R300 lists. -/
def unitListed (u : Nat) : Bool :=
  (u < 128 && u % 4 = 0) || u = 0x1000 || u = 0x3000 || u = 0x4000 || u = 0x4001 || (0x5000 ≤ u && u < 0x5040) || u = 0xC004

/-- The task with an ID in a cycle. -/
def Img.findTask (i : Img) (c k : Nat) : Option TaskRec := (i.tasks.find? (fun r => r.t.cycle = c && r.t.task = k)).map (·.t)

/-- `TT_FORMAT` in a task record. -/
def Img.taskBad (i : Img) (r : RawTask) : Bool :=
  let t := r.t
  !unitListed t.unit || i.count 1 ≤ t.cycle || 1 < (i.tasks.filter (fun q => q.t.cycle = t.cycle && q.t.task = t.task)).length ||
  64 < r.ndesc || 8 < r.nin || (i.bytes 9).length < r.descOff + 4 * r.ndesc || (i.bytes 3).length < r.inOff + 8 * r.nin ||
  (if t.isSpur then
    t.progW = 0 || 2048 < t.progW || 32 < t.unit / 4 + max 1 t.cirqN || 32 < t.cirqN || t.spurs = 0 ||
      (i.bytes 4).length < t.prog + max 1 t.cirqN * 32 * t.progW
   else t.cirqN ≠ 0 || t.spurs ≠ 0) ||
  t.inputs.any (fun e => 5 < e.kind || (e.kind ≤ 1 && (i.findTask t.cycle e.src).isNone))

/-- `TT_FALLBACK` (R302). -/
def fallbackBad (e : InEnt) : Bool :=
  (e.kind ≤ 1 && e.fb ≠ 0) || (e.kind = 2 && e.fb = 0) || (3 ≤ e.kind && e.kind ≤ 5 && e.fb = 2)

/-- The devices that run a task under a map (R449). -/
def mapRids (m : Bytes) (c k : Nat) : Nat :=
  match ((List.range (leAt m 1 1)).map (fun j => leAt m (8 + 8 * j) 8)).find? (fun e => bitsOf 63 48 e = k && bitsOf 47 45 e = c) with
  | some e => bitsOf 39 32 e
  | none => leAt m 0 1

/-- `RANGE_MAP` (R450).
[DEDUCED, log entry 40] -/
def mapBad (n k : Nat) (m : Bytes) : Bool :=
  let live := leAt m 0 1
  2 ^ n ≤ live || (k = 0 && live ≠ 2 ^ n - 1) ||
    (List.range (leAt m 1 1)).any (fun j => clearMask (bitsOf 39 32 (leAt m (8 + 8 * j) 8)) live ≠ 0)

/-- Step 13. -/
def State.checkTasks (i : Img) (x : ImageExtra) : Chk :=
  let cyc := i.cycles
  let item := fun (r : RawTask) => r.t.task
  let sec := i.ix 2
  failIf (cyc.isEmpty || 8 < cyc.length || cyc.head? ≠ some (ftOfWord i.origin, i.period)) 0x2858 (i.ix 1) 0 <|>
  firstBad (List.range cyc.length) (fun k => match cyc[k]? with
    | some c => c.1.isNone || c.2 < 100000 || 1000000000 < c.2
    | none => true) 0x2858 (i.ix 1) (fun k => k) <|>
  firstBad i.tasks i.taskBad 0x2858 sec item <|>
  firstBad i.tasks (fun r => r.t.inputs.any fallbackBad) 0x2859 sec item <|>
  failIf (8 < x.maps.length || (x.maps.mapIdx (fun k m => mapBad i.rangeN k m)).any id) 0x285A 0xFFFF 0 <|>
  firstBad i.tasks (fun r => r.t.inputs.any (fun e => e.kind ≤ 1 &&
    x.maps.any (fun m => mapRids m r.t.cycle e.src ≠ mapRids m r.t.cycle r.t.task))) 0x285B sec item

/-! ### Steps 14 to 16 (R296 to R298) -/

/-- Step 14: the fast path, in thousandths of a nanosecond: 1.25 ns a point and 1.6 µs against L + 2 µs; and the Plate slots. -/
def State.checkFast (t : State) (i : Img) : Chk :=
  let burst := (((List.range 96).filter (fun k => t.rd (R.SLOT_KIND k) = 1)).map (fun k => t.rd (R.C_BURST k))).foldl (· + ·) 0
  let owned := fun (k : Nat) => match (i.tables 6).find? (fun e => e.1 = 0x1D0 + k) with
    | some e => (e.2.2.filter (fun v => bitsOf 31 16 v = 0x2000 + k && 1 ≤ bitsOf 15 13 v && bitsOf 15 13 v ≤ 3)).length
    | none => 0
  failIf ((i.lag + 2) * 1000000 < burst * 1250 + 1600000) 0x2860 (i.ix 8) 0 <|>
  firstBad [0, 1] (fun k => owned k < 480) 0x2860 (i.ix 6) (fun k => 0x1D0 + k)

/-- The timetables to fit: the tasks that each device runs under each map (R450); without a map every task. -/
def Img.timetables (i : Img) (x : ImageExtra) : List (List TaskRec) :=
  let ts := i.tasks.map (·.t)
  if x.maps.isEmpty then [ts]
  else x.maps.flatMap (fun m => (bitsSet 8 (leAt m 0 1)).map (fun d => ts.filter (fun t => (mapRids m t.cycle t.task).testBit d)))

/-- The period of a task's cycle. -/
def Img.taskQ (i : Img) (t : TaskRec) : Nat := ((i.cycles[t.cycle]?).map (·.2)).getD 0

/-- Windows (R296). -/
def Img.windowBad (i : Img) (t : TaskRec) : Bool :=
  t.inDl < t.startMin || t.doneDl < t.inDl + t.wcet || i.taskQ t < t.doneDl

/-- Two tasks in timetable order that one unit cannot run over two consecutive instances (R296). -/
def Img.unitClash (i : Img) (a b : TaskRec) : Bool :=
  a.shares b && (a.cycle ≠ b.cycle || b.inDl < a.doneDl || a.inDl + i.taskQ a < b.doneDl)

/-- The task of a list that clashes with one before it, or with its own next instance. -/
def Img.firstClash (i : Img) : List TaskRec → Option TaskRec
  | [] => none
  | a :: r =>
    if a.inDl + i.taskQ a < a.doneDl then some a
    else match r.find? (i.unitClash a) with
      | some b => some b
      | none => i.firstClash r

/-- The earliest input deadline an input allows (R296), in 1/80 ns. -/
def State.inputBound (t : State) (i : Img) (q : TaskRec) (e : InEnt) : Nat :=
  let done := ((i.findTask q.cycle e.src).map (·.doneDl)).getD 0
  match e.kind with
  | 0 => 80 * done
  | 1 => 80 * (done - i.taskQ q)
  | 3 => 80000 * i.lag + t.octTime
  | 4 => 80000 * i.lag + t.octTime + ((t.rulebooks.filter (fun r => r.1 ≤ e.src)).map (fun r => t.rbTime r.1 r.2)).foldl (· + ·) 0
  | _ => 0

/-- Step 15. -/
def State.checkFit (t : State) (i : Img) (x : ImageExtra) : Chk :=
  let sec := i.ix 2
  let item := fun (q : TaskRec) => q.task
  (i.timetables x).findSome? (fun ts =>
    firstBad ts i.windowBad 0x2863 sec item <|>
    (match i.firstClash ts with
      | some q => some (0x2861, sec, q.task)
      | none => none) <|>
    firstBad ts (fun q => q.inputs.any (fun e => 80 * q.inDl < t.inputBound i q e)) 0x2862 sec item <|>
    firstBad ts (fun q => q.cycle = 0 && q.unit = 0xC004 && i.period < q.doneDl) 0x2863 sec item)

/-- Step 16. -/
def Img.checkBoards (i : Img) (x : ImageExtra) : Chk :=
  let big := fun (ts : List TaskRec) =>
    (List.range 32).any (fun c => 4096 < 2 * (ts.filter (fun q => q.cirques.contains c)).length) ||
    (List.range 4).any (fun r => 16384 < 2 * (ts.filter (fun q => q.cirques.any (fun c => c / 8 = r))).length) ||
    65536 < 2 * (ts.filter (fun q => !q.isSpur)).length
  failIf ((i.timetables x).any (fun ts => (List.range 8).any (fun c => big (ts.filter (fun q => q.cycle = c))))) 0x2864 (i.ix 2) 0

/-! ### The whole -/

/-- Steps 1 to 6: on the image alone, against the running device. `room` is the image bytes that lie in DRAM. -/
def State.checkHead (s : State) (i : Img) (x : ImageExtra) (room : Nat) : Chk :=
  i.checkForm room <|> s.checkPlace i <|> s.checkSigned i <|> s.checkCaps i <|> s.checkValues i x

/-- Steps 7 to 16, on `t`, the device as the image would leave it; `err` is what creating its objects met. -/
def State.checkBody (t : State) (i : Img) (x : ImageExtra) (err : Option (Nat × Nat × Nat)) (first : Bool) : Chk :=
  t.checkPresent i x <|> t.checkStreams i <|> t.checkObjects i x err <|> t.checkTables i <|> t.checkCairns i x <|>
  t.checkRulebooks i <|> t.checkAstro i x first <|> t.checkTheo i x <|> State.checkTasks i x <|> t.checkFast i <|>
  t.checkFit i x <|> i.checkBoards x

/-- The domains that an admitted image names (R527): table resources and owners, slot ports, allocations, task units. -/
def State.namedDomains (t : State) (i : Img) : Nat :=
  let tabs := i.allTables.flatMap (fun e => resDomain e.1 ::
    ((e.2.2.filter (fun v => 1 ≤ bitsOf 15 13 v && bitsOf 15 13 v ≤ 3)).map (fun v => bitsOf 31 16 v)).eraseDups.flatMap t.agentDomains)
  let slots := t.declaredSlots.map (fun k => let p := t.rd (R.SLOT_PORT k); portDomain (bitsOf 15 12 p) (bitsOf 11 4 p))
  let als := t.allocs.filterMap (fun e => e.2.bind (fun a => addrDomain t.variant a.base))
  let units := i.tasks.flatMap (fun r => if r.t.isSpur then r.t.cirques.map (fun c => 22 + c / 4) else t.agentDomains r.t.unit)
  (tabs ++ slots ++ als ++ units).foldl (fun m d => setBit m d) 0

end Sys2Proof.Machine
end

