-- ==== Sys2Proof/Machine/ImgCmds.lean ====
section
/-! DEFINITION. Loading a schedule image: the write of `IMG_LOAD` and the end of an admission (R282, R286, R295, R560). -/
namespace Sys2Proof.Machine

/-- The DRAM bytes from an address to the end of DRAM; 0 elsewhere (R282). -/
def dramRoom (variant a : Nat) : Nat := match regionOf variant a with
  | .dram _ => (if variant = 1 then 0x400000000 else 0x800000000) - a
  | _ => 0

/-- Keeper reads the image at `IMG_ADDR`. -/
def State.readImage (s : State) : Img × State :=
  let a := s.rd R.IMG_ADDR
  let h := s.readMem 0x6000 a 256
  let len := min (leAt h.data 24 8) (dramRoom s.variant a)
  let r := h.s.readMem 0x6000 a (max 256 len)
  ({ base := a, b := padTo (max 256 len) r.data, poison := r.poison || h.poison }, r.s)

/-- The refusal of a write of `IMG_LOAD` (R282); 0 when it is not refused. -/
def State.imgLoadReason (s : State) : Nat :=
  if s.replaying then 0x2008
  else if s.deep.tt.checking || (List.range 96).any (fun i => s.rd (R.SLOT_EN i) = 1) then 0x2801
  else 0

/-- `IMG_LOAD` as Keeper serves it; a write of 0 starts nothing. -/
def State.imgLoad (s : State) : State × Nat :=
  let c := s.imgLoadReason
  if c ≠ 0 then (s, c) else (s.imageCheck, 0)

/-- `IMG_LOAD` (R282).
[DEDUCED, log entry 10] -/
def execImgLoad (r : Route) (s : State) : Host.Outcome State Fault Refusal := s.run fun s =>
  s.hostWrite r 0x2800 2 (toLe 1 1) fun s =>
    if s.replaying then (s, 0x2008) else s.deferred r 0x2800 2 .imgLoad State.imgLoad

/-- Admission refuses the image (R286, R295): the running image, its tables and its objects are unchanged. -/
def State.imgRefused (s : State) (c : Nat × Nat × Nat) : State :=
  let s1 := (((s.wr R.IMG_STATUS 3).wr R.IMG_ERR c.1).wr R.IMG_ERR_SEC c.2.1).wr R.IMG_ERR_ITEM c.2.2
  (s1.mapTt fun t => { t with checking := false }).event 0x2802 0 [(16, c.1), (16, c.2.1), (32, c.2.2)]

/-- Every check of R295 on the image read, then R286. -/
def State.admitImage (s : State) (i : Img) (x : ImageExtra) : State :=
  match s.checkHead i x (dramRoom s.variant i.base) with
  | some c => s.imgRefused c
  | none =>
    let (err, t) := s.installImage i x
    match t.checkBody i x err (!s.deep.tt.loaded) with
    | some c => s.imgRefused c
    | none => t.admitted (t.namedDomains i)

/-- `ADMISSION_COMPLETE` (R286, R295): the admission that is running ends. -/
def execAdmissionComplete (x : ImageExtra) (s : State) : Host.Outcome State Fault Refusal := s.run fun s =>
  if !s.deep.tt.checking then s
  else
    let (i, s1) := s.readImage
    s1.admitImage i x

/-- Steps 1 to 6 of R286 once more for the image in force (R520). -/
def State.reinstall (s : State) : State := match s.deep.tt.image with
  | none => s
  | some (b, x) =>
    let i : Img := { base := s.rd R.IMG_ADDR, b := b, poison := false }
    let t := (s.installImage i x).2
    t.admitted (t.namedDomains i)

end Sys2Proof.Machine
end

