-- ==== Sys2Proof/Machine/SiuCmds.lean ====
section
/-! DEFINITION. The commands of the SIU (chapter 03), with the PPS edge and the GNSS sentences of R47. -/
namespace Sys2Proof.Machine

/-- Live port input is discarded in replay (R521). -/
def State.livePort (s : State) (f : State → State) : State := if s.replaying then s.bump R.RP_LIVE_DROP else f s

/-- A port of the variant whose domain is on (R3, R72). -/
def State.portUp (s : State) (idx : Nat) : Bool := resourcePresent s.variant idx 1 && s.entryPowered idx

/-! ### Edges (R57, R78, R79) -/

/-- The fixed synchroniser delay of an edge (R57). -/
abbrev syncDelay : Nat := 6 * ftNs

/-- The place of a quadrature state in the Gray sequence; the even pin is bit 0.
[DEDUCED, log entry 23] -/
def grayPos (v : Nat) : Nat := if v = 3 then 2 else if v = 2 then 3 else v

/-- An encoder's count moves by one (R79).
[DEDUCED, log entry 23] -/
def State.encStep (s : State) (i stamp : Nat) (up : Bool) : State :=
  let r := s.slotRt i
  let c := if up then (r.enc.count + 1) % 2 ^ 32 else (r.enc.count + 2 ^ 32 - 1) % 2 ^ 32
  s.setSlotRt i { r with enc := { r.enc with count := c, prev := r.enc.last, last := stamp } }

/-- What an edge on pin `n` does to an encoder slot (R79). -/
def State.encEdge (s : State) (i n stamp old new : Nat) (rising both : Bool) : State :=
  let p := s.slotPort i
  if p.2.2 = 1 then if p.2.1 = n && rising then s.encStep i stamp true else s
  else if p.2.1 ≠ n - n % 2 then s
  else if both then s.bump (R.DROP_FORMAT i)
  else
    let sh := n - n % 2
    let d := (grayPos (new / 2 ^ sh % 4) + 4 - grayPos (old / 2 ^ sh % 4)) % 4
    if d = 1 then s.encStep i stamp true else if d = 3 then s.encStep i stamp false else s

/-- A capture edge of a pin whose mode captures it (R64, R71). -/
def State.tioCapture (s : State) (n stamp : Nat) (rising : Bool) : State :=
  let m := s.rd (R.TIO_MODE n)
  if m = 3 || (m = 1 && rising) || (m = 2 && !rising) then
    (s.wr (R.TIO_LAST n) (ftWord stamp s.timeFlags)).lbEdge 5 n (boolNat rising) stamp
  else s

/-- An edge on a `TIO` pin with its stamp. -/
def State.tioEdge (s : State) (n stamp : Nat) (rising both : Bool) : State :=
  let old := s.siu.pins
  let p1 := if rising then setBit old n else clearBit old n
  let other := if n % 2 = 0 then n + 1 else n - 1
  let new := if both then p1 ^^^ (1 <<< other) else p1
  let s1 := ({ s with siu := { s.siu with pins := new } }).tioCapture n stamp rising
  let s2 := if both then s1.tioCapture other stamp (new.testBit other) else s1
  ((List.range s2.slotCount).filter (fun i =>
      s2.rd (R.SLOT_EN i) = 1 && s2.rd (R.SLOT_KIND i) = 5 && (s2.slotPort i).1 = 5)).foldl
    (fun t i => t.encEdge i n stamp old new rising both) s2

/-- `TIO_EDGE` (R78, R79): `hold` is how long the new level holds in TCLK cycles, `pairToo` says that the other pin of the
pair changes in the same cycle. -/
def execTioEdge (n : Fin 16) (rising : Bool) (hold : Nat) (pairToo : Bool) (s : State) : Host.Outcome State Fault Refusal :=
  s.run fun s => s.livePort fun s =>
    if hold < s.rd (R.TIO_FILT n.val) then s.bump (R.TIO_GLITCH n.val)
    else s.tioEdge n.val (s.now - syncDelay) rising pairToo

/-- The record of an encoder's sample: count, full time of the last edge, interval of the last two (R79).
[DEDUCED, log entry 23] -/
def State.encRecord (s : State) (e : Enc) : Bytes :=
  toLe 4 e.count ++ toLe 16 (ftWord e.last s.timeFlags) ++ toLe 4 (min ((e.last - e.prev) / ftNs) maxCount)

/-- `ENCODER_SAMPLE` (R79): the sample of the present contract interval. -/
def execEncoderSample (slot : Fin 96) (s : State) : Host.Outcome State Fault Refusal :=
  s.run fun s =>
    let i := slot.val
    let r := s.slotRt i
    let k := s.now * s.rd (R.C_RATE i) / ftSec
    if s.rd (R.SLOT_EN i) ≠ 1 || s.rd (R.SLOT_KIND i) ≠ 5 || k ≤ r.enc.grid then s
    else
      let stamp := k * ftSec / s.rd (R.C_RATE i)
      (s.setSlotRt i { r with enc := { r.enc with grid := k } }).unit i (s.encRecord r.enc) stamp

/-! ### CSI-2 (R73, R95) -/

/-- The camera slots on a virtual channel.
[DEDUCED, log entry 22] -/
def State.csiSlots (s : State) (p vc : Nat) : List Nat :=
  (s.slotsOn 0 p).filter (fun i => s.rd (R.SLOT_KIND i) = 2 && (s.slotPort i).2.2 = vc)

/-- The header's ECC: `false` when the packet is discarded.
[DEDUCED, log entry 23] -/
def State.csiHeader (s : State) (p : Nat) (hdr : HdrEcc) : Bool × State := match hdr with
  | .ok => (true, s)
  | .corrected => (true, s.bump (R.ECC_CORR p))
  | .bad => (false, s.bump (R.ECC_BAD p))

/-- One parity bit of the CSI-2 header code. -/
def eccBit (d : Nat) (l : List Nat) : Nat := boolNat ((l.filter (fun i => d.testBit i)).length % 2 = 1)

/-- The ECC byte of a CSI-2 header.
[DEDUCED, log entry 23] -/
def csiEcc (d : Nat) : Nat :=
  eccBit d [0, 1, 2, 4, 5, 7, 10, 11, 13, 16, 20, 21, 22, 23] +
  2 * eccBit d [0, 1, 3, 4, 6, 8, 10, 12, 14, 17, 20, 21, 22, 23] +
  4 * eccBit d [0, 2, 3, 5, 6, 9, 11, 12, 15, 18, 20, 21, 22] +
  8 * eccBit d [1, 2, 3, 7, 8, 9, 13, 14, 15, 19, 20, 21, 23] +
  16 * eccBit d [4, 5, 6, 7, 8, 9, 16, 17, 18, 19, 20, 22, 23] +
  32 * eccBit d [10, 11, 12, 13, 14, 15, 16, 17, 18, 19, 21, 22, 23]

/-- The four bytes of a short packet. -/
def shortPacket (vc dt num : Nat) : Bytes :=
  let d := vc * 64 + dt + num * 256
  toLe 3 d ++ toLe 1 (csiEcc d)

/-- The sequence value of a frame number (R94). -/
def State.frameSeq (s : State) (i num : Nat) : Option (Nat × Nat) :=
  let m := s.rd (R.SEQ_MOD i)
  if num = 0 then none else if m = 0 then some (num, 65536) else some ((num - 1) % m, m)

/-- `CSI2_FRAME_START` (R73, R95). -/
def execCsi2FrameStart (p : Fin 32) (vc : Fin 4) (hdr : HdrEcc) (num : BitVec 16) (s : State) :
    Host.Outcome State Fault Refusal :=
  s.run fun s => s.livePort fun s =>
    if !s.portUp (0x2270 + p.val) then s
    else
      let (ok, s1) := s.csiHeader p.val hdr
      if !ok then s1
      else (s1.csiSlots p.val vc.val).foldl (fun t i =>
        (t.lbUnit i 2 t.now (shortPacket vc.val 0 num.toNat)).frameStart i t.now num.toNat) s1

/-- `CSI2_LONG_PACKET` (R73): an image row or embedded data of the frames in progress. -/
def execCsi2LongPacket (p : Fin 32) (vc : Fin 4) (hdr : HdrEcc) (dt : BitVec 6) (crcOk : Bool) (data : Bytes) (s : State) :
    Host.Outcome State Fault Refusal :=
  s.run fun s => s.livePort fun s =>
    if !s.portUp (0x2270 + p.val) then s
    else
      let (ok, s1) := s.csiHeader p.val hdr
      if !ok then s1
      else
        let s2 := if crcOk then s1 else s1.bump (R.CRC_BAD p.val)
        (s2.csiSlots p.val vc.val).foldl (fun t i =>
          let image := (t.tpl i).mid % 256 = dt.toNat
          if dt.toNat = 0x12 then (t.lbUnit i 2 t.now data).frameEmbedded i data crcOk
          else if image then (t.lbUnit i 2 t.now data).frameRow i data crcOk
          else t) s2

/-- `CSI2_FRAME_END` (R73, R91, R95). -/
def execCsi2FrameEnd (p : Fin 32) (vc : Fin 4) (hdr : HdrEcc) (num : BitVec 16) (s : State) :
    Host.Outcome State Fault Refusal :=
  s.run fun s => s.livePort fun s =>
    if !s.portUp (0x2270 + p.val) then s
    else
      let (ok, s1) := s.csiHeader p.val hdr
      if !ok then s1
      else (s1.csiSlots p.val vc.val).foldl (fun t i =>
        let n := match (t.slotRt i).frame with
          | some f => f.num
          | none => 0
        (t.lbUnit i 2 t.now (shortPacket vc.val 1 num.toNat)).frameEnd i t.now (t.frameSeq i n)) s1

/-- `START_OF_TRANSMISSION_ERROR` (R513): D034 on a port with an enabled slot damages the frame in progress. -/
def execStartOfTransmissionError (p : Fin 32) (s : State) : Host.Outcome State Fault Refusal :=
  s.run fun s => s.livePort fun s =>
    let l := s.slotsOn 0 p.val
    if l = [] then s
    else l.foldl (fun t i => match (t.slotRt i).frame with
      | some f => t.setSlotRt i { t.slotRt i with frame := some { f with damaged := true } }
      | none => t) ((s.injHere 34 p.val).detect 34 0 [])

/-! ### Ethernet (R74) -/

/-- The one's complement sum of 16-bit big-endian words. -/
def onesSum : Bytes → Nat
  | [] => 0
  | [a] => a.toNat * 256
  | a :: b :: t => a.toNat * 256 + b.toNat + onesSum t

/-- The sum folded to 16 bits. -/
def fold16 (n : Nat) : Nat := if n = 0 then 0 else (n - 1) % 65535 + 1

/-- Where a received frame goes (R74). -/
inductive EthDest where
  | bad | filtered | meridian | keeper | other | udp (src dport : Nat) (payload : Bytes)
deriving DecidableEq, Repr

/-- An IPv4 packet (R74).
[DEDUCED, log entry 23] -/
def State.ipv4 (s : State) (p : Nat) (ip : Bytes) : EthDest :=
  let b := fun (i : Nat) => (ip.getD i 0).toNat
  let tot := beNat (slice ip 2 2)
  let own := s.rd (0x229002 + 256 * p)
  if b 0 / 16 ≠ 4 then .other
  else if b 0 % 16 ≠ 5 then .bad
  else if beNat (slice ip 6 2) % 0x4000 ≠ 0 then .bad
  else if own ≠ 0 && beNat (slice ip 16 4) ≠ own && beNat (slice ip 16 4) ≠ 0xFFFFFFFF && b 16 / 16 ≠ 14 then .filtered
  else if b 9 = 1 then (if b 20 = 8 then .keeper else .other)
  else if b 9 ≠ 17 then .other
  else
    let seg := slice ip 20 (tot - 20)
    let len := beNat (slice seg 4 2)
    let dg := seg.take len
    let ck := beNat (slice dg 6 2)
    let sum := onesSum (slice ip 12 8) + 17 + len + onesSum dg
    if ck ≠ 0 && fold16 sum ≠ 65535 then .bad
    else if beNat (slice dg 2 2) = 47920 then .keeper
    else .udp (beNat (slice ip 12 4)) (beNat (slice dg 2 2)) (dg.drop 8)

/-- Where a frame goes; the frame is without its FCS.
[DESIGN CHOICE, log entry 20] -/
def State.ethDest (s : State) (p : Nat) (fcsOk : Bool) (f : Bytes) : EthDest :=
  let tagged := beNat (slice f 12 2) = 0x8100
  let g := if tagged then f.take 12 ++ f.drop 16 else f
  let dst := beNat (g.take 6)
  let mc := (List.range 16).any (fun k => beNat (toLe 6 (bitsOf (48 * k + 47) (48 * k) (s.rd (0x229003 + 256 * p)))) = dst && dst ≠ 0)
  let et := beNat (slice g 12 2)
  if !fcsOk || 9216 < g.length + 4 then .bad
  else if dst ≠ 0xFFFFFFFFFFFF && dst ≠ Config.portMac p % 2 ^ 48 && !mc && dst ≠ 0x0180C200000E then .filtered
  else if et = 0x88F7 then .meridian
  else if et = 0x0806 then .keeper
  else if et = 0x0800 then s.ipv4 p (g.drop 14)
  else .other

/-- A datagram fits a slot's match rules (R82, R86). -/
def udpMatches (t : Tpl) (src dport : Nat) : Bool :=
  (t.mport = 0 || t.mport = dport) && (src &&& t.mmask) = (t.mid &&& t.mmask)

/-- A packet of a camera on Ethernet: its rows join the frame in progress; the first packet starts it, the last ends it
(R95).
[DEDUCED, log entry 22] -/
def State.ethCamera (s : State) (i : Nat) (p : Bytes) (stamp : Nat) : State :=
  let t := s.tpl i
  let seq := s.seqOf i (levelVals t p 0 0)
  let num := (seq.map (fun e => e.1)).getD 0
  let s1 := match (s.slotRt i).frame with
    | some f => if f.num = num then s else s.frameStart i stamp num
    | none => s.frameStart i stamp num
  let formed := t.len = 0 || p.length = t.len
  let s2 := s1.frameEmbedded i p formed
  let s3 := (List.range (max 1 t.nblock)).foldl (fun x b =>
    x.frameRow i (slice p (t.blkBase + b * t.blkStride) t.blkStride) true) s2
  match (s3.slotRt i).frame with
  | some f => if t.rows ≤ f.rows then s3.frameEnd i stamp seq else s3
  | none => s3

/-- A frame reaches a port with its stamp (R74, R82, R91).
[DEDUCED, log entry 23] -/
def State.rxEthFrame (s : State) (p : Nat) (fcsOk : Bool) (frame : Bytes) (stamp : Nat) : State :=
  match s.ethDest p fcsOk frame with
  | .bad => s.bump (R.RX_BAD p)
  | .filtered => s
  | .meridian => s
  | .keeper => s
  | .other => s.bump (R.ETH_RX_UNMATCHED p)
  | .udp src dport payload =>
    match (s.slotsOn 1 p).find? (fun i => udpMatches (s.tpl i) src dport) with
    | none => s.bump (R.ETH_RX_UNMATCHED p)
    | some i =>
      let s1 := s.lbUnit i 1 stamp frame
      if s1.rd (R.SLOT_KIND i) = 3 then s1.ethCamera i payload stamp else s1.unit i payload stamp

/-- `ETH_FRAME_RX` (R74). PTP messages and UDP requests have commands of their own. -/
def execEthFrameRx (p : Fin 16) (fcsOk : Bool) (frame : Bytes) (s : State) : Host.Outcome State Fault Refusal :=
  s.run fun s => s.livePort fun s =>
    if !s.portUp (0x2290 + p.val) || s.siu.linkDown.testBit p.val then s
    else s.rxEthFrame p.val fcsOk frame (s.now - s.rd (R.RX_LAT p.val) * ftNs)

/-- `ETH_LINK_DOWN` (R513): D033 on a port with an enabled slot; R100 follows. -/
def execEthLinkDown (p : Fin 16) (s : State) : Host.Outcome State Fault Refusal :=
  s.run fun s =>
    if s.siu.linkDown.testBit p.val then s
    else
      let s1 := { s with siu := { s.siu with linkDown := setBit s.siu.linkDown p.val } }
      if s1.slotsOn 1 p.val = [] then s1 else (s1.injHere 33 p.val).detect 33 0 []

/-- `ETH_LINK_UP` (R513). -/
def execEthLinkUp (p : Fin 16) (s : State) : Host.Outcome State Fault Refusal :=
  s.run fun s => { s with siu := { s.siu with linkDown := clearBit s.siu.linkDown p.val } }

/-! ### CAN FD, SPI (R75, R76) -/

/-- A frame reaches a CAN FD controller (R75, R82).
[DEDUCED, log entry 23] -/
def State.rxCan (s : State) (c id : Nat) (data : Bytes) (stamp : Nat) : State :=
  match (s.slotsOn 2 c).find? (fun i => (id &&& (s.tpl i).mmask) = ((s.tpl i).mid &&& (s.tpl i).mmask)) with
  | none => s.bump (R.CAN_RX_UNMATCHED c)
  | some i => (s.lbUnit i 3 stamp data).unit i data stamp

/-- `CAN_FRAME_RX` (R75). A frame of the USDO service or of NMT belongs to route 2 and its own commands. -/
def execCanFrameRx (c : Fin 4) (id : BitVec 29) (data : Bytes) (s : State) : Host.Outcome State Fault Refusal :=
  s.run fun s => s.livePort fun s =>
    if !s.portUp (0x22A0 + c.val) || s.siu.busOff.testBit c.val then s
    else if s.rd R.USDO_EN = 1 && s.rd R.USDO_PORT = c.val && (id.toNat = 0x600 + s.rd R.NODE_ID || id.toNat = 0) then s
    else s.rxCan c.val id.toNat data s.now

/-- `CAN_BUS_OFF` (R513). -/
def execCanBusOff (c : Fin 4) (s : State) : Host.Outcome State Fault Refusal :=
  s.run fun s =>
    if s.siu.busOff.testBit c.val then s
    else ({ s with siu := { s.siu with busOff := setBit s.siu.busOff c.val } }.injHere 35 c.val).detect 35 0 []

/-- `BUS_OFF_RECOVERY` (R513): the controller returns to the bus error-active. -/
def execBusOffRecovery (c : Fin 4) (s : State) : Host.Outcome State Fault Refusal :=
  s.run fun s => { s with siu := { s.siu with busOff := clearBit s.siu.busOff c.val,
                                              canPassive := clearBit s.siu.canPassive c.val } }

/-- `CAN_BUS_ERROR` (R85): counted; `passive` is the controller's error state after it. -/
def execCanBusError (c : Fin 4) (passive : Bool) (s : State) : Host.Outcome State Fault Refusal :=
  s.run fun s =>
    let p := s.siu.canPassive
    { s with siu := { s.siu with canPassive := if passive then setBit p c.val else clearBit p c.val } }.bump (R.CAN_ERR c.val)

/-- The slot an SPI master serves. -/
def State.spiSlot (s : State) (m : Nat) : Option Nat := (s.slotsOn 3 m).head?

/-- `SPI_DATA_READY` (R76, R78): a filtered edge starts the transfer of the slot's template.
[DEDUCED, log entry 23] -/
def execSpiDataReady (m : Fin 4) (hold : Nat) (s : State) : Host.Outcome State Fault Refusal :=
  s.run fun s => s.livePort fun s =>
    if !s.portUp (0x22A4 + m.val) || hold < s.rd (R.DRDY_FILT m.val) then s
    else if smGet (fun _ => none) s.siu.spi m.val ≠ none then s.bump (R.DRDY_OVR m.val)
    else match s.spiSlot m.val with
      | none => s
      | some _ =>
        { s with siu := { s.siu with spi := smSet (fun _ => none) s.siu.spi m.val (some (s.now - syncDelay)) } }.emit
          (.spiStart m.val)

/-- `SPI_TRANSFER_DONE` (R76): the bytes read are the unit, stamped at the edge. -/
def execSpiTransferDone (m : Fin 4) (data : Bytes) (s : State) : Host.Outcome State Fault Refusal :=
  s.run fun s => match smGet (fun _ => none) s.siu.spi m.val with
    | none => s
    | some stamp =>
      let s1 := { s with siu := { s.siu with spi := smSet (fun _ => none) s.siu.spi m.val none } }
      s1.livePort fun s1 => match s1.spiSlot m.val with
        | none => s1
        | some i => (s1.lbUnit i 4 stamp data).unit i data stamp

/-! ### UART and GNSS (R47, R77, R104) -/

/-- The fields between commas. -/
def splitComma : Bytes → Bytes → List Bytes
  | [], cur => [cur]
  | b :: t, cur => if b.toNat = 44 then cur :: splitComma t [] else splitComma t (cur ++ [b])

/-- A hexadecimal digit. -/
def hexVal (b : Byte) : Option Nat :=
  let n := b.toNat
  if 48 ≤ n && n ≤ 57 then some (n - 48) else if 65 ≤ n && n ≤ 70 then some (n - 55)
  else if 97 ≤ n && n ≤ 102 then some (n - 87) else none

/-- The body of an NMEA 0183 sentence with a valid checksum, between `$` and `*`. -/
def nmeaBody (text : Bytes) : Option Bytes :=
  match text with
  | d :: t =>
    let body := t.takeWhile (fun b => b.toNat ≠ 42)
    let ck := t.drop (body.length + 1)
    match hexVal (ck.getD 0 0), hexVal (ck.getD 1 0) with
    | some a, some b =>
      if d.toNat = 36 && body.length < t.length && body.foldl (fun x y => x ^^^ y.toNat) 0 = 16 * a + b then some body else none
    | _, _ => none
  | [] => none

/-- Decimal digits as a number; `none` when another character stands there. -/
def decNat (bs : Bytes) : Option Nat :=
  if bs = [] then none
  else bs.foldl (fun a b => match a with
    | some v => if 48 ≤ b.toNat && b.toNat ≤ 57 then some (10 * v + (b.toNat - 48)) else none
    | none => none) (some 0)

/-- The time of day of a `hhmmss.ss` field, in 2^−16 ns. -/
def todOf (f : Bytes) : Option Nat :=
  let frac := f.drop 7
  match decNat (slice f 0 2), decNat (slice f 2 2), decNat (slice f 4 2) with
  | some h, some m, some sec =>
    let fr := match decNat frac with
      | some v => v * ftSec / 10 ^ frac.length
      | none => 0
    some ((h * 3600 + m * 60 + sec) * ftSec + fr)
  | _, _, _ => none

/-- Days since 1970-01-01 of a date. -/
def daysOf (y m d : Nat) : Int :=
  let yy : Int := (y : Int) - (if m ≤ 2 then 1 else 0)
  let era := yy / 400
  let yoe := yy - era * 400
  let mp : Int := ((m + 9) % 12 : Nat)
  let doy := (153 * mp + 2) / 5 + d - 1
  era * 146097 + (yoe * 365 + yoe / 4 - yoe / 100 + doy) - 719468

/-- The UTC second that a ZDA sentence names. -/
def zdaSec (fs : List Bytes) : Option Nat :=
  match todOf (fs.getD 1 []), decNat (fs.getD 2 []), decNat (fs.getD 3 []), decNat (fs.getD 4 []) with
  | some t, some d, some m, some y => some ((daysOf y m d * 86400).toNat + t / ftSec)
  | _, _, _, _ => none

/-- The type of a sentence: the last three characters of its address. -/
def nmeaType (fs : List Bytes) : Bytes := let a := fs.getD 0 []; a.drop (a.length - 3)

/-- The GNSS source takes a sentence (R47): with both sentences in time, the edge gives an offset sample. -/
def State.gnssSentence (s : State) (fs : List Bytes) : State :=
  match s.mer.pps with
  | none => s
  | some p =>
    if p.tclk + 450000000 < s.tclk then s
    else
      let ty := nmeaType fs
      let s1 :=
        if ty = asciiBytes "RMC" && fs.getD 2 [] = asciiBytes "A" then { s with mer := { s.mer with rmcOk := true } }
        else if ty = asciiBytes "ZDA" then { s with mer := { s.mer with zda := zdaSec fs } }
        else s
      match s1.mer.rmcOk, s1.mer.zda with
      | true, some z =>
        let mark : Int := ((z : Int) + s1.rdI 16 R.UTC_OFFSET) * (ftSec : Nat)
        let s2 := { s1 with mer := { s1.mer with pps := none, rmcOk := false, zda := none, ppsQual := some p.tclk } }.reselect
        if s2.mer.src = some .gnss then s2.offsetSample { p with off := (p.stamp : Int) - mark } else s2
      | _, _ => s1

/-- A PPS edge with its stamp (R47, R71): `PPS_LAST`, the Logbook, and the GNSS source's edge. -/
def State.takePps (s : State) (n : Nat) (rising : Bool) (stamp : Nat) : State :=
  let s1 := (s.wr (R.PPS_LAST n) (ftWord stamp s.timeFlags)).lbEdge 6 n (boolNat rising) stamp
  if s1.rd R.GNSS_PPS = n then
    { s1 with mer := { s1.mer with pps := some { off := 0, stamp := stamp, tclk := s1.tclk, adj := s1.mer.adjSum },
                                   rmcOk := false, zda := none } }
  else s1

/-- `PPS_EDGE` (R47, R57, R78): a filtered active edge is stamped; on the GNSS input it opens a second. -/
def execPpsEdge (n : Fin 4) (rising : Bool) (hold : Nat) (s : State) : Host.Outcome State Fault Refusal :=
  s.run fun s => s.livePort fun s =>
    if hold < s.rd (R.PPS_FILT n.val) || (rising ≠ (s.rd (R.PPS_EDGE_SEL n.val) == 0)) then s
    else s.takePps n.val rising (s.now - syncDelay - s.rd (R.PPS_LAT n.val) * ftNs)

/-- The sample time of a sentence (R104): its UTC time of day plus `UTC_OFFSET`, on the day nearest to its stamp; a
sentence without one has its stamp.
[DEDUCED, log entry 21] -/
def State.gnssTime (s : State) (fs : List Bytes) (stamp : Nat) : Int :=
  match (if nmeaType fs = asciiBytes "VTG" then none else todOf (fs.getD 1 [])) with
  | none => stamp
  | some t =>
    let day : Int := ((86400 * ftSec : Nat) : Int)
    let d := ((t : Int) + s.rdI 16 R.UTC_OFFSET * (ftSec : Nat) - (stamp : Int)) % day
    (stamp : Int) + (if 2 * d < day then d else d - day)

/-- A sentence as a unit of a GNSS slot (R91, R104).
[DEDUCED, log entry 21] -/
def State.gnssUnit (s : State) (i : Nat) (text : Bytes) (fs : List Bytes) (stamp : Nat) : State :=
  let t := s.tpl i
  if !unitFormed t text then s.bump (R.DROP_FORMAT i)
  else
    let pk := levelVals t text 0 0
    let ti := s.gnssTime fs stamp
    let ok := decide ((ti - (stamp : Int)).natAbs ≤ ftSec)
    s.sampleUnit i pk stamp (s.seqOf i pk) (if ok then some ti else none)

/-- A sentence reaches a UART (R77): of the types the SIU accepts, at most 82 characters.
[DEDUCED, log entry 21] -/
def State.rxSentence (s : State) (u : Nat) (text : Bytes) (stamp : Nat) (live : Bool) : State :=
  match nmeaBody text with
  | none => s.bump (R.UART_ERR u)
  | some body =>
    let fs := splitComma body []
    let known := ["GGA", "RMC", "GST", "VTG", "ZDA"].any (fun x => asciiBytes x = nmeaType fs)
    if !known || 82 < text.length then s
    else
      let s1 := if live && s.rd R.GNSS_UART = u && s.keeperUp then s.gnssSentence fs else s
      match (s1.slotsOn 4 u).head? with
      | none => s1
      | some i => (s1.lbUnit i 5 stamp text).gnssUnit i text fs stamp

/-- `UART_SENTENCE` (R47, R77, R104): `startNs` is how long ago the start bit of the first character came. -/
def execUartSentence (u : Fin 2) (startNs : Nat) (text : Bytes) (framingOk : Bool) (s : State) :
    Host.Outcome State Fault Refusal :=
  s.run fun s => s.livePort fun s =>
    if !s.portUp (0x22A8 + u.val) then s
    else if !framingOk then s.bump (R.UART_ERR u.val)
    else s.rxSentence u.val text (s.now - startNs * ftNs) true

/-! ### Slots and ports (R83, R85, R100) -/

/-- `SLOT_EN` (R83, R100). -/
def execSlotEn (r : Route) (slot : Fin 96) (v : Bool) (s : State) : Host.Outcome State Fault Refusal :=
  s.run fun s => s.hostWrite r.val (0x2200 + slot.val) 1 (toLe 1 (boolNat v)) fun s => s.enableSlot slot.val v

/-- `STALE` (R100): no accepted unit for `STALE_T`. -/
def execStale (slot : Fin 96) (s : State) : Host.Outcome State Fault Refusal :=
  s.run fun s =>
    let i := slot.val
    if s.rd (R.SLOT_STATE i) ≠ 2 || s.now < (s.slotRt i).timer + s.rd (R.STALE_T i) * ftUs then s else s.setSlotState i 3

/-- `DEAD` (R100): no accepted unit for `DEAD_T` since the enable, or since the last. -/
def execDead (slot : Fin 96) (s : State) : Host.Outcome State Fault Refusal :=
  s.run fun s =>
    let i := slot.val
    let st := s.rd (R.SLOT_STATE i)
    if (st ≠ 1 && st ≠ 3) || s.now < (s.slotRt i).timer + s.rd (R.DEAD_T i) * ftUs then s else s.setSlotState i 4

/-- The rate and mode entries of a port (R85). -/
def portEntries (p : PortRef) : List Nat := match p with
  | .csi p => [R.CSI_LANES p.val, R.CSI_RATE p.val]
  | .eth p => [R.ETH_SPEED p.val]
  | .can c => [R.CAN_NBR c.val, R.CAN_DBR c.val]
  | .spi m => [R.SPI_HZ m.val, R.SPI_MODE m.val]
  | .uart u => [R.BAUD u.val]

/-- `PORT_SETTING_APPLY` (R85): the port retrains or goes idle, and its written rate and mode come into force.
[DEDUCED, log entry 23] -/
def execPortSettingApply (port : PortRef) (s : State) : Host.Outcome State Fault Refusal :=
  s.run fun s =>
    { s with siu := { s.siu with
        portSet := (portEntries port).foldl (fun m k => smSet regDefault m k (s.rd k)) s.siu.portSet } }

end Sys2Proof.Machine
end

