-- ==== Sys2Proof/Machine/DiagCmds.lean ====
section
/-! DEFINITION. Events, injection and the Logbook as commands (R504 to R519), and replay's beginning and end (R520, R522). -/
namespace Sys2Proof.Machine

/-! ### The event log and event frames (R508, R509) -/

/-- A pop of the event log: the oldest record, or zeros (R508). -/
def State.evtPop (s : State) : Bytes × State := match s.diag.log with
  | [] => (toLe 32 0, s)
  | e :: t => (toLe 32 e, { s with diag := { s.diag with log := t } })

/-- `EVT_POP` (R508). -/
def execEvtPop (r : Route) (s : State) : Host.Outcome State Fault Refusal :=
  s.run fun s => s.hostRead r.val 0x2F00 1 32 State.evtPop

/-- `EVENT_FRAME_TX` (R509): the frame at the head of the queue goes out; none in replay. -/
def execEventFrameTx (s : State) : Host.Outcome State Fault Refusal :=
  s.run fun s =>
    let p := s.rd R.EVT_CAN_PORT
    if s.replaying || !s.portUp (0x22A0 + p) || s.siu.busOff.testBit p then s
    else match s.diag.canQ with
      | [] => s
      | e :: t => { s with diag := { s.diag with canQ := t } }.emit (.canFrame p (s.rd R.EVT_CAN_ID) (eventFrame e))

/-! ### Injection (R514, R515) -/

/-- Detectors with an injection point of their own: no flip mask's and none of the JTAG test mode's (R513).
[DEDUCED, log entry 57] -/
def injPoint (nn : Nat) : Bool :=
  injPlain nn || nn = 5 || nn = 14 || (16 ≤ nn && nn ≤ 18) || nn = 30 || nn = 31 || (33 ≤ nn && nn ≤ 35) || nn = 40 ||
    nn = 41 || nn = 44

/-- The instance exists: a clock, agent, stack, store, cirque, link, port, controller, unit or queue (R514).
[DEDUCED, log entry 57] -/
def injPresent (variant nn i : Nat) : Bool :=
  if nn = 5 then i < 7 && i ≠ 3 && i ≠ 4
  else if nn = 14 || nn = 40 || nn = 41 then agentPresent variant i
  else if nn = 16 then i < 2 && !(variant = 1 && i = 1)
  else if nn = 17 then storePresent variant i
  else if nn = 18 then i < 32
  else if nn = 30 || nn = 31 then i < 6 && resourcePresent variant (0x2D90 + i) 1
  else if nn = 33 then portPresent variant 1 i
  else if nn = 34 then portPresent variant 0 i
  else if nn = 35 then i < 4
  else if nn = 44 then i < 256
  else true

/-- `INJ_REQ`'s own check (R514). -/
def injReqCheck (v : Bytes) (s : State) : Nat :=
  let nn := leAt v 0 1
  if !injPoint nn then 0x2F02
  else if s.diag.inj ≠ none then 0x2F01
  else if !injPresent s.variant nn (leAt v 2 2) then 0x2004
  else 0

/-- `INJ_REQ`'s effect: the injection is armed (R514). -/
def injReqApply (v : Bytes) (s : State) : State :=
  { s with diag := { s.diag with inj := some (leAt v 0 1, leAt v 2 2, s.tclk) } }.wr R.INJ_REQ (leNat v) |>.wr R.INJ_STATE 1

/-- `INJ_REQ` (R514). -/
def execInjReq (r : Route) (cr : CommitRec) (s : State) : Host.Outcome State Fault Refusal :=
  s.run fun s => s.commit r.val 0x2F00 0x0E cr injReqCheck injReqApply

/-- `INJECTION_EXPIRE` (R515): no evaluation came within 1 s.
[DEDUCED, log entry 57] -/
def execInjectionExpire (s : State) : Host.Outcome State Fault Refusal :=
  s.run fun s => match s.diag.inj with
    | some (_, _, t) => if s.tclk < t + tclkSec then s else { s with diag := { s.diag with inj := none } }.wr R.INJ_STATE 3
    | none => s

/-! ### Recording (R516 to R519) -/

/-- The admission record of the running image; none when no image runs. -/
def State.lbAdmission (s : State) : State := match s.deep.tt.image with
  | some p => s.lbRecord 0x6000 0x30 (toLe 8 (s.rd R.IMAGE_ID) ++ slice p.1 64 32)
  | none => s

/-- The effect of a write of `LB_EN` (R516).
[DEDUCED, log entry 58] -/
def State.lbEnable (s : State) (v : Nat) : State × Nat :=
  if s.replaying then (s, 0x2008)
  else if v = s.rd R.LB_EN then (s, 0)
  else if v = 1 then ((((s.wr R.LB_EN 1).event 0x2F70 0 []).lbAdmission).lbTimebase, 0)
  else (((s.lbRecord 0xA000 0x3D []).wr R.LB_EN 0).event 0x2F70 0 [], 0)

/-- `LB_EN` (R516). -/
def execLbEn (r : Route) (v : Bool) (s : State) : Host.Outcome State Fault Refusal :=
  s.run fun s => s.hostWrite r.val 0x2F60 1 (toLe 1 (boolNat v)) fun s => s.lbEnable (boolNat v)

/-- `TIMEBASE_RECORD` (R516): every 1 ms. -/
def execTimebaseRecord (s : State) : Host.Outcome State Fault Refusal :=
  s.run fun s =>
    if s.rd R.LB_EN = 0 || s.tclk < s.lb.lastBase + 500000 then s
    else { s with lb := { s.lb with lastBase := s.tclk } }.lbTimebase

/-- The signals for the 64 KiB marks that the host ring's count passed (R519). -/
def State.ringSignals (s : State) (a b : Nat) : State :=
  let c := s.rd R.LB_CAIRN
  if c.testBit 15 then (List.range (b / 65536 - a / 65536)).foldl (fun t _ => t.sigAdd 0xA000 (c % 2 ^ 14) 1) s else s

/-- Write bytes to the host ring at its present count (R519). -/
def State.ringPut (s : State) (data : Bytes) : State :=
  let wr := s.rd R.LB_HOST_WR
  let size := 2 ^ s.rd R.LB_HOST_LOG2
  let n := (wr + data.length) % 2 ^ 64
  (((s.emit (.pcieWrite (s.rd R.LB_HOST_ADDR + wr % size) data)).wr R.LB_HOST_WR n).ringSignals wr (wr + data.length))

/-- The PAD record that fills the ring to its end (R518, R519); its sequence number is free.
[DEDUCED, log entry 58] -/
def State.ringPad (s : State) (n : Nat) : State :=
  let (q, s1) := s.draw
  let pad : LbRec := { time := s.nowWord, tclk := s.tclk, src := 0xA000, rtype := 0, rseq := q,
                       payload := List.replicate (n - 32) 0 }
  s1.ringPut (lbRecBytes pad)

/-- The bytes of the host ring that the host has not read (R519). -/
def State.ringHeld (s : State) : Nat := (s.rd R.LB_HOST_WR + 2 ^ 64 - s.rd R.LB_HOST_RD) % 2 ^ 64

/-- The bytes of the PAD record before a record that does not fit before the ring's end; 0 for none (R519). -/
def State.ringPadLen (s : State) (e : LbRec) : Nat :=
  let size := 2 ^ s.rd R.LB_HOST_LOG2
  let toEnd := size - s.rd R.LB_HOST_WR % size
  if toEnd < lbSize e then toEnd else 0

/-- The device may write the record, and its PAD, to the host ring now (R519).
[PRESUMED, log entry 47] -/
def State.ringFits (s : State) (e : LbRec) : Bool :=
  s.host.bme && !s.host.d3hot && decide (s.ringHeld + s.ringPadLen e + lbSize e ≤ 2 ^ s.rd R.LB_HOST_LOG2)

/-- `HOST_RING_WRITE` (R519): the oldest record of the DRAM ring goes to the host ring, after its PAD record; it waits while
the host has not made room. -/
def execHostRingWrite (s : State) : Host.Outcome State Fault Refusal :=
  s.run fun s => match s.lb.ring with
    | [] => s
    | e :: t =>
      if !s.ringFits e then s
      else
        let s1 := { s with lb := { s.lb with ring := t } }
        (if s.ringPadLen e = 0 then s1 else s1.ringPad (s.ringPadLen e)).ringPut (lbRecBytes e)

/-! ### Replay begins and ends (R67, R68, R520, R522) -/

/-- The bytes of the admission record of the admitted image: `IMAGE_ID` and `DIGEST`. -/
def State.admissionBytes (s : State) : Option Bytes :=
  s.deep.tt.image.map (fun p => toLe 8 (s.rd R.IMAGE_ID) ++ slice p.1 64 32)

/-- `RP_GO`'s own check (R520). -/
def rpGoCheck (_ : Bytes) (s : State) : Nat :=
  if (List.range s.slotCount).any (fun i => s.rd (R.SLOT_EN i) = 1) then 0x2F03
  else if s.rd R.LB_EN = 1 then 0x2F05
  else match s.lb.rpRecs.head?, s.admissionBytes with
    | some e, some b => if e.rtype = 0x30 && e.payload.take 40 = b then 0 else 0x2F04
    | _, _ => 0x2F04

/-- Meridian takes a timebase record (R67): time, rate, state, step count. -/
def State.takeTimebase (s : State) (p : Bytes) : State :=
  let c : Clock := { sec := leAt p 0 8, ns := leAt p 8 4, frac := leAt p 12 4 }
  ((({ s with clock := c }).wr R.RATE_ADJ (leAt p 16 4)).wr R.MER_STATE (leAt p 20 1)).wr R.STEP_COUNT (leAt p 21 4)

/-- The launch-time frames of a port are dropped with status 0x3 (R68).
[DEDUCED, log entry 19] -/
def State.dropLaunch (s : State) (p : Nat) : State :=
  (s.launchQ p).foldl (fun t f => t.dropStamp p f.stamp) (s.setLaunchQ p [])

/-- A pin's pulse in progress ends: in replay outputs stay at their inactive level (R68).
[DEDUCED, log entry 19] -/
def State.tioQuiet (s : State) (n : Nat) : State :=
  if s.tioEnd n = none then s else (s.setTioEnd n none).emit (.tio n (s.tioIdle n))

/-- Meridian's live accumulator goes on in HOLDOVER while replay runs (R522): it is kept with the TCLK count. -/
def State.keepLive (s : State) : State :=
  let s1 := s.merHoldover
  { s1 with lb := { s1.lb with live := some (s1.clock.sec, s1.clock.ns, s1.clock.frac, s1.rd R.RATE_ADJ,
                                             s1.rd R.MER_STATE + 16 * s1.rd R.STEP_COUNT, s1.tclk) } }

/-- `RP_GO`'s effect (R520): the 64 bytes that extend MR6 are not in the spec, so they are free.
[DEDUCED, log entry 58] -/
def rpGoApply (v : Bytes) (s : State) : State :=
  if leNat v ≠ 1 then s
  else
    let (d, s0) := s.draw
    let s1 := ((s0.extendMr 6 (toLe 64 d)).event 0x2F73 0 []).keepLive
    let s2 := (List.range 16).foldl State.dropLaunch s1
    let s3 := (List.range 16).foldl State.tioQuiet s2
    let s4 := ((s3.wr R.RP_STATE 1).wr R.RP_DIVERGED 0).reinstall
    let first := s4.lb.rpRecs.head?
    let s5 := { s4 with lb := { s4.lb with rpStart := s4.tclk, rpFirst := (first.map (fun (e : LbRec) => e.tclk)).getD 0 } }
    match s5.lb.rpRecs.find? (fun (e : LbRec) => e.rtype = 0x20) with
    | some e => s5.takeTimebase e.payload
    | none => s5

/-- `RP_GO` (R520). -/
def execRpGo (r : Route) (cr : CommitRec) (s : State) : Host.Outcome State Fault Refusal :=
  s.run fun s => s.commit r.val 0x2F70 1 cr rpGoCheck rpGoApply

/-- Meridian's live accumulator resumes, advanced by the TCLK cycles of the replay, with no step (R522). -/
def State.resumeLive (s : State) : State := match s.lb.live with
  | none => s
  | some (sec, ns, frac, rate, st, t0) =>
    let inc := ((incNom : Int) + sgnOf 32 rate) * ((s.tclk - t0 : Nat) : Int)
    let c : Clock := { sec := sec, ns := ns, frac := frac }
    let s1 := { s with clock := c.advance inc.toNat, lb := { s.lb with live := none } }
    ((s1.wr R.RATE_ADJ rate).wr R.MER_STATE (st % 16)).wr R.STEP_COUNT (st / 16)

/-- Replay ends for a cause (R522).
[DEDUCED, log entry 58] -/
def State.replayEnd (s : State) (cause : Nat) : State :=
  if !s.replaying then s
  else
    let s1 := (s.wr R.RP_STATE cause).event 0x2F74 0 [(8, cause)]
    let s2 := ({ s1 with lb := { s1.lb with rpRecs := [] } }.resumeLive).reinstall
    (List.range 16).foldl (fun t n => t.tioArm n false) s2

/-- The effect of a write of `RP_STOP` (R522). -/
def State.rpStop (s : State) (v : Nat) : State × Nat := (if v = 1 then s.replayEnd 3 else s, 0)

/-- `RP_STOP` (R522). -/
def execRpStop (r : Route) (s : State) : Host.Outcome State Fault Refusal :=
  s.run fun s => s.hostWrite r.val 0x2F70 2 [1] fun s => s.rpStop 1

/-- `REPLAY_UNDERRUN` (R522): the next record is not in the ring by its time. -/
def execReplayUnderrun (s : State) : Host.Outcome State Fault Refusal :=
  s.run fun s => if s.replaying && s.lb.rpRecs = [] then s.replayEnd 4 else s

/-- `REPLAY_RING_READ` (R520, R522): records of the host ring, no more than it holds; `none` is a host completion error.
[DEDUCED, log entry 58] -/
def execReplayRingRead (recs : Option (List LbRec)) (s : State) : Host.Outcome State Fault Refusal :=
  s.run fun s => match recs with
    | none => s.replayEnd 5
    | some l =>
      let have_ := (s.rd R.RP_HOST_WR + 2 ^ 64 - s.rd R.RP_HOST_RD) % 2 ^ 64
      if have_ < lbBytes l then s
      else { s with lb := { s.lb with rpRecs := s.lb.rpRecs ++ l } }.wr R.RP_HOST_RD ((s.rd R.RP_HOST_RD + lbBytes l) % 2 ^ 64)

end Sys2Proof.Machine
end

