-- ==== Sys2Proof/Machine/DomeCmds.lean ====
section
/-! DEFINITION. Dome's commands: rollback counters, key slots, measurement, attestation, command keys, JTAG
(chapter 17). -/
namespace Sys2Proof.Machine

/-! ### Fuses (R488, R495, R529) -/

/-- The own check of a commit of `RB_ADV` (R495): byte 0 the counter, byte 1 the new value. -/
def rbAdvCheck (v : Bytes) (s : State) : Nat :=
  let i := leAt v 0 1; let n := leAt v 1 1
  let fwI := match s.dome.boot with | some b => b.rbIndex | none => 64
  if 64 < n || 64 ≤ i then 0x2004
  else if n < s.rollback i then 0x2E0A
  else if i = fwI && s.rd R.FW_RB < n then 0x2E0B
  else match s.imageRollback with
    | some (j, m) => if i = j && m < n then 0x2E0B else 0
    | none => 0

/-- The effect of a committed `RB_ADV` (R495): the burn starts; an equal value blows nothing; without `VPP_FUSE` nothing
is blown (R529). -/
def rbAdvApply (v : Bytes) (s : State) : State :=
  let i := leAt v 0 1; let n := leAt v 1 1
  if n = s.rollback i then s
  else if !s.power.vppFuse then s.event 0x3004 0 [(8, 2)]
  else { s with dome := { s.dome with burn := some (i, n) } }

/-- `RB_ADV` (R495). -/
def execRbAdv (r : Route) (cr : CommitRec) (s : State) : Host.Outcome State Fault Refusal :=
  s.run fun s => s.commit r.val 0x2E00 0x0A cr rbAdvCheck rbAdvApply

/-- `FUSE_BURN_DONE` (R495): the counter holds its new value. -/
def execFuseBurnDone (s : State) : Host.Outcome State Fault Refusal :=
  s.run fun s => match s.dome.burn with
    | none => s
    | some (i, n) =>
      { s with nv := { s.nv with rollback := smSet (fun _ => 0) s.nv.rollback i n },
               dome := { s.dome with burn := none } }.event 0x2E09 0 [(8, i), (8, n)]

/-- The own check of a commit of `FK_REVOKE` (R488): FK0 cannot be revoked. -/
def fkRevokeCheck (slot : Nat) (v : Bytes) (_ : State) : Nat := if slot = 0 || leNat v ≠ 1 then 0x2004 else 0

/-- The effect of a committed `FK_REVOKE` (R488, R529). -/
def fkRevokeApply (slot : Nat) (_ : Bytes) (s : State) : State :=
  if !s.power.vppFuse then s.event 0x3004 0 [(8, 2)]
  else
    { s with nv := { s.nv with slots := smSet fuseSlotDflt s.nv.slots slot { s.fuseSlot slot with revoked := true } } }.event
      0x2E0A 0 []

/-- `FK_REVOKE` (R488). -/
def execFkRevoke (r : Route) (slot : Fin 4) (cr : CommitRec) (s : State) : Host.Outcome State Fault Refusal :=
  s.run fun s => s.commit r.val (0x2E04 + slot.val) 4 cr (fkRevokeCheck slot.val) (fkRevokeApply slot.val)

/-! ### Measurement and attestation (R496, R497) -/

/-- `MR7_EXTEND` (R496). -/
def execMr7Extend (r : Route) (data : Bytes) (s : State) : Host.Outcome State Fault Refusal :=
  s.run fun s => s.hostWrite r.val 0x2E02 9 data fun s => (s.extendMr 7 data, 0)

/-- The 57-byte private seed of the identity key (R489). -/
def State.idSeed (s : State) : Bytes := shake256 (s.nv.pufKey ++ s.nv.uds ++ asciiBytes "KF9680 ID") 57

/-- Bytes 0 to 647 of a quote (R497). -/
def State.quoteBody (s : State) : Bytes :=
  let flags := boolNat (s.dome.jtagLevel ≠ 0) + 2 * boolNat s.replaying + 4 * boolNat (s.rd R.DOME_FLT ≠ 0)
  toLe 4 0x3151464B ++ toLe 2 1 ++ toLe 2 flags ++ toLe 16 s.nv.uid ++ toLe 16 s.nowWord ++ toLe 32 (s.rd R.ATT_NONCE) ++
  (List.range 8).flatMap (fun i => toLe 64 (s.rd (R.MR (i + 1)))) ++
  (List.range 64).map (fun i => BitVec.ofNat 8 (s.rollback i))

/-- The effect of `ATT_GO` (R497): the snapshot is taken and the quote is being built; refused while one is, or with a Dome
fault. -/
def State.attGo (s : State) : State × Nat :=
  if s.rd R.ATT_STATE = 1 then (s, 0x2E08)
  else if s.rd R.DOME_FLT ≠ 0 then (s, 0x2E0C)
  else ({ s with dome := { s.dome with quote := some s.quoteBody } }.wr R.ATT_STATE 1, 0)

/-- `ATT_GO` (R497). -/
def execAttGo (r : Route) (s : State) : Host.Outcome State Fault Refusal :=
  s.run fun s => s.hostWrite r.val 0x2E02 0x0B (toLe 1 1) State.attGo

/-- `QUOTE_READY` (R497): the signed quote stands in `ATT_QUOTE`. -/
def execQuoteReady (s : State) : Host.Outcome State Fault Refusal :=
  s.run fun s => match s.dome.quote with
    | none => s
    | some b =>
      let q := b ++ edSign s.idSeed (shake256 b 64)
      ({ s with dome := { s.dome with quote := none } }.wr R.ATT_QUOTE (leNat q)).wr R.ATT_STATE 2

/-! ### Command keys (R498, R499) -/

/-- The effect of `KEY_ENV` (R498): the envelope is accepted at once and processed within 10 ms. -/
def State.keyEnv (s : State) (data : Bytes) : State × Nat :=
  if s.dome.envelope ≠ none then (s, 0x2E08)
  else if (s.rd R.DOME_FLT).testBit 0 then (s, 0x2E0C)
  else ({ s with dome := { s.dome with envelope := some data } }.wr R.KEY_STATUS 1, 0)

/-- `KEY_ENV` (R498). -/
def execKeyEnv (r : Route) (data : Bytes) (s : State) : Host.Outcome State Fault Refusal :=
  s.run fun s => s.hostWrite r.val 0x2E01 1 data fun s => s.keyEnv data

/-- The wrap key of an envelope (R498, R499 check 7). -/
def State.wrapKey (s : State) (wrap id : Nat) : Option Bytes :=
  if wrap = 0 then s.nv.provKey
  else if (s.cmdKey id).st = 1 then some (s.cmdKey id).key else none

/-- The new key of an envelope (R498). -/
def unwrapEnvKey (k e : Bytes) : Bytes :=
  xorBytes (slice e 48 32)
    (kmac256 k (slice e 16 16 ++ slice e 32 16 ++ slice e 5 1 ++ slice e 12 4) (asciiBytes "KF9680 KWRAP") 32)

/-- The first failing check of an envelope (R499); 0 when it is accepted. -/
def State.envelopeReason (s : State) (e : Bytes) : Nat :=
  let op := leAt e 4 1; let id := leAt e 5 1; let wrap := leAt e 6 1; let slot := leAt e 7 1
  if leAt e 0 4 ≠ 0x45564B4B || op < 1 || 2 < op || 8 ≤ id || 2 ≤ wrap then 0x02
  else if leAt e 16 16 ≠ s.nv.uid then 0x03
  else if slot < 1 || 4 ≤ slot || !(s.fuseSlot slot).mayUse 1 then 0x04
  else if !edVerify (s.fuseSlot slot).pub (shake256 (e.take 96) 64) (e.drop 96) then 0x05
  else if leAt e 12 4 ≤ (s.cmdKey id).gen then 0x06
  else if op = 2 then (if s.dome.level2Since then 0x09 else 0)
  else match s.wrapKey wrap id with
    | none => 0x07
    | some k =>
      if (kmac256 (unwrapEnvKey k e) (slice e 16 16) (asciiBytes "KF9680 KCHK") 32).take 16 ≠ slice e 80 16 then 0x08
      else if s.dome.level2Since then 0x09
      else 0

/-- An accepted envelope (R498, R499): the key changes, MR5 is extended, the counter restarts, the store is written
back. -/
def State.installKey (s : State) (e : Bytes) : State :=
  let op := leAt e 4 1; let id := leAt e 5 1
  let old := s.cmdKey id
  let new : CmdKey :=
    if op = 2 then { old with st := 2, gen := leAt e 12 4 }
    else { key := unwrapEnvKey ((s.wrapKey (leAt e 6 1) id).getD []) e, scope := leAt e 8 4, gen := leAt e 12 4, st := 1 }
  let keys := smSet (fun _ => CmdKey.none) s.dome.keys id new
  let s1 := { s with dome := { s.dome with keys := keys } }
  let s2 := ((s1.wr R.KEY_STATUS 0).extendMr 5 (shake256 (e.take 96) 64)).event 0x2E05 0 [(8, id), (32, leAt e 12 4)]
  let s3 := if op = 2 then s2
    else { s2 with dome := { s2.dome with rc := 0 }, nv := { s2.nv with flashRc := 0 } }.wr R.CMD_CTR 0
  if s3.nv.flashPresent && !s3.dome.hostBoot then
    { s3 with nv := { s3.nv with flashKeys := keys } }.wr R.FLASH_BUSY 1
  else s3

/-- `KEY_ENVELOPE_DONE` (R499). -/
def execKeyEnvelopeDone (s : State) : Host.Outcome State Fault Refusal :=
  s.run fun s => match s.dome.envelope with
    | none => s
    | some e =>
      let s1 := { s with dome := { s.dome with envelope := none } }
      let c := s1.envelopeReason e
      if c ≠ 0 then (s1.wr R.KEY_STATUS c).event 0x2E06 0 [(8, c)] else s1.installKey e

/-! ### JTAG (R500, R501) -/

/-- The bytes of a grant or relock that MR6 is extended with: the level.
[DEDUCED, log entry 56] -/
def jtagMeasure (level : Nat) : Bytes := toLe 64 level

/-- A relock (R501): the grant ends. -/
def State.jtagRelock (s : State) : State :=
  ({ s with dome := { s.dome with jtagLevel := 0, jtagInstr := .bypass, chal := none } }.wr R.JTAG_LEVEL 0).extendMr 6
    (jtagMeasure 0)

/-- A challenge for a level (R500): 32 bytes of the TRNG and the UID; it replaces a live one. -/
def State.jtagChallenge (s : State) (level : Nat) : State × Nat :=
  if s.rd R.DOME_FLT ≠ 0 then (s, 0x2E0C)
  else
    let (c, s1) := s.drawTrng 32
    ({ s1 with dome := { s1.dome with chal := some (c, level, s1.tclk) } }.wr R.JTAG_CHAL
      (leNat (c ++ toLe 16 s1.nv.uid)), 0)

/-- The effect of `JTAG_REQ` (R500): level 1 or 2 draws a challenge; level 0 relocks. -/
def State.jtagReq (s : State) (level : Nat) : State × Nat := if level = 0 then (s.jtagRelock, 0) else s.jtagChallenge level

/-- `JTAG_REQ` (R500). -/
def execJtagReq (r : Route) (level : Fin 3) (s : State) : Host.Outcome State Fault Refusal :=
  s.run fun s => s.hostWrite r.val 0x2E03 2 (toLe 1 level.val) fun s => s.jtagReq level.val

/-- `JTAG_RELOCK` (R501). -/
def execJtagRelock (r : Route) (s : State) : Host.Outcome State Fault Refusal :=
  s.run fun s => s.hostWrite r.val 0x2E03 2 (toLe 1 0) fun s => (s.jtagRelock, 0)

/-- The outcome of a response (R501): 2 granted, 3 to 6 refused. -/
def State.jtagOutcome (s : State) (data : Bytes) : Nat × Nat :=
  match s.dome.chal with
  | none => (5, 0)
  | some (c, level, t0) =>
    let slot := leAt data 0 1
    if t0 + 60 * tclkSec ≤ s.tclk then (5, level)
    else if 4 ≤ slot || !(s.fuseSlot slot).mayUse 2 then (4, level)
    else if !edVerify (s.fuseSlot slot).pub (shake256 (c ++ toLe 16 s.nv.uid ++ toLe 1 level) 64) (data.drop 1) then
      (3, level)
    else if level = 1 && s.rd R.SNT_STATE = 2 then (6, level)
    else (2, level)

/-- The effect of `JTAG_RESP` (R501): a challenge serves one response; a grant extends MR6, and level 2 erases the unwrapped
keys. -/
def State.jtagResp (s : State) (data : Bytes) : State × Nat :=
  let (o, level) := s.jtagOutcome data
  let s1 := { s with dome := { s.dome with chal := none } }.wr R.JTAG_STAT o
  if o ≠ 2 then (s1.event 0x2E08 0 [(8, o)], 0)
  else
    let s2 := ((s1.wr R.JTAG_LEVEL level).extendMr 6 (jtagMeasure level)).event 0x2E07 0 [(8, level)]
    ({ s2 with dome := { s2.dome with jtagLevel := level, level2Since := s2.dome.level2Since || level = 2,
                                      keysErased := s2.dome.keysErased || level = 2 } }, 0)

/-- `JTAG_RESP` (R501). -/
def execJtagResp (r : Route) (data : Bytes) (s : State) : Host.Outcome State Fault Refusal :=
  s.run fun s => s.hostWrite r.val 0x2E03 4 data fun s => s.jtagResp data

/-- `JTAG_CHALLENGE_EXPIRE` (R500): after 60 s without a response. -/
def execJtagChallengeExpire (s : State) : Host.Outcome State Fault Refusal :=
  s.run fun s => match s.dome.chal with
    | none => s
    | some (_, _, t0) => if t0 + 60 * tclkSec ≤ s.tclk then { s with dome := { s.dome with chal := none } } else s

/-- An instruction takes the pins (R501). -/
def jtagTakesPins : JtagInstr → Bool
  | .extest => true | .intest => true | .clamp => true | .highz => true | .otherPins => true
  | _ => false

/-- The level an instruction needs (R500). -/
def jtagLevelOf : JtagInstr → Nat
  | .idcode => 0 | .bypass => 0 | .samplePreload => 0 | .domeauth => 0
  | .debug => 2
  | _ => 1

/-- `JTAG_INSTRUCTION_LOAD` (R500, R501): above the granted level, or taking the pins while Sentinel runs, it acts as
BYPASS. -/
def execJtagInstructionLoad (instr : JtagInstr) (s : State) : Host.Outcome State Fault Refusal :=
  s.run fun s =>
    let i := if s.dome.jtagLevel < jtagLevelOf instr then JtagInstr.bypass
      else if s.rd R.SNT_STATE = 2 && jtagTakesPins instr then .bypass else instr
    { s with dome := { s.dome with jtagInstr := i } }

end Sys2Proof.Machine
end

