-- ==== Sys2Proof/Machine/TalusCmds.lean ====
section
/-! DEFINITION. The commands of Talus (chapter 04). -/
namespace Sys2Proof.Machine

/-- `TALUS_POINT_TAKE` (R107): Talus takes the oldest point of its hand-off buffer. -/
def execTalusPointTake (s : State) : Host.Outcome State Fault Refusal :=
  s.run fun s => match s.siu.fifoT with
    | [] => s
    | p :: rest => ({ s with siu := { s.siu with fifoT := rest } }).talusTake p

/-- The buffer of the open set of the lowest epoch. -/
def State.lowestOpen (s : State) : Option (Nat × VSet) :=
  (List.range 3).foldl (fun m b => match s.vset b with
    | some v =>
      if v.phase = .opened then
        match m with
        | some (_, w) => if v.epoch < w.epoch then some (b, v) else m
        | none => some (b, v)
      else m
    | none => m) none

/-- `SET_CLOSE` (R126): the lowest open set whose instant plus L has come closes. An epoch to which no point came closes
an empty set, when its buffer is free. -/
def execSetClose (s : State) : Host.Outcome State Fault Refusal :=
  s.run fun s =>
    let passed := fun (n : Nat) => decide (s.instant n + s.lag ≤ s.now)
    let done := fun (n : Nat) (t : State) => t.mapTalus fun x => { x with firstEpoch := max x.firstEpoch (n + 1) }
    match s.lowestOpen with
    | some (b, v) => if passed v.epoch then done v.epoch (s.closeSet b v) else s
    | none =>
      let n := s.epochOf (s.now - s.lag) - 1
      if s.talus.places = [] || !passed n || n < s.talus.firstEpoch || s.vset (n % 3) ≠ none then s
      else
        let s1 := s.openSet (n % 3) n
        match s1.vset (n % 3) with
        | some v => done n (s1.closeSet (n % 3) v)
        | none => s1

/-- The release cairn of a buffer's set has reached its target: one generation of the cairn for each release (R130,
R370).
[DEDUCED, log entry 25] -/
def State.setReleased (s : State) (b : Nat) : Bool :=
  let p := s.setPlace b
  let gen := smGet (fun _ => 0) s.talus.relGen b
  decide (p.releaseTarget * (gen + 1) ≤ (s.cairn p.release).value - (s.cairn p.release).rest)

/-- `SET_RELEASE` (R130): the release cairn of a built set has reached its target, and its buckets are cleared. -/
def execSetRelease (buf : Fin 3) (s : State) : Host.Outcome State Fault Refusal :=
  s.run fun s => match s.vset buf.val with
    | none => s
    | some v =>
      if v.phase ≠ .built || !s.setReleased buf.val then s
      else
        (s.freeSet buf.val v).mapTalus fun t =>
          { t with relGen := smSet (fun _ => 0) t.relGen buf.val (smGet (fun _ => 0) t.relGen buf.val + 1) }

/-- A unit of Theodolite writes an entry. A `RESET` accepted while Sentinel uses the ring
clears the Plate and discards the corridors. -/
def State.poseEntry (s : State) (agent e : Nat) : State :=
  let (s1, rst) := s.ringWrite agent e
  if rst && s1.rd R.SNT_STATE = 2 && !s1.snt.fallback then
    (s1.clearPlate).mapSnt fun n => { n with cor := none, corNext := none }
  else s1

/-- `POSE_RING_WRITE` (R112): the ring's only writer is the unit that the image names. -/
def execPoseRingWrite (e : BitVec 1024) (s : State) : Host.Outcome State Fault Refusal :=
  s.run fun s => s.poseEntry s.ringWriter e.toNat

end Sys2Proof.Machine
end

