-- ==== Sys2Proof/Machine/TheoCmds.lean ====
section
/-! DEFINITION. The commands of Theodolite (chapter 11): the problem kinds, waves, the stop, the propagator. -/
namespace Sys2Proof.Machine

/-! ### Matrices of a problem (R320, R326, R327) -/

/-- The product of the state that the assembly depends on and an iterate: element `j`.
[DESIGN CHOICE, log entry 43] -/
def asmElem (p : Prob) (x : List Nat) (j : Nat) : Nat := Config.assemble (p.ops ++ x) j

/-- H as assembled at an iterate: symmetric, zero outside `BLOCK_MASK` (R321, R326). -/
def asmH (h : Nat) (p : Prob) (x : List Nat) : Mat :=
  let n := tN h
  Mat.ofList n ((List.range (n * n)).map (fun q =>
    let i := min (q / n) (q % n)
    let j := max (q / n) (q % n)
    if (tMask h).testBit (8 * (q / n / 8) + q % n / 8) then asmElem p x (i * n + j) else 0))

/-- g as assembled at an iterate, one column for each right-hand side. -/
def asmG (h : Nat) (p : Prob) (x : List Nat) : Mat :=
  let n := tN h
  Mat.ofList (tK h) ((List.range (n * tK h)).map (fun j => asmElem p x (n * n + j)))

/-- The cost of an iterate; none when it is not finite (R326, R329).
[DESIGN CHOICE, log entry 43] -/
def costAt (p : Prob) (x : List Nat) : Option Nat := fin64 (Config.asmCost (p.ops ++ x))

/-- ε_piv from a magnitude (R327).
[DEDUCED, log entry 44] -/
def epsFor (w big : Nat) : Nat := if pEpsMode w then pEpsAbs w else epsOf (pEpsExp w) big

/-- The largest diagonal magnitude. -/
def diagMax (n : Nat) (a : Mat) : Nat := maxAbs64 ((List.range n).map (fun i => a.get i i))

/-- The largest column 2-norm of an m × n matrix; a norm that is not finite counts as the largest finite number. -/
def colMax (m n : Nat) (a : Mat) : Nat :=
  maxAbs64 ((List.range n).map (fun c => ((sumSq (a.col m c)).bind sqrt64).getD (inf64 - 1)))

/-- The pivots of a factorisation go into the problem's bookkeeping (R327). -/
def Prob.pivots (p : Prob) (v : Piv) : Prob :=
  { p with pivIdx := if p.pivIdx = 255 then v.idx else p.pivIdx, nclamp := min 255 (p.nclamp + v.n),
           flags := p.flags ||| boolNat (v.n ≠ 0) ||| 64 * boolNat v.notSpd }

/-! ### Direct kinds (R318, R327 to R329) -/

/-- Solve for every column of B: X, row-major. -/
def solveCols (n k : Nat) (f : List Nat → Option (List Nat)) (b : Nat → List Nat) : Option Mat := do
  let cs ← (List.range k).mapM (fun c => f (b c))
  pure (Mat.ofList k ((List.range (n * k)).map (fun q => (cs.getD (q % k) []).getD (q / k) 0)))

/-- What a direct solve gives: the pivots, X, the factor to write. -/
structure Direct where
  piv : Piv
  x : Option Mat
  factor : Bytes

/-- The bytes of some words. -/
def wordsLe (l : List Nat) : Bytes := l.flatMap (toLe 8)

/-- A factorisation with its solve. -/
def Fact.direct (f : Fact) (n k : Nat) (solve : List Nat → Option (List Nat)) (b : Mat) (tail : Bytes) : Direct :=
  { piv := f.piv, x := if f.bad then none else solveCols n k solve (b.col n), factor := wordsLe f.f.words ++ tail }

/-- The triangle is the upper one (R330). -/
def triUpper (tpl : Bytes) : Bool := match (tplBlocks tpl)[0]? with
  | some b => b.ty = 6 && (leAt tpl 64 4).testBit 15
  | none => false

/-- Run a direct kind on A (m × n) and B (m × k). -/
def runDirect (w h : Nat) (tpl : Bytes) (a b : Mat) : Direct :=
  let n := tN h
  let m := tM h
  let k := tK h
  match pKind w with
  | 0 => let f := lltFactor n (epsFor w (diagMax n a)) a; f.direct n k (lltSolve n f) b []
  | 1 => let f := ldltFactor n (epsFor w (diagMax n a)) a; f.direct n k (ldltSolve n f) b []
  | 2 =>
    let q := fun j => Config.qrWord ([m, n, k] ++ a.words ++ b.words) j
    let r := Mat.ofList n ((List.range (n * n)).map (fun j => if j % n < j / n then 0 else q j))
    let qb := Mat.ofList k ((List.range (n * k)).map (fun j => q (n * n + j)))
    let f := triFactor n (epsFor w (colMax m n a)) r
    let ok := allFin (r.words ++ qb.words)
    { f with bad := f.bad || !ok }.direct n k (triSolve n true f) qb []
  | 3 =>
    let f := luFactor n (epsFor w (diagMax n a)) a
    f.direct n k (luSolve n f) b (f.perm.flatMap (toLe 1))
  | _ =>
    let f := triFactor n (epsFor w (diagMax n a)) a
    f.direct n k (triSolve n (triUpper tpl) f) b []

/-- A problem of a direct kind is computed: X and its residual, or `OVERFLOW` with the fallback of R329. -/
def State.probDirect (s : State) (x : ThUnit) (p : Prob) : Prob :=
  let w := s.thProg x.prog
  let h := s.thHead x.prog
  let tpl := s.thTpl (pTpl w)
  let n := tN h
  let k := tK h
  let a := if tSrc h = 0 then Mat.ofList n p.h else asmH h p p.g
  let b := if tSrc h = 0 then Mat.ofList k p.g else asmG h p p.g
  if !allFin (a.words ++ b.words) then p.stop 2
  else
    let d := runDirect w h tpl a b
    let p1 := { p.pivots d.piv with factor := d.factor }
    match d.x.bind (fun y => (residual (tM h) n k a b y).map (fun r => (y, r))) with
    | some (y, r) => { p1 with done := true, best := y.words, bestCost := some r }
    | none => p1.stop 2

/-! ### Iteration kinds (R331) -/

/-- x ⊞ δ (R331).
[DESIGN CHOICE, log entry 43] -/
def boxPlus (bs : List Blk) (x d : List Nat) : Option (List Nat) :=
  (List.range x.length).mapM (fun i =>
    match bs.find? (fun b => b.ty = 0 && b.off ≤ i && i < b.off + 6) with
    | some b => fin64 (Config.boxPose ((List.range 6).map (fun j => x.getD (b.off + j) 0) ++
        (List.range 6).map (fun j => d.getD (b.off + j) 0)) (i - b.off))
    | none => add64 (x.getD i 0) (d.getD i 0))

/-- `OVERFLOW` in an iteration kind: X is the last iterate whose values and cost are all finite (R329). -/
def Prob.overflow (p : Prob) : Prob := match p.last with
  | some (x, c, i) => { p with best := x, bestCost := some c, bestIter := i }.stop 2
  | none => { p with bestCost := none, bestIter := 0 }.stop 2

/-- An iterate has been evaluated: it is the last one, and the best one when its cost is lowest (R331). -/
def Prob.evaluated (p : Prob) (x : List Nat) (c i : Nat) : Prob :=
  let p1 := { p with last := some (x, c, i) }
  let better := match p.bestCost with
    | some b => Dy.lt (fpDy fp64 c) (fpDy fp64 b)
    | none => true
  if better then { p1 with best := x, bestCost := some c, bestIter := i } else p1

/-- Assemble at the current iterate: H and g with the iterate's cost; none when a value is not finite. -/
def Prob.assembleAt (p : Prob) (h : Nat) : Option (Mat × List Nat × Nat) := do
  let m := asmH h p p.cur
  let g := (asmG h p p.cur).col (tN h) 0
  let c ← costAt p p.cur
  if allFin (m.words ++ g) then some (m, g, c) else none

/-- Solve H δ = −g by LLᵀ: the pivots and δ. -/
def newtonStep (w n : Nat) (m : Mat) (g : List Nat) : Piv × Option (List Nat) :=
  let f := lltFactor n (epsFor w (diagMax n m)) m
  (f.piv, if f.bad then none else lltSolve n f (g.map neg64))

/-- One Gauss–Newton iteration; after the last one its iterate is evaluated. -/
def gaussStep (w h : Nat) (bs : List Blk) (p : Prob) : Prob :=
  if p.done then p
  else match p.assembleAt h with
    | none => p.overflow
    | some (m, g, c) =>
      let p1 := { p.evaluated p.cur c p.curIter with h := m.words }
      let (v, d) := newtonStep w (tN h) m g
      let p2 := p1.pivots v
      match d.bind (boxPlus bs p.cur) with
      | none => p2.overflow
      | some y =>
        let p3 := { p2 with cur := y, curIter := p.curIter + 1, iters := p.iters + 1 }
        if p3.iters < pIter w then p3
        else match costAt p3 y with
          | none => p3.overflow
          | some e => { p3.evaluated y e p3.curIter with done := true }

/-- λ times a factor, held to 2^−60..2^60 (R331). -/
def lambdaBy (l f : Nat) : Nat :=
  let d := Dy.mul (fpDy fp64 l) (fpDy fp32 f)
  let lo : Dy := { m := 1, e := -60 }
  let hi : Dy := { m := 1, e := 60 }
  fpRound fp64 (if Dy.lt d lo then lo else if Dy.lt hi d then hi else d)

/-- H + λ diag(H) (R331). -/
def dampedH (n l : Nat) (m : Mat) : Option Mat :=
  (List.range n).foldlM (fun (t : Mat) i => (fma64 l (m.get i i) (m.get i i)).map (fun v => t.set i i v)) m

/-- One Levenberg–Marquardt iteration. A rejected step keeps x, H and g. -/
def levenbergStep (w h : Nat) (bs : List Blk) (p : Prob) : Prob :=
  if p.done then p
  else
    let n := tN h
    let asm := if p.rejected then p.curCost.map (fun c => (Mat.ofList n p.h, p.g, c)) else p.assembleAt h
    match asm with
    | none => p.overflow
    | some (m, g, c) =>
      let p1 := { p with h := m.words, g := g, curCost := some c, best := p.cur, bestCost := some c, bestIter := p.curIter,
                         last := some (p.cur, c, p.curIter) }
      match dampedH n p.lambda m with
      | none => p1.overflow
      | some md =>
        let (v, d) := newtonStep w n md g
        let p2 := p1.pivots v
        match d.bind (boxPlus bs p.cur) with
        | none => p2.overflow
        | some y => match costAt p2 y with
          | none => p2.overflow
          | some e =>
            let it := p.iters + 1
            let p3 := if Dy.lt (fpDy fp64 e) (fpDy fp64 c) then
                { p2 with cur := y, curIter := it, rejected := false, best := y, bestCost := some e, bestIter := it,
                          last := some (y, e, it), lambda := lambdaBy p.lambda (pDown w) }
              else { p2 with rejected := true, lambda := lambdaBy p.lambda (pUp w) }
            { p3 with iters := it, done := decide (pIter w ≤ it) }

/-- The words that PCG depends on: H, g and the start. -/
def pcgOps (h : Nat) (p : Prob) : List Nat :=
  if tSrc h = 0 then p.h ++ p.g ++ p.cur else (asmH h p p.g).words ++ (asmG h p p.g).words ++ p.cur

/-- PCG's iterate `i` is evaluated.
[DESIGN CHOICE, log entry 43] -/
def pcgEval (h i : Nat) (p : Prob) : Prob :=
  let nk := tN h * tK h
  let y := (List.range nk).map (Config.pcgWord (pcgOps h p) i)
  let c := Config.pcgWord (pcgOps h p) i nk
  if allFin (c :: y) then p.evaluated y c i else p.overflow

/-- One step of PCG. -/
def pcgStep (w h : Nat) (_ : List Blk) (p : Prob) : Prob :=
  if p.done then p
  else
    let p0 := if p.iters = 0 then pcgEval h 0 p else p
    if p0.done then p0
    else
      let it := p.iters + 1
      let p1 := pcgEval h it { p0 with iters := it }
      if p1.done then p1 else { p1 with done := decide (pIter w ≤ it) }

/-! ### A wave (R319) -/

/-- The problems of the wave in hand. -/
def State.waveIx (s : State) (x : ThUnit) : List Nat :=
  (List.range (waveSize (s.thHead x.prog) (pBatch (s.thProg x.prog) - x.wave))).map (· + x.wave)

/-- Load the problems of a range that are not loaded. -/
def State.loadProbs (s : State) (u : Nat) (x : ThUnit) (bs : List Nat) : ThUnit × State :=
  bs.foldl (fun (a : ThUnit × State) b => match a.1.probs[b]? with
    | some p =>
      if p.loaded then a
      else
        let (q, rej, t) := a.2.loadProb u a.1 b
        ({ a.1 with probs := a.1.probs.set b q, warmEv := a.1.warmEv || rej }, t)
    | none => a) (x, s)

/-- Every problem of the wave that is not done takes `f`, its inputs loaded first. -/
def State.thWave (s : State) (u : Nat) (x : ThUnit) (f : State → ThUnit → Prob → Prob) : State :=
  let (y, t) := s.loadProbs u x (s.waveIx x)
  let probs := (t.waveIx y).foldl (fun l b => match l[b]? with
    | some p => if p.done then l else l.set b (f t y p)
    | none => l) y.probs
  t.setThUnit u (some { y with probs := probs })

/-- Compute on every problem of the wave: the command of a kind acts while the unit runs a program of that kind. -/
def State.thRun (s : State) (u kind : Nat) (f : State → ThUnit → Prob → Prob) : State :=
  match s.thUnit u with
  | none => s
  | some x => if pKind (s.thProg x.prog) ≠ kind then s else s.thWave u x f

/-- `k` iterations of one problem. -/
def thSteps (k : Nat) (step : Nat → Nat → List Blk → Prob → Prob) (t : State) (x : ThUnit) (p : Prob) : Prob :=
  let w := t.thProg x.prog
  (List.range k).foldl (fun p _ => step w (t.thHead x.prog) (tplBlocks (t.thTpl (pTpl w))) p) p

/-- The iteration kinds run `k` iterations on each problem of the wave, no more than remain.
[DEDUCED, log entry 9] -/
def State.thIterate (s : State) (u kind k : Nat) (step : Nat → Nat → List Blk → Prob → Prob) : State :=
  s.thRun u kind (thSteps k step)

/-! ### The propagator's base (R337, R338) -/

/-- The diagonal of H⁻¹ for some elements, from the undamped H; empty when it is not finite. -/
def invDiag (w n : Nat) (hw ixs : List Nat) : List Nat :=
  let m := Mat.ofList n hw
  let f := lltFactor n (epsFor w (diagMax n m)) m
  if f.bad then []
  else (ixs.mapM (fun i => (lltSolve n f ((List.range n).map (fun j => if j = i then 0x3FF0000000000000 else 0))).map
    (fun v => v.getD i 0))).getD []

/-- The elements of a block. -/
def blkIx (b : Blk) : List Nat := (List.range b.size).map (· + b.off)

/-- The block of a type and index. -/
def findBlk (bs : List Blk) (ty i : Nat) : Option Blk := bs.find? (fun b => b.ty = ty && b.idx = i)

/-- The last pose index of a template. -/
def lastPose (bs : List Blk) : Nat := ((bs.filter (fun b => b.ty = 0)).map (·.idx)).foldl max 0

/-- Some elements of a state. -/
def pick (x ixs : List Nat) : List Nat := ixs.map (fun i => x.getD i 0)

/-- A sample as words: its time and its values. -/
def sampleWords (t : Nat) (vs : List (Nat × Nat)) : List Nat := t :: vs.flatMap (fun v => [v.1, v.2])

/-- The propagator's state after more samples: ten words (position, rotation, velocity).
[DESIGN CHOICE, log entry 43] -/
def propWords (ops : List Nat) : List Nat := (List.range 10).map (Config.propagate ops)

/-- The ring entry of the propagator's state (R111, R337). The angular rate is the last sample's less the bias.
[DESIGN CHOICE, log entry 43] -/
def State.propEntry (s : State) (b : PropBase) (t : Nat) (x rate : List Nat) (predicted : Bool) : Nat :=
  let sig := fun k => Config.propSig (b.var ++ [s.thSet R.PROP_QP, s.thSet R.PROP_QA, t - b.t]) k % 2 ^ 32
  let rt := (List.range 3).map (fun i => fpRound fp32 (Dy.sub (fpDy fp32 (rate.getD i 0)) (fpDy fp64 (b.bias.getD i 0))))
  leNat (toLe 16 (ftWord t s.timeFlags) ++ (x.take 7).flatMap (toLe 8) ++ (x.drop 7).flatMap (toLe 4) ++ rt.flatMap (toLe 4)) +
    sig 0 * 2 ^ 832 + sig 1 * 2 ^ 864 + 2 ^ 896 + boolNat predicted * 2 ^ 897 + boolNat s.deep.th.resetDue * 2 ^ 898

/-- Write the propagator's entry; an accepted one counts, and a `RESET` raises event 0x2906 (R338). -/
def State.propWrite (s : State) (b : PropBase) (t : Nat) (x rate : List Nat) (predicted : Bool) : State :=
  if s.talus.accepted && t ≤ s.talus.newest then s
  else
    let reset := s.deep.th.resetDue
    let s1 := (s.poseEntry s.ringWriter (s.propEntry b t x rate predicted)).add64 R.PR_WRITES 1
    let s2 := if reset then s1.event 0x2906 0 [(8, b.prog), (64, b.inst)] else s1
    s2.mapTheo fun th => { th with resetDue := false, rebase := false }

/-- `PROP_SLOT` is LIVE. -/
def State.propLive (s : State) : Bool := s.rd (R.SLOT_STATE (s.rd R.PROP_SLOT)) = 2

/-- A new base: the measurement ring is integrated again from its time to the newest sample (R337). -/
def State.propRebase (s : State) (b : PropBase) (cold : Bool) : State :=
  let slot := s.rd R.PROP_SLOT
  let unit := s.ringWriter
  let (a, n) := smGet (fun _ => (0, 0)) s.deep.th.rings slot
  let es := if a = 0 then [] else (List.range (min n 4096)).map (fun k => a + 64 * ((n - min n 4096 + k) % 4096))
  let r := es.foldl (fun (acc : List (Nat × Bytes) × State) e =>
    let q := acc.2.readMem unit e 64
    (acc.1 ++ [(ftLow (leAt q.data 0 16), q.data)], q.s)) ([], s)
  let ss := r.1.filter (fun e => decide (b.t < e.1))
  let t := match ss.getLast? with | some e => e.1 | none => b.t
  let rate := match r.1.getLast? with
    | some e => (List.range 3).map (fun i => leAt e.2 (16 + 12 + 4 * i) 4)
    | none => [0, 0, 0]
  let x := propWords (b.x ++ ss.flatMap (fun e => e.1 :: words64 (e.2.drop 16)))
  let s1 := r.2.mapTheo fun th =>
    { th with base := some b, prop := some (t, x), propQ := [], rebase := true, resetDue := th.resetDue || cold }
  if s1.propLive && !ss.isEmpty then s1.propWrite b t x rate false else s1

/-- The estimator's program has completed without `INVALID`, `NAN_INPUT` or `OVERFLOW` (R337). -/
def State.poseBase (s : State) (x : ThUnit) (p : Prob) : State :=
  let w := s.thProg x.prog
  let bs := tplBlocks (s.thTpl (pTpl w))
  let k := lastPose bs
  let ix := fun ty => match findBlk bs ty k with | some b => blkIx b | none => []
  s.propRebase
    { t := s.cycOrigin x.key.1 x.key.2.1, x := pick p.best (ix 0 ++ ix 1 ++ ix 2 ++ ix 3),
      var := invDiag w (tN (s.thHead x.prog)) p.h (ix 0), bias := pick p.best (ix 2), prog := x.prog, inst := x.key.2.1 }
    (!p.flags.testBit 8)

/-! ### Calibration proposals (R339) -/

/-- A standard deviation in FP32 times `k` is at most a setting. -/
def sigWithin (sig k lim : Nat) : Bool := fpFinite fp32 sig && Dy.le (Dy.mul (fpDy fp32 sig) (Dy.ofInt k)) (Dy.ofInt lim)

/-- The proposal of one EXTR or TOFF block.
[DESIGN CHOICE, log entry 43] -/
def State.proposeBlk (s : State) (x : ThUnit) (p : Prob) (b : Blk) : State :=
  let w := s.thProg x.prog
  let var := invDiag w (tN (s.thHead x.prog)) p.h (blkIx b)
  let v := fun j => Config.calValue ([b.ty, b.size] ++ pick p.best (blkIx b) ++ var) j
  let pos := v 8 % 2 ^ 32
  let att := v 9 % 2 ^ 32
  let tim := v 10 % 2 ^ 32
  let ok := !var.isEmpty &&
    (if b.ty = 4 then sigWithin pos 1000 (s.thSet R.CAL_SIG_POS) && sigWithin att 1000000 (s.thSet R.CAL_SIG_ATT)
     else sigWithin tim 1 (s.thSet R.CAL_SIG_T))
  let gen := if s.thAlm x.key.1 x.key.2.1 = s.rd R.ALM_ACTIVE then s.rd R.ALM_GEN else s.deep.ag.oldGen
  if !ok then s
  else
    let rec_ := leNat (toLe 8 x.key.2.1 ++ (List.range 7).flatMap (fun j => toLe 8 (v j)) ++ toLe 4 (v 7) ++ toLe 4 pos ++ toLe 4 att ++
      toLe 4 tim ++ toLe 4 gen) + 2 ^ 672
    ((s.wr (R.CAL_PROP (b.idx + 1)) rec_).bump R.PROPOSALS).thEvent 0x2905 x

/-- The proposals of a program with `CAL_OUT`.
[DEDUCED, log entry 44] -/
def State.propose (s : State) (x : ThUnit) (p : Prob) : State :=
  let bs := tplBlocks (s.thTpl (pTpl (s.thProg x.prog)))
  (bs.filter (fun b => (b.ty = 4 || b.ty = 5) && b.idx < 96)).foldl (fun t b => t.proposeBlk x p b) s

/-! ### The end of a task (R319, R332, R334) -/

/-- The task of a unit ends: the pose ring, the proposals, and its report. -/
def State.thFinish (s : State) (u : Nat) (x : ThUnit) : State :=
  let w := s.thProg x.prog
  let bad := x.probs.any (fun p => p.flags.testBit 7)
  let s1 := match x.probs with
    | p :: _ =>
      let a := if pPose w && p.flags &&& 0xA2 = 0 then s.poseBase x p else s
      if pCal w && p.flags &&& 0xAA = 0 then a.propose x p else a
    | [] => s
  let s2 := s1.mapEntry x.key fun e => { e with report := 1, outBad := e.outBad || bad }
  (s2.setThUnit u none).wr (R.TH_STATE u) 1

/-- A wave's problems are written, and the next wave or the task's end follows (R319, R332). -/
def State.waveDone (s : State) (u : Nat) (x : ThUnit) : State :=
  let (y, t) := s.writeProbs u x (s.waveIx x)
  let z := { y with wave := y.wave + (s.waveIx x).length }
  if pBatch (t.thProg z.prog) ≤ z.wave then t.thFinish u z else t.setThUnit u (some z)

/-- Problem `b` of a wave is done, or is not there. -/
def ThUnit.probDone (x : ThUnit) (b : Nat) : Bool := match x.probs[b]? with
  | some p => p.done
  | none => true

/-- `WAVE_COMPLETE` (R319): every problem of the wave is computed; the results are written and the next wave follows. -/
def execWaveComplete (u : Fin 2) (s : State) : Host.Outcome State Fault Refusal :=
  s.run fun s => match s.thUnit u.val with
  | none => s
  | some x =>
    if !(s.waveIx x).all x.probDone then s
    else s.waveDone u.val x

/-- t_stop of a running task (R332). -/
def State.tStopAt (s : State) (x : ThUnit) : Nat :=
  let d := match s.taskRec x.key.1 x.key.2.2 with | some r => r.doneDl | none => 0
  s.cycOrigin x.key.1 x.key.2.1 + (d - pWbNs (s.thProg x.prog)) * ftNs

/-- The unit's stop: what is not done is written as it stands with its flag, and the task ends (R332).
[DEDUCED, log entry 44] -/
def State.theoStop (s : State) (u : Nat) (x : ThUnit) : State :=
  let all := List.range x.probs.length
  let (y, t) := s.loadProbs u x all
  let late := y.probs.any (fun p => !p.done)
  let z := { y with probs := y.probs.map (fun p => if p.done then p else p.flag 8) }
  let (v, t1) := t.writeProbs u z all
  let t2 := t1.bump R.DL_CNT
  let t3 := if late then t2.thEvent 0x2904 v else t2
  t3.thFinish u v

/-- `T_STOP` (R332): at t_stop every problem is written as it stands, and the task completes. -/
def execTStop (u : Fin 2) (s : State) : Host.Outcome State Fault Refusal :=
  s.run fun s => match s.thUnit u.val with
  | none => s
  | some x => if s.now < s.tStopAt x then s else s.theoStop u.val x

/-! ### The kinds -/

/-- `LLT` (R318). -/
def execLlt (u : Fin 2) (s : State) : Host.Outcome State Fault Refusal := s.run fun s => s.thRun u.val 0 State.probDirect

/-- `LDLT` (R318). -/
def execLdlt (u : Fin 2) (s : State) : Host.Outcome State Fault Refusal := s.run fun s => s.thRun u.val 1 State.probDirect

/-- `HOUSEHOLDER_QR` (R318, R328). -/
def execHouseholderQr (u : Fin 2) (s : State) : Host.Outcome State Fault Refusal := s.run fun s => s.thRun u.val 2 State.probDirect

/-- `LU` (R318, R328). -/
def execLu (u : Fin 2) (s : State) : Host.Outcome State Fault Refusal := s.run fun s => s.thRun u.val 3 State.probDirect

/-- `TRIANGULAR_SOLVE` (R318, R330). -/
def execTriangularSolve (u : Fin 2) (s : State) : Host.Outcome State Fault Refusal :=
  s.run fun s => s.thRun u.val 4 State.probDirect

/-- `GAUSS_NEWTON` (R331). -/
def execGaussNewton (u : Fin 2) (iters : Fin 256) (s : State) : Host.Outcome State Fault Refusal :=
  s.run fun s => s.thIterate u.val 5 iters.val gaussStep

/-- `LEVENBERG_MARQUARDT` (R331). -/
def execLevenbergMarquardt (u : Fin 2) (iters : Fin 256) (s : State) : Host.Outcome State Fault Refusal :=
  s.run fun s => s.thIterate u.val 6 iters.val levenbergStep

/-- `PCG` (R331). -/
def execPcg (u : Fin 2) (iters : Fin 256) (s : State) : Host.Outcome State Fault Refusal :=
  s.run fun s => s.thIterate u.val 7 iters.val pcgStep

/-! ### The propagator (R337, R338) -/

/-- The propagator moves to the next IMU sample and writes its pose when one is due (R337). -/
def State.propagate (s : State) (v : Sample) (rest : List Sample) (b : PropBase) : State :=
  let s1 := s.mapTheo fun th => { th with propQ := rest }
  let from_ := match s.deep.th.prop with | some (t, x) => t :: x | none => b.t :: b.x
  let x := propWords (from_ ++ b.bias ++ sampleWords v.t v.vals)
  let rate := [0x13, 0x14, 0x15].map (fun r => (v.role r).getD 0)
  let s2 := s1.mapTheo fun th => { th with prop := some (v.t, x) }
  let due := !s2.talus.accepted || s2.talus.newest + s2.thSet R.PROP_DT * ftUs ≤ v.t
  if !s2.propLive then s2
  else if s2.deep.th.rebase then s2.propWrite b v.t x rate false
  else if due then s2.propWrite b v.t x rate true
  else s2

/-- `PROPAGATOR_SAMPLE` (R337): the oldest accepted sample of `PROP_SLOT` is integrated, and an entry is written when due. -/
def execPropagatorSample (s : State) : Host.Outcome State Fault Refusal :=
  s.run fun s => match s.deep.th.propQ, s.deep.th.base with
  | v :: rest, some b => s.propagate v rest b
  | _, _ => s

/-- `GNSS_ORIGIN_WRITE` (R338): the next pose-ring entry is a `RESET`; the value is in force at the next task start (R342). -/
def execGnssOriginWrite (r : Route) (data : Bytes) (s : State) : Host.Outcome State Fault Refusal := s.run fun s =>
  s.hostWrite r 0x2900 4 data fun s =>
    ((s.wr R.GNSS_ORIGIN (leNat data)).mapTheo fun th => { th with resetDue := true }, 0)

end Sys2Proof.Machine
end

