-- ==== Sys2Proof/Machine/MemCmds.lean ====
section
/-! DEFINITION. Scrubbing, requested passes, the error log, verification of weights, injection (chapter 14). -/
namespace Sys2Proof.Machine

/-! ### Scrubbers (R408 to R410) -/

/-- Store a word back poisoned: the data bits as they were read, the check bits inverted (R403). -/
def State.poisonBack (s : State) (a : Nat) : State :=
  let m := (s.werr a).mask % 2 ^ 128
  (s.setBytes a (xorBytes (s.bytesAt a 16) (toLe 16 m))).setWerr a { mask := 0, poison := true }

/-- A scrubber reads one word and writes it back as R408 gives. -/
def State.scrubWord (s : State) (agent a : Nat) (write : Bool) : State :=
  let o := s.wordOutcome a
  let s1 := s.detectWord a agent o
  if !write then s1
  else match o with
    | .corrected _ => s1.setWerr a { mask := 0, poison := false }
    | .uncorrectable => s1.poisonBack a
    | .mismatch => s1.poisonBack a
    | _ => s1

/-- The addresses of the words a scrubber reads in one slot: 512 bytes of a DRAM channel (R408), 256 bytes of a Plate
half (R409). -/
def scrubBlock (variant k chan pos : Nat) : List Nat :=
  if k = 2 then (List.range 16).map (fun i => 0x11000000000 + chan * 0x800000 + pos + 16 * i)
  else (List.range 32).map (fun i => dramAddr variant k chan (pos + 16 * i))

/-- A scrubber's slot (R408 to R410): its block is read and written back, and the walk moves on; at its end the pass is
counted, timed and reported.
[DEDUCED, log entry 55] -/
def State.scrubSlot (s : State) (k chan upset : Nat) : State :=
  let key := 16 * k + chan
  let pos := smGet (fun _ => 0) s.mem.scrubPos key
  let block := scrubBlock s.variant k chan pos
  let a0 := block.headD 0
  let s0 := if upset = 0 then s else s.setWerr a0 { mask := (s.werr a0).mask ^^^ upset, poison := (s.werr a0).poison }
  let s1 := block.foldl (fun t a => t.scrubWord (0xB000 + k) a true) s0
  let step := if k = 2 then 256 else 512
  let top := if k = 2 then 0x800000 else 0x40000000
  let nxt := if pos + step = top then 0 else pos + step
  let started := smGet (fun _ => 0) s1.mem.scrubStart key
  let m := s1.mem
  let st := if nxt = 0 then smSet (fun _ => 0) m.scrubStart key s1.tclk else m.scrubStart
  let s2 := { s1 with mem := { m with scrubPos := smSet (fun _ => 0) m.scrubPos key nxt, scrubStart := st } }
  let s3 := if chan = 0 then s2.wr (R.SCRUB_POS k) nxt else s2
  if nxt ≠ 0 then s3
  else
    let s4 := s3.wr (R.SCRUB_PASSES k) ((s3.rd (R.SCRUB_PASSES k) + 1) % 2 ^ 32)
    (s4.wr (R.SCRUB_LAST_NS k) (2 * (s4.tclk - started))).event 0x2C01 (0xB000 + k) [(8, k), (8, chan)]

/-- `SCRUBBER_SLOT` (R408, R409): a scrubber works only in slots it owns with `USE` = 3 in the admitted tables, and the
DRAM scrubbers stand still while a verification runs (R418). `upset` are the bits of the block's first word that have
flipped since it was last read.
[DEDUCED, log entry 55] -/
def execScrubberSlot (k : Fin 3) (chan : Fin 16) (upset : BitVec 144) (s : State) : Host.Outcome State Fault Refusal :=
  s.run fun s =>
    if !s.scrubberOwns k.val chan.val || (k.val = 2 && 2 ≤ chan.val) || (k.val = 1 && s.variant = 1) ||
        (k.val < 2 && s.mem.verify ≠ none) || !s.storeOpen (if k.val = 2 then 166 else k.val) then s
    else s.scrubSlot k.val chan.val upset.toNat

/-! ### Requested passes (R411 to R413) -/

/-- The effect of a pass request (R411).
[DEDUCED, log entry 55] -/
def State.scrubReq (s : State) (data : Bytes) : State × Nat :=
  let w := leNat data
  let start := w % 2 ^ 48; let len := w / 2 ^ 64 % 2 ^ 48
  let r := regionOf s.variant start
  let ok := start % 16 = 0 && len % 16 = 0 && 16 ≤ len && 2 ≤ classOf r && classOf r ≤ 4 &&
    regionOf s.variant (start + len - 1) = r
  if !ok then (s, 0x2C81)
  else if 4 ≤ s.mem.passes.length then (s, 0x2C82)
  else
    let m := s.mem
    ({ s with mem := { m with passes := m.passes ++ [{ start := start, len := len, correct := w.testBit 48 }],
                              passStart := if m.passes = [] then s.tclk else m.passStart } }, 0)

/-- `SCRUB_REQ` (R411). -/
def execScrubReq (r : Route) (data : Bytes) (s : State) : Host.Outcome State Fault Refusal :=
  s.run fun s => s.hostWrite r.val 0x2C00 0x0C data fun s => s.scrubReq data

/-- What a pass found so far: words corrected, bad words, first bad address. -/
structure PassTally where
  corrected : Nat
  bad : Nat
  firstBad : Nat
  s : State

/-- One word of a requested pass (R412, R413). -/
def passWord (write : Bool) (t : PassTally) (a : Nat) : PassTally :=
  let o := t.s.wordOutcome a
  let s1 := t.s.scrubWord 0xB003 a write
  match o with
  | .corrected _ => { t with corrected := t.corrected + 1, s := s1 }
  | .uncorrectable => { t with bad := t.bad + 1, firstBad := if t.bad = 0 then a else t.firstBad, s := s1 }
  | .mismatch => { t with bad := t.bad + 1, firstBad := if t.bad = 0 then a else t.firstBad, s := s1 }
  | _ => { t with s := s1 }

/-- The 32-byte summary of a pass (R413). -/
def passSummary (r : PassReq) (checked corrected bad firstBad ns status : Nat) : Nat :=
  status + (min ns maxCount) * 2 ^ 32 + bad * 2 ^ 64 + corrected * 2 ^ 96 + checked * 2 ^ 128 + r.start * 2 ^ 160 +
  firstBad * 2 ^ 208

/-- A requested pass is complete: its words are read in order, the summary and the event follow (R411, R413).
[DEDUCED, log entry 55] -/
def State.endPass (s : State) (r : PassReq) (rest : List PassReq) : State :=
  let ws := (List.range (r.len / 16)).map (fun i => r.start + 16 * i)
  let t := ws.foldl (passWord r.correct) { corrected := 0, bad := 0, firstBad := 0, s := s }
  let s1 := { t.s with mem := { t.s.mem with passes := rest, passStart := t.s.tclk } }
  (s1.wr R.SCRUB_SUM (passSummary r ws.length t.corrected t.bad t.firstBad (2 * (s.tclk - s.mem.passStart)) 0)).event
    0x2C06 0 [(8, 0)]

/-- `SCRUB_PASS_END` (R412, R413): the oldest request's pass has read its whole range. -/
def execScrubPassEnd (s : State) : Host.Outcome State Fault Refusal :=
  s.run fun s => match s.mem.passes with
    | [] => s
    | r :: rest => s.endPass r rest

/-! ### The error log (R414) -/

/-- A read of `ERR_POP`: the head entry, removed; zeros when the log is empty (R414, R415). -/
def State.errPop (s : State) : Bytes × State := match s.mem.errLog with
  | [] => (toLe 32 0, s)
  | e :: rest =>
    (toLe 32 e, { s with mem := { s.mem with errLog := rest, lostSinceEmpty := s.mem.lostSinceEmpty && rest ≠ [] } })

/-- `ERR_POP` (R414). -/
def execErrPop (r : Route) (s : State) : Host.Outcome State Fault Refusal :=
  s.run fun s => s.hostRead r.val 0x2C00 3 32 State.errPop

/-! ### Weights (R417, R418) -/

/-- The effect of a write to `WT_CLEAR` (R418). -/
def State.wtClear (s : State) (id : Nat) : State × Nat :=
  if s.mem.verify ≠ none then (s, 0x2C82)
  else (({ s with mem := { s.mem with verify := some id } }.wr R.WT_VERIFY 1).wr R.WT_STATE 2, 0)

/-- `WT_CLEAR` (R418), served by Keeper. -/
def execWtClear (r : Route) (id : BitVec 16) (s : State) : Host.Outcome State Fault Refusal :=
  s.run fun s => s.hostWrite r.val 0x2C00 7 (toLe 2 id.toNat) fun s =>
    s.deferred r.val 0x2C00 7 (.wtClear id.toNat) fun s => s.wtClear id.toNat

/-- The allocation IDs in `WT_POISON`. -/
def State.wtPoison (s : State) : List Nat :=
  (List.range 16).map (fun i => bitsOf (16 * i + 15) (16 * i) (s.rd R.WT_POISON))

/-- The verification of an allocation is complete: its first poisoned word, or the allocation leaves `WT_POISON` (R418).
[DEDUCED, log entry 55] -/
def State.endVerify (s : State) (id : Nat) : State :=
  let ws := match smGet (fun _ => none) s.allocs id with
    | some a => (List.range (a.size / 16)).map (fun i => a.base + 16 * i)
    | none => []
  let s1 := { s with mem := { s.mem with verify := none } }
  match ws.find? (fun a => (s.wordOutcome a).isPoison) with
  | some a => (s1.wr R.WT_VERIFY (3 + a * 2 ^ 16)).wr R.WT_STATE 1
  | none =>
    let left := s1.wtPoison.map (fun x => if x = id then 0 else x)
    let s2 := ((s1.wr R.WT_VERIFY 2).wr R.WT_POISON (leNat (left.flatMap (fun x => toLe 2 x)))).wr R.WT_STATE 1
    { s2 with mem := { s2.mem with degradedEnds := left.all (fun x => x = 0) } }

/-- `WT_VERIFY_DONE` (R418): every word of the allocation has been read. -/
def execWtVerifyDone (s : State) : Host.Outcome State Fault Refusal :=
  s.run fun s => match s.mem.verify with
    | none => s
    | some id => s.endVerify id

/-- `DEGRADED_END` (R418): at the epoch instant after `WT_POISON` became empty.
[DEDUCED, log entry 55] -/
def execDegradedEnd (s : State) : Host.Outcome State Fault Refusal :=
  s.run fun s =>
    if !s.mem.degradedEnds then s
    else
      let s1 := { s with mem := { s.mem with degradedEnds := false } }.wr R.WT_STATE 0
      (if s1.rd R.DEV_STATE = 3 then s1.setDev 2 else s1).event 0x2C04 0 []

/-! ### Injection (R419) -/

/-- The own check of a commit of `FLIP_MASK`: 18 bytes (R460 refuses another length at the shadow). -/
def flipMaskCheck (_ : Bytes) (_ : State) : Nat := 0

/-- The effect of a committed `FLIP_MASK` (R419): the mask is armed. -/
def flipMaskApply (cls : Nat) (v : Bytes) (s : State) : State :=
  (s.wr (R.FLIP_MASK cls) (leNat v)).wr (R.FLIP_ARMED cls) 1

/-- `FLIP_MASK` (R419). -/
def execFlipMask (r : Route) (cls : Fin 12) (cr : CommitRec) (s : State) : Host.Outcome State Fault Refusal :=
  s.run fun s => s.commit r.val (0x2C10 + cls.val) 1 cr flipMaskCheck (flipMaskApply cls.val)

end Sys2Proof.Machine
end

