-- ==== Sys2Proof/Machine/PowerCmds.lean ====
section
/-! DEFINITION. Power domains, clock and environment detectors, Keeper's restarts (chapters 18 and 19). -/
namespace Sys2Proof.Machine

/-! ### Power domains (R526 to R528) -/

/-- The domains a domain needs directly (R526). -/
def domainNeeds (d : Nat) : List Nat :=
  if d = 9 then [8, 10]
  else if 22 ≤ d && d ≤ 29 then [18 + (d - 22) / 2]
  else if d = 4 || d = 5 then [30, 10]
  else if 6 ≤ d && d ≤ 31 && d ≠ 10 && d ≠ 11 && d ≠ 12 then [10]
  else if d = 10 then [11]
  else []

/-- A request to switch on or off names a domain its "Switched by" cell allows on that route (R526). -/
def domainSwitchable (on : Bool) (route d : Nat) : Bool :=
  (6 ≤ d && d ≤ 9) || (14 ≤ d && d ≤ 29) || d = 31 || (d = 13 && !on && 2 ≤ route)

/-- The owners of cairns and queues that live in a domain (R360). -/
def domainOwners (d : Nat) : List Nat :=
  if d = 6 then [0x1000] else if d = 7 then [0x3000] else if d = 8 then [0x4000] else if d = 9 then [0x4001]
  else if d = 13 then [0x7000, 0x7001]
  else if 22 ≤ d && d ≤ 29 then (List.range 4).map (fun i => 4 * (4 * (d - 22) + i))
  else []

/-- The stores that lie in a domain. -/
def domainStores (d : Nat) : List Nat := (List.range 169).filter (fun n => domainOfStore n = d)

/-- Passes over a store whose domain switches off end with status 2 (R413). -/
def State.endPassesOf (s : State) (n : Nat) : State :=
  let p := fun (r : PassReq) => storeOf (regionOf s.variant r.start) = n
  if !s.mem.passes.any p then s
  else
    let s1 := { s with mem := { s.mem with passes := s.mem.passes.filter (fun r => !p r) } }
    match s.mem.passes.find? p with
    | some r => (s1.wr R.SCRUB_SUM (r.start * 2 ^ 160 + 2)).event 0x2C06 0 [(8, 2)]
    | none => s1

/-- A domain switches off (R407, R413, R528): its stores close and lose their contents, its cairns are poisoned, its
entries read their reset values.
[DEDUCED, log entry 13] -/
def State.domainOff (s : State) (d : Nat) : State :=
  let s1 := (s.wr R.PD_STATE (clearBit (s.rd R.PD_STATE) d)).event 0x3001 0 [(8, d), (8, 0)]
  let s2 := (domainStores d).foldl (fun t n => (t.endPassesOf n).clearStore n) s1
  let s3 := (domainOwners d).foldl State.ownerReset s2
  { s3 with dict := smDrop (fun k => domainOfIndex (k / 256) = d) s3.dict }

/-- The state entries of a domain's units once it is on: spurs, Astrograph and Theodolite units are IDLE;
Sentinel begins its self-test when both its domains are on (R165, R526). -/
def State.unitsIdle (s : State) (d : Nat) : State :=
  if 22 ≤ d && d ≤ 29 then
    (List.range 16).foldl (fun t i => t.wr (R.SPUR_STATE (16 * (d - 22) + i)) 1) s
  else if d = 7 then s.wr R.AG_STATE 1
  else if d = 8 then s.wr (R.TH_STATE 0) 1
  else if d = 9 then s.wr (R.TH_STATE 1) 1
  else if (d = 4 || d = 5) && s.pdOn 4 && s.pdOn 5 && s.rd R.SNT_STATE = 0 && s.deep.tt.loaded then
    (s.wr R.SNT_STATE 1).mapSnt fun n => { n with selfTest := true }
  else s

/-- A domain has finished switching on (R527). -/
def State.domainOn (s : State) (d : Nat) : State :=
  let s1 := (domainStores d).foldl (fun t n => if t.storeOpen n || n < 2 || n = 168 then t else t.openStore n) s
  ((s1.wr R.PD_STATE (setBit (s1.rd R.PD_STATE) d)).event 0x3001 0 [(8, d), (8, 1)]).unitsIdle d

/-- The domains of a mask and all they need, until nothing is added (four levels suffice). -/
def withNeeds (ds : List Nat) : List Nat :=
  let step := fun (l : List Nat) => l ++ ((l.flatMap domainNeeds).filter (fun d => !l.contains d)).eraseDups
  step (step (step (step ds)))

/-- The refusal of a `PD_ON` or `PD_OFF` request and the domain it names; 0 when it is accepted (R526, R527, R537).
[DEDUCED, log entries 51, 59] -/
def State.pdReason (s : State) (on : Bool) (route mask other : Nat) : Nat × Nat :=
  let ds := bitsSet 32 mask
  if !s.keeperUp then (0x2009, 0)
  else if other ≠ 0 then (0x2004, (bitsSet 32 (mask &&& other)).headD (ds.headD 0))
  else match ds.find? (fun d => !(pdAvail s.variant).testBit d) with
    | some d => (0x2005, d)
    | none => match ds.find? (fun d => !domainSwitchable on route d) with
      | some d => (0x3002, d)
      | none =>
        if on then (0, 0)
        else match ds.find? (fun d => s.power.usedDomains.testBit d ||
            (List.range 32).any (fun e => s.pdOn e && !ds.contains e && (domainNeeds e).contains d)) with
          | some d => (0x3001, d)
          | none => (0, 0)

/-- A refused switch (R527). -/
def State.pdRefused (s : State) (reason d : Nat) : State :=
  (s.wr R.PD_ERR d).event 0x3002 0 [(8, d), (16, reason)]

/-- The effect of `PD_ON` (R527): the domains and those they need start switching. `other` is `PD_OFF` of the same NCLK
cycle.
[DEDUCED, log entry 59] -/
def State.pdOnReq (s : State) (r mask other : Nat) : State × Nat :=
  let (c, d) := s.pdReason true r mask other
  if c ≠ 0 then (s.pdRefused c d, c)
  else
    let ds := (withNeeds (bitsSet 32 mask)).filter (fun d => !s.pdOn d && !s.power.switching.contains d)
    ({ s with power := { s.power with switching := s.power.switching ++ ds } }, 0)

/-- The effect of `PD_OFF` (R527): the domains switch off; one that is still switching on does so when that is complete.
[DEDUCED, log entry 59] -/
def State.pdOffReq (s : State) (r mask other : Nat) : State × Nat :=
  let (c, d) := s.pdReason false r mask other
  if c ≠ 0 then (s.pdRefused c d, c)
  else
    let ds := bitsSet 32 mask
    let s1 := (ds.filter (fun d => s.pdOn d)).foldl State.domainOff s
    ({ s1 with power := { s1.power with
        offPending := s1.power.offPending ++ ds.filter (fun d => s.power.switching.contains d) } }, 0)

/-- `PD_ON` (R527). -/
def execPdOn (r : Route) (mask other : BitVec 32) (s : State) : Host.Outcome State Fault Refusal :=
  s.run fun s => s.hostWrite r.val 0x3000 2 (toLe 4 mask.toNat) fun s => s.pdOnReq r.val mask.toNat other.toNat

/-- `PD_OFF` (R527). -/
def execPdOff (r : Route) (mask other : BitVec 32) (s : State) : Host.Outcome State Fault Refusal :=
  s.run fun s => s.hostWrite r.val 0x3000 3 (toLe 4 mask.toNat) fun s => s.pdOffReq r.val mask.toNat other.toNat

/-- The domain is on; an off request that waited for it is carried out. -/
def State.switchDone (s : State) (d : Nat) : State :=
  let s1 := { s with power := { s.power with switching := s.power.switching.filter (fun e => e ≠ d) } }.domainOn d
  if s1.power.offPending.contains d then
    { s1 with power := { s1.power with offPending := s1.power.offPending.filter (fun e => e ≠ d) } }.domainOff d
  else s1

/-- `DOMAIN_SWITCH_DONE` (R527): a switching domain is on; an off request that waited for it takes effect. -/
def execDomainSwitchDone (pd : Fin 32) (s : State) : Host.Outcome State Fault Refusal :=
  s.run fun s => if !s.power.switching.contains pd.val then s else s.switchDone pd.val

/-! ### Clocks and environment (R531 to R534, R552) -/

/-- A condition of R534 is present: ENV_HOLD shows it, and the event marks its start.
[DEDUCED, log entry 59] -/
def State.envCondition (s : State) (bit : Nat) : State :=
  let s1 := s.wr R.ENV_HOLD (setBit (s.rd R.ENV_HOLD) bit)
  if s.rd R.ENV_HOLD = 0 then s1.event 0x3004 0 [(8, 0)] else s1

/-- Every queued or started deferred request aborts with `KEEPER_RESTART` (R476). -/
def State.abortDeferred (s : State) : State :=
  let rs := (s.routes.queue.map (fun e => (e.1, e.2.1))) ++ (match s.routes.started with | some e => [(e.1, e.2.1)] | none => [])
  let s1 := rs.foldl (fun t e => t.defRefuse e.1 e.2 0x200D) s
  let s2 := match s1.dome.waitCommit, s.routes.started with
    | some w, none => s1.refuse w.1 0x2E10 4 0x200D
    | _, _ => s1
  { s2 with routes := { s2.routes with queue := [], started := none }, dome := { s2.dome with waitCommit := none } }

/-- Keeper is held in reset: R476 and the poison of R512. -/
def State.keeperHold (s : State) : State :=
  ({ s with diag := { s.diag with keeperHeld := true } }.abortDeferred).ownerReset 0x6000

/-- `CLOCK_OUT_OF_RANGE` (R534): D005 on ACLK, NCLK, MCLK, THCLK or KCLK; TCLK is the reference and SNCLK is D022's. -/
def execClockOutOfRange (clk : Fin 7) (s : State) : Host.Outcome State Fault Refusal :=
  s.run fun s =>
    let k := clk.val
    if k = 3 || k = 4 then s
    else
      let s1 := ((s.wr R.CLK_FAULT (setBit (s.rd R.CLK_FAULT) k)).injHere 5 k |>.detect 5 0 [(8, k)]).envCondition 0
      if k = 6 then s1.keeperHold else s1.deepAbortAll

/-- `XTAL25_FAULT` (R534): D006. -/
def execXtal25Fault (s : State) : Host.Outcome State Fault Refusal :=
  s.run fun s =>
    let s1 := ((s.injHere 6 0).detect 6 0 []).envCondition 1
    (({ s1 with power := { s1.power with refInternal := true } }.merHoldover).enterSafe).deepAbortAll

/-- A temperature sample: `TJ_NOW`, and the peak. -/
def State.sampleTj (s : State) (t : Int) : State :=
  let s1 := s.wr R.TJ_NOW (ofSgn 16 t)
  if s.rdI 16 R.TJ_PEAK < t then s1.wr R.TJ_PEAK (ofSgn 16 t) else s1

/-- `TJ_WARN_EXCEEDED` (R513, R552): D007 when the sample is above `TJ_WARN`. -/
def execTjWarnExceeded (temp : Int) (s : State) : Host.Outcome State Fault Refusal :=
  s.run fun s =>
    let t := if s.injArmed 7 0 then temp + 40 else temp
    let s1 := (s.injHere 7 0).sampleTj t
    if s.rdI 16 R.TJ_WARN < t then s1.detect 7 0 [] else s1

/-- `OVER_TEMPERATURE` (R534): D008 when the sample is above 125 °C. -/
def execOverTemperature (temp : Int) (s : State) : Host.Outcome State Fault Refusal :=
  s.run fun s =>
    let t := if s.injArmed 8 0 then temp + 40 else temp
    let s1 := (s.injHere 8 0).sampleTj t
    if t ≤ 125 then s1
    else
      let s2 := (s1.detect 8 0 []).envCondition 2
      ({ s2 with power := { s2.power with clkStopped := true } }.enterSafe).deepAbortAll

/-- `SUPPLY_OUT_OF_WINDOW` (R531, R534): D009 on a rail of R529, in table order without `VPP_FUSE`. -/
def execSupplyOutOfWindow (rail : Fin 8) (s : State) : Host.Outcome State Fault Refusal :=
  s.run fun s =>
    ((((s.injHere 9 0).wr R.VMON_FLT (setBit (s.rd R.VMON_FLT) rail.val)).detect 9 0 [(8, rail.val)]).envCondition 3).enterSafe.deepAbortAll

/-- `VMON_FLT_CLEAR` (R531). -/
def execVmonFltClear (rail : Fin 8) (s : State) : Host.Outcome State Fault Refusal :=
  s.run fun s => s.wr R.VMON_FLT (clearBit (s.rd R.VMON_FLT) rail.val)

/-- `ENV_HOLD_END` (R534).
[DEDUCED, log entry 59] -/
def execEnvHoldEnd (s : State) : Host.Outcome State Fault Refusal :=
  s.run fun s =>
    if s.rd R.ENV_HOLD = 0 then s
    else
      let s1 := ((s.wr R.ENV_HOLD 0).wr R.CLK_FAULT 0).event 0x3004 0 [(8, 1)]
      { s1 with power := { s1.power with clkStopped := false, refInternal := false },
                diag := { s1.diag with keeperHeld := s1.diag.keeperHeld && (s1.rd R.FAULT_CAUSE).testBit 4 } }.deepResume

/-! ### Keeper's restarts and fatal detectors (R490, R511 to R513) -/

/-- The first steps of R512: Keeper is held, deferred requests abort, its cairns are poisoned, the restart is counted
and reported. -/
def State.keeperDown (s : State) : State :=
  let s1 := s.keeperHold
  let s2 := s1.wr R.KEEPER_RESTARTS (s1.rd R.KEEPER_RESTARTS + 1)
  ({ s2 with diag := { s2.diag with restarts := s2.diag.restarts.filter (fun t => s2.tclk < t + 60 * tclkSec) ++ [s2.tclk] } }).event
    0x2F78 0 []

/-- `KEEPER_LOCKSTEP_MISMATCH` (R512): D001. -/
def execKeeperLockstepMismatch (s : State) : Host.Outcome State Fault Refusal :=
  s.run fun s => if !s.keeperUp then s else ((s.injHere 1 0).detect 1 0x6000 []).keeperDown

/-- `KEEPER_WATCHDOG` (R512): D002. -/
def execKeeperWatchdog (s : State) : Host.Outcome State Fault Refusal :=
  s.run fun s => if !s.keeperUp then s else ((s.injHere 2 0).detect 2 0x6000 []).keeperDown

/-- `KEEPER_MACHINE_CHECK` (R512): D003. -/
def execKeeperMachineCheck (s : State) : Host.Outcome State Fault Refusal :=
  s.run fun s => if !s.keeperUp then s else ((s.injHere 3 0).detect 3 0x6000 []).keeperDown

/-- `KEEPER_RESTART` (R512): after the digest check Keeper runs again; a digest failure, or a fourth restart within
60 s, is D004, and Keeper stays in reset. -/
def execKeeperRestart (digestOk : Bool) (s : State) : Host.Outcome State Fault Refusal :=
  s.run fun s =>
    if !s.diag.keeperHeld || !s.diag.keeperRun || (s.rd R.CLK_FAULT).testBit 6 || (s.rd R.FAULT_CAUSE).testBit 4 then s
    else if !digestOk || 4 ≤ s.diag.restarts.length || s.injArmed 4 0 then
      (((s.injHere 4 0).detect 4 0x6000 []).wr R.FAULT_CAUSE (setBit (s.rd R.FAULT_CAUSE) 4)).failDevice
    else { s with diag := { s.diag with keeperHeld := false } }

/-- `DRAM_STACK_FAILURE` (R513): D016 names the stack; the device enters FAILED_REPLACE. -/
def execDramStackFailure (stack : Fin 2) (s : State) : Host.Outcome State Fault Refusal :=
  s.run fun s => if s.variant = 1 && stack.val = 1 then s else ((s.injHere 16 stack.val).detect 16 0 [(8, stack.val)]).failDevice

/-- `TRNG_HEALTH_FAIL` (R490): D071; challenges, quotes and reseeds are then refused or skipped. -/
def execTrngHealthFail (s : State) : Host.Outcome State Fault Refusal :=
  s.run fun s => ((s.injHere 71 0).wr R.DOME_FLT (setBit (s.rd R.DOME_FLT) 1)).detect 71 0 []

end Sys2Proof.Machine
end

