-- ==== Sys2Proof/Machine/QueueCmds.lean ====
section
/-! DEFINITION. The commands of the queues (chapter 13). -/
namespace Sys2Proof.Machine

/-! ### Push and pop -/

/-- `Q_PUSH` (R383 to R386): a write anywhere in the push window. -/
def execQPush (q : Fin 256) (agent : BitVec 16) (data : Bytes) (poison : Bool) (s : State) : Host.Outcome State Fault Refusal :=
  s.run fun s =>
    if agent.toNat / 4096 = 7 then
      s.hostWrite (agent.toNat % 4096 % 4) (0x2B00 + q.val) 0x20 data fun s => (s.qPush q.val agent.toNat data poison, 0)
    else s.qPush q.val agent.toNat data poison

/-- The device address of a queue's pop window (R9, R383). -/
def popWindow (q : Nat) : Nat := 0x20000000000 + (0x2B00 + q) * 2048 + 0x40 * 8

/-- Words are taken for a waiting pop, or its wait goes on from now.
[DEDUCED, log entry 46] -/
def State.popServe (s : State) (q : Nat) (w : PopWait) : State :=
  let (d, p, s1) := qTakeN q w.agent w.words s
  let got := w.got ++ d
  let left := w.words - d.length / 8
  let x := s1.queue q
  if left = 0 then (s1.setQueue q { x with wait := none }).popDone q w.agent got (w.poison || p)
  else s1.setQueue q { x with wait := some { w with words := left, got := got, poison := w.poison || p, since := s1.tclk } }

/-! ### Producer and consumer controls (R384, R387, R388, R394 (b)) -/

/-- A write of `v` to a control entry by an agent: a foreign agent is ignored and counted; 0 does nothing.
[DEDUCED, log entry 46] -/
def State.qControl (s : State) (q agent sub : Nat) (v : Bool) (declared : Nat) (f : State → State) : State :=
  let act := fun (t : State) =>
    if !t.qEnabled q then t else if !agentMatches declared agent then t.qForeign q agent else if v then f t else t
  if agent / 4096 = 7 then
    s.hostWrite (agent % 4096 % 4) (0x2B00 + q) sub (toLe 1 (boolNat v)) fun t => (act t, 0)
  else act s

/-- MP ← RP. -/
def State.qMark (s : State) (q : Nat) : State := let x := s.queue q; s.setQueue q { x with mp := x.rp }

/-- RP ← MP. -/
def State.qRewind (s : State) (q : Nat) : State := let x := s.queue q; s.setQueue q { x with rp := x.mp }

/-- LP ← RP and MP ← RP. -/
def State.qRelease (s : State) (q : Nat) : State := let x := s.queue q; s.setQueue q { x with lp := x.rp, mp := x.rp }

/-- `Q_COMMIT` (R387). -/
def execQCommit (q : Fin 256) (agent : BitVec 16) (v : Bool) (s : State) : Host.Outcome State Fault Refusal :=
  s.run fun s => s.qControl q.val agent.toNat 0x0B v (s.rd (R.Q_PROD q.val)) fun t => t.qCommit q.val

/-- `Q_ABORT` (R387). -/
def execQAbort (q : Fin 256) (agent : BitVec 16) (v : Bool) (s : State) : Host.Outcome State Fault Refusal :=
  s.run fun s => s.qControl q.val agent.toNat 0x0C v (s.rd (R.Q_PROD q.val)) fun t => t.qAbort q.val

/-- `Q_MARK` (R388). -/
def execQMark (q : Fin 256) (agent : BitVec 16) (v : Bool) (s : State) : Host.Outcome State Fault Refusal :=
  s.run fun s => s.qControl q.val agent.toNat 0x0D v (s.rd (R.Q_CONS q.val)) fun t => t.qMark q.val

/-- `Q_REWIND` (R388). -/
def execQRewind (q : Fin 256) (agent : BitVec 16) (v : Bool) (s : State) : Host.Outcome State Fault Refusal :=
  s.run fun s => s.qControl q.val agent.toNat 0x0E v (s.rd (R.Q_CONS q.val)) fun t => t.qRewind q.val

/-- `Q_RELEASE` (R388). -/
def execQRelease (q : Fin 256) (agent : BitVec 16) (v : Bool) (s : State) : Host.Outcome State Fault Refusal :=
  s.run fun s => s.qControl q.val agent.toNat 0x0F v (s.rd (R.Q_CONS q.val)) fun t => t.qRelease q.val

/-! ### Flush, peak, pointer mismatch -/

/-- `Q_FLUSH`'s own check: the queue is privileged (R391). -/
def qFlushCheck (q : Nat) (v : Bytes) (_ : State) : Nat := if q < 248 then 0x2B01 else if leNat v ≤ 1 then 0 else 0x2004

/-- `Q_FLUSH`'s effect (R391). -/
def qFlushApply (q : Nat) (v : Bytes) (s : State) : State := if leNat v = 1 then s.qFlush q else s

/-- `Q_FLUSH` (R391). -/
def execQFlush (r : Route) (q : Fin 256) (cr : CommitRec) (s : State) : Host.Outcome State Fault Refusal :=
  s.run fun s => s.commit r.val (0x2B00 + q.val) 0x10 cr (qFlushCheck q.val) (qFlushApply q.val)

/-- A read of `Q_PEAK` (R393): the peak starts again at the present `Q_HELD`. -/
def State.qPeakRead (s : State) (q : Nat) : Bytes × State := (toLe 4 (s.rd (R.Q_PEAK q)), s.wr (R.Q_PEAK q) (s.qHeld q))

/-- `Q_PEAK` (R393). -/
def execQPeak (r : Route) (q : Fin 256) (s : State) : Host.Outcome State Fault Refusal :=
  s.run fun s => s.hostRead r.val (0x2B00 + q.val) 9 4 fun s => s.qPeakRead q.val

end Sys2Proof.Machine
end

