-- ==== Sys2Proof/Machine/Views.lean ====
section
/-! DEFINITION. What a read of a dictionary entry returns and what it does (R8, R459 to R463, R473, R474): entries that show
other state, entries that a read clears, pops. -/
namespace Sys2Proof.Machine

/-! ### Entry information (R460, R474) -/

/-- The code of a type (R460). -/
def EType.code : EType → Nat
  | .bool => 1 | .i8 => 2 | .i16 => 3 | .i32 => 4 | .u8 => 5 | .u16 => 6 | .u32 => 7 | .real32 => 8 | .str => 9
  | .domain => 0xF | .real64 => 0x11 | .i64 => 0x15 | .u64 => 0x1B

/-- The code of an access (R474). -/
def Access.code : Access → Nat
  | .ro => 0 | .rw => 1 | .wo => 2 | .rc => 3 | .w1c => 4 | .cw => 5 | .const => 6

/-- The row of an entry, with the count at sub 0 of an index that has one (R459).
[DEDUCED, log entry 50] -/
def entryInfo (idx sub : Nat) : Option EntryRow :=
  match entryOf idx sub with
  | some e => some e
  | none =>
    if sub = 0 && subCount idx ≠ 0 then some ⟨idx, 1, 0, 0, .u8, 1, 1, .const, subCount idx, none, false, false⟩ else none

/-- `EI_VIEW` for a selection (R474).
[DEDUCED, log entry 50] -/
def eiView (variant sel : Nat) : Nat :=
  let idx := sel / 65536
  let sub := bitsOf 15 8 sel
  match entryInfo idx sub with
  | none => 0
  | some e =>
    e.len * 2 ^ 48 + (if e.window then e.hi else sub) * 2 ^ 40 + e.typ.code * 2 ^ 16 + e.acc.code * 2 ^ 8 +
      4 * boolNat e.window + 2 * boolNat (entryDeferred idx sub) + boolNat (resourcePresent variant idx sub)

/-! ### Entries that show other state -/

/-- The order code (R1).
[DESIGN CHOICE, log entry 4] -/
def orderCode (variant : Nat) : Bytes :=
  asciiBytes (if variant = 1 then "KF9680-M1-E" else if variant = 2 then "KF9680-M2-E" else "KF9680-M2X-E")

/-- `SW_VERSION`, free: 1 to 64 bytes.
[DEDUCED, log entry 50] -/
def swVersionBytes : Bytes := toLe (1 + Config.swVersion % 64) (Config.swVersion / 64)

/-- `ERROR_REG` (R485). -/
def State.errorReg (s : State) : Nat :=
  boolNat (s.faultCause ≠ 0) + 16 * boolNat (s.siu.canPassive.testBit (s.rd R.USDO_PORT)) +
    128 * boolNat (s.rd R.DEV_STATE = 3 || s.rd R.DEV_STATE = 4)

/-- A queued, started or waiting request is the route's: how many there are (`R_PEND`, R485). -/
def State.routePend (s : State) (r : Nat) : Nat :=
  (s.routes.queue.filter (fun e => e.1 = r)).length + boolNat (match s.routes.started with | some e => e.1 = r | none => false) +
    boolNat (s.routes.started = none && (match s.dome.waitCommit with | some e => e.1 = r | none => false))

/-- `R_SHADOW` (R477). -/
def State.shadowView (s : State) (r : Nat) : Nat := match s.shadow r with
  | some (k, _) => k / 256 * 65536 + k % 256 * 256
  | none => 0

/-- The 2,048 bytes of a route's buffer (R472). -/
def State.dwBytes (s : State) (r : Nat) : Bytes := padTo 2048 (smGet (fun _ => []) s.routes.dwBuf r)

/-- `KEY_INFO` (R502): scope, generation and state of each key. -/
def State.keyInfo (s : State) : Bytes :=
  (List.range 8).flatMap (fun k => let x := s.cmdKey k; toLe 4 x.scope ++ toLe 4 x.gen ++ toLe 4 x.st)

/-- The key store as a number: the keys, as their wrapping takes them. -/
def State.keyStoreArg (s : State) : Nat :=
  leNat ((List.range 8).flatMap (fun k => let x := s.cmdKey k; padTo 32 x.key ++ toLe 4 x.scope ++ toLe 4 x.gen ++ toLe 1 x.st))

/-- Rows (or columns) that fuses have repaired on a stack (R423). -/
def fuseCount (m : SMap Nat) (stack : Nat) : Nat := ((m.filter (fun e => e.1 / 256 % 2 = stack)).map (fun e => e.2)).foldl (· + ·) 0

/-- The words of queue memory given to enabled queues (R394). -/
def State.qmUsed (s : State) : Nat :=
  ((List.range 256).map (fun q => if s.qEnabled q then s.qWords q else 0)).foldl (· + ·) 0

/-- The views of chapters 13 and 14. -/
def State.viewQueue (s : State) (idx sub : Nat) : Option Bytes :=
  let q := idx - 0x2B00
  match sub with
  | 0x07 => some (toLe 4 (s.qCount q))
  | 0x08 => some (toLe 4 (s.qHeld q))
  | 0x11 => some (toLe 24 (s.qPtrs q))
  | 0x15 => some (toLe 4 (s.qFree q))
  | 0x82 => some (toLe 4 s.qmUsed)
  | _ => none

/-- The views of Dome (R502). -/
def State.viewDome (s : State) (idx sub : Nat) : Option Bytes :=
  if 0x2E04 ≤ idx && idx ≤ 0x2E07 then
    let f := s.fuseSlot (idx - 0x2E04)
    match sub with
    | 1 => some (padTo 57 f.pub)
    | 2 => some (toLe 1 f.use)
    | 3 => some (toLe 1 (boolNat f.revoked))
    | _ => none
  else match idx, sub with
    | 0x2E00, 0x04 => some (toLe 4 s.nv.romVer)
    | 0x2E00, 0x07 => some (edPublic s.idSeed)
    | 0x2E00, 0x08 => some (toLe 114 s.nv.idCert)
    | 0x2E00, 0x09 => some ((List.range 64).map (fun i => BitVec.ofNat 8 (s.rollback i)))
    | 0x2E01, 0x03 => some s.keyInfo
    | 0x2E01, 0x04 => some (toLe 512 (Config.wrapKeyStore s.keyStoreArg))
    | _, _ => none

/-- The views of the dictionary's own entries (R485). -/
def State.viewRoutes (s : State) (idx sub : Nat) : Option Bytes :=
  if 0x2010 ≤ idx && idx ≤ 0x2013 then
    match sub with
    | 5 => some (toLe 1 (s.routePend (idx - 0x2010)))
    | 6 => some (toLe 4 (s.shadowView (idx - 0x2010)))
    | 0x0B => some (toLe 8 (eiView s.variant (s.rd (R.EI_SEL (idx - 0x2010)))))
    | _ => none
  else if 0x2014 ≤ idx && idx ≤ 0x2017 then some ((s.dwBytes (idx - 0x2014)).drop (8 * sub))
  else match idx, sub with
    | 0x1001, 0 => some (toLe 1 s.errorReg)
    | 0x1008, 0 => some (orderCode s.variant)
    | 0x1009, 0 => some (asciiBytes "B0")
    | 0x100A, 0 => some swVersionBytes
    | 0x1018, 1 => some (toLe 4 s.nv.vendorId)
    | 0x1018, 2 => some (toLe 4 0x9680)
    | 0x1018, 3 => some (toLe 4 0xB0)
    | 0x1018, 4 => some (toLe 4 s.nv.serial)
    | 0x2000, 2 => some (toLe 1 s.variant)
    | 0x2000, 4 => some (toLe 16 s.nv.uid)
    | 0x2001, 2 => some (toLe 1 s.routes.queue.length)
    | _, _ => none

/-- `SAFE_DRV` (R159, R542): the copies assert for the verdict of their latest result, PD00 for what a copy cannot assert for;
through `SAFE_HOLD` some of the three hold the pin.
[DEDUCED, log entry 28] -/
def State.safeDrv (s : State) : Nat :=
  if !s.snt.safeN then 0
  else
    let bad := match s.snt.lastVerdict with
      | none => false
      | some v => v = 3 || (s.sntVal R.SAFE_MASK).testBit v
    let d := boolNat (bad && s.pdOn 4) + 2 * boolNat (bad && s.pdOn 5) +
      4 * boolNat (s.snt.lastVerdict = none || !s.pdOn 4 || !s.pdOn 5 || s.rd R.SNT_STATE ≠ 2 || s.replaying)
    if d = 0 then 1 + Config.holdDrv % 7 else d

/-- The views of the other units. -/
def State.viewUnits (s : State) (idx sub : Nat) : Option Bytes :=
  if 0x2110 ≤ idx && idx ≤ 0x211F && sub = 0x0B then some (toLe 1 (s.stamps (idx - 0x2110)).length)
  else if 0x2C01 ≤ idx && idx ≤ 0x2C02 && sub = 4 then some (toLe 2 (fuseCount s.nv.fuseRows (idx - 0x2C01)))
  else if 0x2C01 ≤ idx && idx ≤ 0x2C02 && sub = 5 then some (toLe 2 (fuseCount s.nv.fuseCols (idx - 0x2C01)))
  else if 0x2C58 ≤ idx && idx ≤ 0x2C5B && sub = 4 then some (toLe 64 ((s.descWord (s.rd (R.R_SEL (idx - 0x2C58)))).getD 0))
  else match idx, sub with
    | 0x2100, 0x02 => some (toLe 16 s.nowWord)
    | 0x2700, 0x05 => some (toLe 1 s.almPendView)
    | 0x2700, 0x12 => some (toLe 128 (s.memHdr 0))
    | 0x2700, 0x13 => some (toLe 128 (s.memHdr 1))
    | 0x2800, 0x08 => some (toLe 32 (capDev s.variant))
    | 0x2800, 0x0E => some (toLe 16 s.sbView)
    | 0x2A00, 0x0B => some (toLe 64 (s.cairnWord (s.rd R.CV_SEL)))
    | 0x2A00, 0x0D => some (toLe 16 (s.waiterWord (s.rd R.WV_SEL)))
    | 0x2C00, 0x04 => some (toLe 1 s.mem.errLog.length)
    | 0x2C00, 0x0B => some (toLe 128 (leNat (s.mem.cand.flatMap (fun e => toLe 8 e))))
    | 0x2C00, 0x0E => some (toLe 1 s.mem.passes.length)
    | 0x2D00, 0x04 => some (toLe 8 s.nv.pcieIds)
    | 0x2D00, 0x07 => some (toLe 1 (boolNat s.hostLive))
    | 0x2F00, 0x02 => some (toLe 2 s.diag.log.length)
    | 0x2F00, 0x0B => some (toLe 1 s.faultCause)
    | 0x3000, 0x04 => some (toLe 4 (pdAvail s.variant))
    | 0x3100, 0x01 => some (toLe 1 (boolNat s.snt.safeN))
    | 0x3100, 0x02 => some (toLe 1 s.safeDrv)
    | 0x3100, 0x03 => some (toLe 1 (boolNat (s.faultCause ≠ 0)))
    | 0x3100, 0x04 => some (toLe 1 (boolNat s.snt.hb))
    | _, _ => none

/-- The view that an entry is, where it shows other state than its own. -/
def State.viewOf (s : State) (idx sub : Nat) : Option Bytes :=
  if 0x2B00 ≤ idx && idx ≤ 0x2BFF then s.viewQueue idx sub
  else if 0x2E00 ≤ idx && idx ≤ 0x2E0F then s.viewDome idx sub
  else if 0x5000 ≤ idx && idx ≤ 0x5FFF then some (s.obj idx)
  else if idx < 0x2020 then s.viewRoutes idx sub
  else s.viewUnits idx sub

/-- The bytes of an entry: a WO entry reads 0 (R8), one of a unit that is off its reset value (R463); an object shorter than
its least length is filled with zeros.
[DEDUCED, log entry 50] -/
def State.entryBytes (s : State) (idx sub : Nat) : Bytes := match entryInfo idx sub with
  | none => []
  | some e =>
    if e.acc = .wo then List.replicate e.len 0
    else if !s.entryPowered idx then toLe e.len (regDefault (entryKey idx sub))
    else if (entryOf idx sub).isNone then toLe 1 e.dflt
    else match s.viewOf idx sub with
      | some b => b ++ List.replicate (e.minLen - b.length) 0
      | none => toLe e.len (s.rd (entryKey idx sub))

/-! ### Reads with an effect (R8, R384, R390, R393) -/

/-- The number of points waiting in the ingress buffer that holds most (R85). -/
def State.bufLevel (s : State) : Nat := max s.siu.fifoS.length s.siu.fifoT.length

/-- What a read of an RC entry leaves (R8): 0, or for a peak the level it tracks. -/
def State.rcLeaves (s : State) (k : Nat) : Nat :=
  if k = 0x226002 then s.bufLevel
  else if k = R.WAITERS_PEAK then s.rd R.WAITERS_USED
  else if k = R.TJ_PEAK then s.rd R.TJ_NOW
  else if k / 65536 = 0x2B && k % 256 = 9 then s.qHeld (k / 256 - 0x2B00)
  else 0

/-- What a read of an entry delivers: the reason of a refusal or 0, the bytes, poison, the state after. -/
structure ReadAns where
  reason : Nat
  data : Bytes
  poison : Bool
  s : State

/-- A pop of `n` words by a host route that does not wait: markers for what is missing (R384, R390). -/
def State.hostPop (s : State) (q agent n : Nat) : ReadAns :=
  if !s.qEnabled q then ⟨0, markers n, false, s⟩
  else if !agentMatches (s.rd (R.Q_CONS q)) agent then ⟨0, markers n, false, s.qForeign q agent⟩
  else
    let (d, p, s1) := qTakeN q agent n s
    ⟨0, d ++ markers (n - d.length / 8), p, if p then s1.qStat q 3 else s1⟩

/-- The effect of a read of an entry with its data, on route `r`.
[DEDUCED, log entry 46] -/
def State.readEffect (s : State) (r idx sub : Nat) : ReadAns :=
  let pop := fun (x : Bytes × State) => (⟨0, x.1, false, x.2⟩ : ReadAns)
  if 0x2B00 ≤ idx && idx ≤ 0x2BFF && 0x40 ≤ sub && sub ≤ 0x5F then s.hostPop (idx - 0x2B00) (0x7000 + r) (0x60 - sub)
  else if 0x2110 ≤ idx && idx ≤ 0x211F && sub = 0x0A then pop (s.tsPop (idx - 0x2110))
  else if idx = 0x2C00 && sub = 3 then pop s.errPop
  else if idx = 0x2F00 && sub = 1 then pop s.evtPop
  else if idx = 0x2D20 && sub = 8 then pop (toLe 8 0, s.mapHost fun h => { h with readAhead := [] })
  else
    let d := s.entryBytes idx sub
    match entryOf idx sub with
    | some e =>
      if e.acc = .rc && s.entryPowered idx then
        ⟨0, d, false, s.wr (entryKey idx sub) (s.rcLeaves (entryKey idx sub))⟩
      else ⟨0, d, false, s⟩
    | none => ⟨0, d, false, s⟩

/-- A read of an entry on a route (R461, R463, R467): its checks, then its value and effect. -/
def State.readEntry (s : State) (r idx sub : Nat) : ReadAns :=
  let c := s.readReason idx sub
  if c ≠ 0 then ⟨c, [], false, s⟩ else s.readEffect r idx sub

end Sys2Proof.Machine
end

