-- ==== Sys2Proof/Machine/Writes.lean ====
section
/-! DEFINITION. What a write of a dictionary entry does, and what a commit of a CW entry checks and does: one dispatcher of
each over every entry (R8, R461, R472, R477, R480, R485). -/
namespace Sys2Proof.Machine

/-! ### Settings that wait (R485 note (a)) -/

/-- The route whose idleness a setting waits for, if it waits: `NODE_ID`, `USDO_PORT`, `USDO_EN` for route 2, `UDP_EN`,
`UDP_ALLOW` for route 3. -/
def settingRoute (k : Nat) : Option Nat :=
  if k = R.NODE_ID || k = R.USDO_PORT || k = R.USDO_EN then some 2
  else if k = R.UDP_EN || k = R.UDP_ALLOW then some 3
  else none

/-- Route 2 is idle while no USDO session is open, route 3 while no UDP request is being processed. -/
def State.routeIdle (s : State) (r : Nat) : Bool := !s.routeBusy r && (r ≠ 2 || s.routes.usdo = none)

/-- Write such a setting: at once when its route is idle, otherwise it waits. -/
def State.setSetting (s : State) (k r v : Nat) : State :=
  if s.routeIdle r then s.wr k v
  else { s with routes := { s.routes with pendSettings := smSet (fun _ => 0) s.routes.pendSettings k (v + 1) } }

/-- The settings that waited for a route take effect once it is idle.
[DEDUCED, log entry 53] -/
def State.applySettings (s : State) : State :=
  s.routes.pendSettings.foldl (fun t e => match settingRoute e.1 with
    | some r =>
      if t.routeIdle r then
        { t.wr e.1 (e.2 - 1) with routes := { t.routes with pendSettings := smSet (fun _ => 0) t.routes.pendSettings e.1 0 } }
      else t
    | none => t) s

/-! ### Commits: the target's own check and effect (R480) -/

/-- The own check of a committed value by its target. -/
def commitCheck (idx sub : Nat) (v : Bytes) (s : State) : Nat :=
  if idx = 0x2100 then restepCheck v s
  else if idx = 0x2500 then sntRestartCheck v s
  else if idx = 0x2700 then s.almSwitchCheck v
  else if 0x2B00 ≤ idx && idx ≤ 0x2BFF then qFlushCheck (idx - 0x2B00) v s
  else if idx = 0x2DA0 then (if sub = 5 then mapSelCheck v s else if sub = 4 then peerAdmitCheck v s else 0)
  else if idx = 0x2E00 then rbAdvCheck v s
  else if 0x2E04 ≤ idx && idx ≤ 0x2E07 then fkRevokeCheck (idx - 0x2E04) v s
  else if idx = 0x2F00 then injReqCheck v s
  else if idx = 0x2F70 then rpGoCheck v s
  else if idx = 0x3000 then swResetCheck v s
  else 0

/-- What the boot meets at a reset that a commit record through the commit window starts: free.
[DEDUCED, log entry 54] -/
def State.drawEnv (s : State) : BootEnv × State :=
  let (n, s1) := s.draw
  ({ hostBoot := n.testBit 0, fuseOk := n.testBit 1, pufOk := n.testBit 2, trngOk := n.testBit 3, flashOk := n.testBit 4 }, s1)

/-- The effect of a committed value.
[DEDUCED, log entry 54] -/
def commitApply (idx sub : Nat) (v : Bytes) (s : State) : State :=
  if idx = 0x2100 then restepApply v s
  else if idx = 0x2500 then sntRestartApply v s
  else if idx = 0x2700 then s.almSwitchApply v
  else if 0x2B00 ≤ idx && idx ≤ 0x2BFF then qFlushApply (idx - 0x2B00) v s
  else if 0x2C10 ≤ idx && idx ≤ 0x2C1B && sub = 1 then flipMaskApply (idx - 0x2C10) v s
  else if idx = 0x2DA0 && sub = 5 then mapSelApply v s
  else if idx = 0x2DA0 && sub = 4 then peerAdmitApply v s
  else if idx = 0x2E00 then rbAdvApply v s
  else if 0x2E04 ≤ idx && idx ≤ 0x2E07 then fkRevokeApply (idx - 0x2E04) v s
  else if idx = 0x2F00 then injReqApply v s
  else if idx = 0x2F70 then rpGoApply v s
  else if idx = 0x3000 then (let (env, s1) := s.drawEnv; swResetApply env v s1)
  else keyApply (entryKey idx sub) v s

/-! ### Windows (R383, R472, R478, R494) -/

/-- A write into a route's buffer from cell `sub` (R472). -/
def State.dwFill (s : State) (r sub : Nat) (data : Bytes) : State :=
  let old := s.dwBytes r
  let new := old.take (8 * sub) ++ data ++ old.drop (8 * sub + data.length)
  { s with routes := { s.routes with dwBuf := smSet (fun _ => []) s.routes.dwBuf r (new.take 2048) } }

/-- A write into the staging area through `BOOT_CHUNK` (R494). -/
def State.stageChunk (s : State) (sub : Nat) (data : Bytes) : State × Nat :=
  if s.diag.keeperRun then (s, 0x2E09)
  else
    let base := s.rd R.BOOT_OFF + 8 * (sub - 0x40)
    let cells := (List.range data.length).foldl (fun m i =>
      if base + i < 2097152 then smSet (fun _ => (0 : Byte)) m (base + i) (data.getD i 0) else m) s.dome.staging
    ({ s with dome := { s.dome with staging := cells } }, 0)

/-- Keeper's queue takes a request (R475).
[DEDUCED, log entries 9, 14] -/
def State.enqueue (s : State) (r idx sub : Nat) (req : DefReq) : State × Nat :=
  if 64 ≤ s.routes.queue.length then (s.event 0x2001 0 [(8, r), (24, entryArg idx sub)], 0x200B)
  else ({ s with routes := { s.routes with queue := s.routes.queue ++ [(r, req, s.tclk)] } }, queuedReason)

/-- The 32 bytes of the commit window (R478).
[DEDUCED, log entry 54] -/
def State.commitCells (s : State) : Nat :=
  let c := fun (k : Nat) => s.rd (entryKey 0x2E10 k)
  c 1 + c 2 * 2 ^ 64 + c 3 * 2 ^ 128 + c 4 * 2 ^ 192

/-- The fields of a commit record (R478): its target's index and subindex, and the rest. -/
def commitFields (w : Nat) : Nat × Nat × CommitRec :=
  (bitsOf 31 16 w, bitsOf 15 8 w,
   { tag := BitVec.ofNat 128 (w / 2 ^ 128), counter := BitVec.ofNat 64 (w / 2 ^ 64), keyId := BitVec.ofNat 8 (w / 2 ^ 56),
     rsvd := BitVec.ofNat 32 (bitsOf 55 32 w + (w % 256) * 2 ^ 24) })

/-- A write into the commit window from cell `sub`; the record is processed when cell 4 is written.
[DEDUCED, log entry 54] -/
def State.commitWindow (s : State) (r sub : Nat) (data : Bytes) : State × Nat :=
  let s1 := (List.range (data.length / 8)).foldl (fun t i => t.wr (entryKey 0x2E10 (sub + i)) (leAt data (8 * i) 8)) s
  if sub + data.length / 8 < 5 then (s1, 0)
  else
    let f := commitFields s1.commitCells
    s1.enqueue r 0x2E10 4 (.commit f.1 f.2.1 f.2.2)

/-! ### Read-ahead (R433) -/

/-- `INC` of `DP_CTRL`. -/
def State.dpInc (s : State) : Int := sgnOf 16 (s.rd R.DP_CTRL / 65536)

/-- The address `k` words further on along `INC`. -/
def dpStep (a : Nat) (inc : Int) (k : Nat) : Nat := (((a : Int) + inc * (k : Int)) % (2 ^ 64 : Nat)).toNat

/-- A word that read-ahead may fetch: local memory the port has slots for; it stops at dictionary space. -/
def State.mayFetch (s : State) (a : Nat) : Bool :=
  s.isLocal a && classOf (regionOf s.variant (localPart a)) ≠ 12 && s.accStatus (localPart a) 8 = .ok &&
    s.hasSlots 0x7001 (localPart a) false

/-- Fetch `n` more words from `a`; a poisoned word is kept as no bytes. -/
def fetchWords (inc : Int) : Nat → Nat → State → State
  | 0, _, s => s
  | n + 1, a, s =>
    if !s.mayFetch a then s
    else
      let r := s.readMem 0x7001 (localPart a) 8
      fetchWords inc n (dpStep a inc 1)
        { r.s with host := { r.s.host with readAhead := r.s.host.readAhead ++ [(a, if r.poison then [] else r.data)] } }

/-- The port fetches ahead from `DP_ADDR`: how many of the words `BURST` allows is free.
[DEDUCED, log entry 52] -/
def State.fetchAhead (s : State) : State :=
  let c := s.rd R.DP_CTRL
  let b := bitsOf 15 6 c
  if c.testBit 4 || b = 0 then s
  else
    let (v, s1) := s.draw
    let have_ := s1.host.readAhead.length
    fetchWords s1.dpInc (v % (b + 1) - have_) (dpStep (s1.rd R.DP_ADDR) s1.dpInc have_) s1

/-! ### Writes -/

/-- A write that only stores its value.
[DEDUCED, log entry 51] -/
def State.plainWrite (s : State) (idx sub : Nat) (data : Bytes) : State × Nat :=
  (s.wr (entryKey idx sub) (keepFields idx sub (leNat data)), 0)

/-- Writes of indexes 0x2000 to 0x22FF (R44, R46, R65, R83, R472, R485). -/
def State.writeLow (s : State) (idx sub : Nat) (data : Bytes) : State × Nat :=
  let v := leNat data
  if idx = 0x2001 then match settingRoute (entryKey idx sub) with
    | some r => (s.setSetting (entryKey idx sub) r v, 0)
    | none => s.plainWrite idx sub data
  else if 0x2014 ≤ idx && idx ≤ 0x2017 then (s.dwFill (idx - 0x2014) sub data, 0)
  else if idx = 0x2100 then
    if sub = 4 then s.rateWrite v
    else if sub = 5 then (s.servoEnable v, 0)
    else if sub = 6 || sub = 0x13 || sub = 0x14 || sub = 0x15 then ((s.plainWrite idx sub data).1.reselect, 0)
    else s.plainWrite idx sub data
  else if 0x2110 ≤ idx && idx ≤ 0x211F && sub = 1 then ((s.plainWrite idx sub data).1.reselect, 0)
  else if 0x2120 ≤ idx && idx ≤ 0x212F then
    if sub = 1 then ((s.plainWrite idx sub data).1.tioArm (idx - 0x2120) false, 0)
    else if 2 ≤ sub && sub ≤ 4 then s.tioWrite (idx - 0x2120) sub data
    else s.plainWrite idx sub data
  else if 0x2200 ≤ idx && idx ≤ 0x225F && sub = 1 then s.enableSlot (idx - 0x2200) (v = 1)
  else s.plainWrite idx sub data

/-- A write of one of a queue's entries by a host route (R383, R387, R388, R394 (b), R395). -/
def State.writeQueue (s : State) (r q sub : Nat) (data : Bytes) : State :=
  let agent := 0x7000 + r
  let on := leNat data = 1
  let act := fun (declared : Nat) (f : State → State) =>
    if !s.qEnabled q then s else if !agentMatches declared agent then s.qForeign q agent else if on then f s else s
  if 0x20 ≤ sub && sub ≤ 0x3F then s.qPush q agent data false
  else if sub = 0x0A then s.w1c (R.Q_STAT q) (leNat data)
  else if sub = 0x0B then act (s.rd (R.Q_PROD q)) fun t => t.qCommit q
  else if sub = 0x0C then act (s.rd (R.Q_PROD q)) fun t => t.qAbort q
  else if sub = 0x0D then act (s.rd (R.Q_CONS q)) fun t => t.qMark q
  else if sub = 0x0E then act (s.rd (R.Q_CONS q)) fun t => t.qRewind q
  else act (s.rd (R.Q_CONS q)) fun t => t.qRelease q

/-- Writes of indexes 0x2500 to 0x2AFF (R146, R149, R166, R251, R282, R338, R364, R367). -/
def State.writeMid (s : State) (r idx sub : Nat) (data : Bytes) : State × Nat :=
  let v := leNat data
  if idx = 0x2500 then
    if sub = 0x0E then (s.w1c R.SUSPECT_MASK v, 0)
    else if sub = 0x17 then (s.sntWrite R.SAFE_MASK (setBit v 3), 0)
    else (s.sntWrite (entryKey idx sub) v, 0)
  else if idx = 0x2510 && sub = 1 then (s.mapSnt fun n => { n with corData := data }, 0)
  else if idx = 0x2510 && sub = 2 then (if v = 1 then s.corCommit else (s, 0))
  else if idx = 0x2700 && sub = 8 then (if v = 1 then s.almCloneRun else (s, 0))
  else if idx = 0x2800 && sub = 2 then (if v = 1 then s.imgLoad else (s, 0))
  else if idx = 0x2900 && sub = 4 then ((s.plainWrite idx sub data).1.mapTheo fun th => { th with resetDue := true }, 0)
  else if idx = 0x2A00 && sub = 0x0E then s.claim r v
  else if idx = 0x2A00 && sub = 0x0F then s.unclaim r v
  else if 0x2A04 ≤ idx && idx ≤ 0x2A07 && sub = 1 then s.hwReq (idx - 0x2A04) data
  else if 0x2A04 ≤ idx && idx ≤ 0x2A07 && sub = 3 then (if v = 1 then s.hwCancel (idx - 0x2A04) else s, 0)
  else s.plainWrite idx sub data

/-- Writes of indexes 0x2C00 to 0x2DFF (R200, R204, R209, R215, R216, R411, R418, R432, R437, R440, R441, R452). -/
def State.writeHigh (s : State) (r idx sub : Nat) (data : Bytes) : State × Nat :=
  let v := leNat data
  if idx = 0x2C00 then
    if sub = 7 then s.wtClear v else if sub = 0x0C then s.scrubReq data else s.plainWrite idx sub data
  else if idx = 0x2C30 then (if sub = 1 then s.allocNewReq r data else s.allocFreeReq r v)
  else if idx = 0x2C40 then (if sub = 1 then s.descNewReq r data else s.descFreeReq r v)
  else if idx = 0x2C50 then (if sub = 1 then s.copyNewReq r data else s.copyFreeReq v)
  else if idx = 0x2D00 && sub = 5 then (if v = 1 then s.hostBeat else s, 0)
  else if idx = 0x2D20 && (sub = 1 || sub = 2) then
    (((s.plainWrite idx sub data).1.mapHost fun h => { h with readAhead := [] }).fetchAhead, 0)
  else if 0x2D40 ≤ idx && idx ≤ 0x2D7F then
    if s.rd (R.DMA_MODE (idx - 0x2D40)) = 0 then (s, 0x2007)
    else if sub = 8 then s.dmaTail (idx - 0x2D40) v
    else if sub = 9 then s.dmaResetReq (idx - 0x2D40) (v = 1)
    else s.plainWrite idx sub data
  else s.plainWrite idx sub data

/-- Writes of indexes 0x2E00 to 0x3FFF (R494, R496 to R501, R506, R510, R516, R522, R527). -/
def State.writeTop (s : State) (r idx sub : Nat) (data : Bytes) : State × Nat :=
  let v := leNat data
  if idx = 0x2E00 then
    if sub = 0x0C then (if v = 1 then s.bootGo else (s, 0))
    else if 0x40 ≤ sub then s.stageChunk sub data
    else if s.diag.keeperRun then (s, 0x2E09)
    else s.plainWrite idx sub data
  else if idx = 0x2E01 then s.keyEnv data
  else if idx = 0x2E02 && sub = 9 then (s.extendMr 7 data, 0)
  else if idx = 0x2E02 && sub = 0x0B then (if v = 1 then s.attGo else (s, 0))
  else if idx = 0x2E03 && sub = 2 then s.jtagReq v
  else if idx = 0x2E03 && sub = 4 then s.jtagResp data
  else if idx = 0x2E10 then s.commitWindow r sub data
  else if idx = 0x2F00 && sub = 0x0B then (s.w1c R.FAULT_CAUSE (v &&& 0x20), 0)
  else if 0x2F40 ≤ idx && idx ≤ 0x2F51 then
    let w := keepFields idx sub v
    (s.wr (entryKey idx sub) (if idx = 0x2F4F && detListed sub then w % 2 ^ 13 + detRoute sub else w), 0)
  else if idx = 0x2F60 && sub = 1 then s.lbEnable v
  else if idx = 0x2F70 && sub = 2 then s.rpStop v
  else if idx = 0x3000 && sub = 2 then s.pdOnReq r v 0
  else if idx = 0x3000 && sub = 3 then s.pdOffReq r v 0
  else s.plainWrite idx sub data

/-- The effect of a write of an entry on route `r`, after its checks; it answers a reason of its own or 0. -/
def State.applyWrite (s : State) (r idx sub : Nat) (data : Bytes) : State × Nat :=
  if isAlm idx then s.almWrite idx data
  else if idx < 0x2300 then s.writeLow idx sub data
  else if 0x2B00 ≤ idx && idx ≤ 0x2BFF then (s.writeQueue r (idx - 0x2B00) sub data, 0)
  else if idx < 0x2B00 then s.writeMid r idx sub data
  else if idx < 0x2E00 then s.writeHigh r idx sub data
  else s.writeTop r idx sub data

/-! ### A write request (R465, R467, R475, R477) -/

/-- An entry is CW. -/
def isCw (idx sub : Nat) : Bool := match entryOf idx sub with
  | some e => e.acc = .cw
  | none => false

/-- A write of a CW entry goes to the route's shadow and changes nothing in effect (R477). -/
def State.shadowWrite (s : State) (r idx sub : Nat) (data : Bytes) : State × Nat :=
  let c := s.writeReason idx sub data
  if c ≠ 0 then (s, c) else (s.setShadow r (some (entryKey idx sub, data)), 0)

/-- A write is served by Keeper: every deferred entry, but for the commit window, which joins Keeper's queue itself. -/
def goesToKeeper (idx sub : Nat) : Bool := idx ≠ 0x2E10 && entryDeferred idx sub

/-- A dictionary write that took effect is recorded (R516, R518). -/
def State.lbWrite (s : State) (r idx sub : Nat) (data : Bytes) : State :=
  s.lbRecord (0x7000 + r) 0x10 (toLe 2 idx ++ toLe 1 sub ++ toLe 2 data.length ++ data)

/-- A write request on route `r`, up to its reason; `queuedReason` when Keeper has it. `req` is what Keeper's queue holds of
it. -/
def State.writeEntry (s : State) (r idx sub : Nat) (data : Bytes) (req : DefReq) : State × Nat :=
  if isCw idx sub then s.shadowWrite r idx sub data
  else
    let c := s.writeReason idx sub data
    if c ≠ 0 then (s, c)
    else if goesToKeeper idx sub then s.enqueue r idx sub req
    else
      let (s1, c1) := s.applyWrite r idx sub data
      (if c1 = 0 then s1.lbWrite r idx sub data else s1, c1)

/-- The route's registers and its answer after a request that only writes (R467). -/
def State.answer (s : State) (r idx sub c : Nat) : State :=
  if c = queuedReason then s else if c ≠ 0 then s.refuse r idx sub c else s.succeed r

end Sys2Proof.Machine
end

