-- ==== Sys2Proof/Machine/RouteOps.lean ====
section
/-! DEFINITION. Requests on the routes as a whole: the domain buffer's `DW_GO`, deferred requests and their answers (R467, R470,
R471, R473, R475). -/
namespace Sys2Proof.Machine

/-! ### The domain buffer (R473) -/

/-- `DW_LEN` lies within the length of a DOMAIN or VISIBLE_STRING entry. -/
def dwLenOk (e : EntryRow) (sub n : Nat) : Bool :=
  (e.typ = .domain || e.typ = .str) &&
    (if e.window then 0 < n && n % 8 = 0 && n ≤ 8 * (e.hi + 1 - sub) else e.minLen ≤ n && n ≤ e.len)

/-- A read into buffer `k` has delivered its data. -/
def State.dwTake (s : State) (k : Nat) (data : Bytes) : State := (s.dwFill k 0 data).wr (R.DW_LEN k) data.length

/-- The effect of a write of `v` to `DW_GO` of buffer `k`, carried on route `r`.
[DEDUCED, log entry 50] -/
def State.dwGo (s : State) (r k v : Nat) : State × Nat :=
  let idx := s.rd (R.DW_TARGET k) / 65536
  let sub := bitsOf 15 8 (s.rd (R.DW_TARGET k))
  let n := s.rd (R.DW_LEN k)
  match entryInfo idx sub with
  | none => (s, 0x2001)
  | some e =>
    if !dwLenOk e sub n then (s, 0x2003)
    else if v = 2 then
      let d := (s.dwBytes k).take n
      s.writeEntry r idx sub d (.dwWrite k idx sub d)
    else if s.readReason idx sub ≠ 0 then (s, s.readReason idx sub)
    else if entryDeferred idx sub then s.enqueue r (0x2010 + k) 9 (.dwRead k idx sub)
    else
      let a := s.readEntry r idx sub
      (if a.reason = 0 then a.s.dwTake k a.data else a.s, a.reason)

/-- Any write request on route `r`: `DW_GO` acts on its target, every other entry on itself.
[DEDUCED, log entry 50] -/
def State.reqWrite (s : State) (r idx sub : Nat) (data : Bytes) (req : DefReq) : State × Nat :=
  if 0x2010 ≤ idx && idx ≤ 0x2013 && sub = 9 then
    let c := s.writeReason idx sub data
    if c ≠ 0 then (s, c) else s.dwGo r (idx - 0x2010) (leNat data)
  else s.writeEntry r idx sub data req

/-- A write request with its answer, on a route whose turn it is (R465, R467). -/
def State.routeWrite (s : State) (r idx sub : Nat) (data : Bytes) : State :=
  if !s.routeUp r || s.routeBusy r then s
  else
    let (s1, c) := s.reqWrite r idx sub data (.write idx sub data)
    (s1.answer r idx sub c).applySettings

/-! ### Deferred requests (R475) -/

/-- A deferred request that writes an entry: the entry and the value. -/
def DefReq.asWrite : DefReq → Option (Nat × Nat × Bytes)
  | .write i b d => some (i, b, d)
  | .dwRead _ _ _ => none
  | .dwWrite _ i b d => some (i, b, d)
  | .usdoRead _ _ => none
  | .cellRead _ _ _ _ => none
  | .udpRead _ => none
  | .allocNew d => some (0x2C30, 1, d)
  | .allocFree id => some (0x2C30, 2, toLe 2 id)
  | .descNew d => some (0x2C40, 1, d)
  | .descFree h => some (0x2C40, 2, toLe 4 h)
  | .copyNew d => some (0x2C50, 1, d)
  | .copyFree id => some (0x2C50, 2, toLe 2 id)
  | .imgLoad => some (0x2800, 2, toLe 1 1)
  | .almClone => some (0x2700, 8, toLe 1 1)
  | .wtClear id => some (0x2C00, 7, toLe 2 id)
  | .commit _ _ _ => none

/-- A deferred request that reads an entry. -/
def DefReq.asRead : DefReq → Option (Nat × Nat)
  | .dwRead _ i b => some (i, b)
  | .usdoRead i b => some (i, b)
  | .cellRead i b _ _ => some (i, b)
  | .udpRead q => some (q.index.toNat, q.sub.toNat)
  | _ => none

/-- Keeper carries out a deferred request of route `r`. -/
def State.runDef (s : State) (r : Nat) (req : DefReq) : ReadAns :=
  match req.asWrite with
  | some (i, b, d) =>
    let (s1, c) := s.applyWrite r i b d
    ⟨c, [], false, if c = 0 then s1.lbWrite r i b d else s1⟩
  | none => match req.asRead with
    | some (i, b) => s.readEntry r i b
    | none => match req with
      | .commit i b cr => let (s1, c) := s.commitRun r i b cr (commitCheck i b) (commitApply i b); ⟨c, [], false, s1⟩
      | _ => ⟨0, [], false, s⟩

/-- A cell's 8 bytes from an entry's bytes: the entry itself, the cells of a window, or the length of a long entry (R461). -/
def cellBytes (idx sub : Nat) (b : Bytes) : Bytes := match entryInfo idx sub with
  | some e => if 8 < e.len && !e.window then toLe 8 b.length else padTo 8 b
  | none => toLe 8 0

/-- A request of Keeper's queue has been served: its answer on its route (R467, R470). -/
def State.defReply (s : State) (r : Nat) (req : DefReq) (a : ReadAns) : State :=
  if a.reason ≠ 0 then s.defRefuse r req a.reason
  else match req with
    | .usdoRead _ _ => s.readReply r a.data a.poison
    | .udpRead q =>
      if 1440 < a.data.length then s.defRefuse r req 0x2003 else (s.wr (R.R_REASON r) 0).udpAnswer q 0x81 0 a.data
    | .dwRead k _ _ => ((s.dwTake k a.data).succeed r).udpEnd r 0
    | .cellRead i b lo n => match s.host.dpRun with
      | some x => (s.wr (R.R_REASON r) 0).mapHost fun h =>
          { h with dpRun := some { x with got := x.got ++ slice (cellBytes i b a.data) lo n, poison := x.poison || a.poison } }
      | none => s
    | _ => (s.succeed r).udpEnd r 0

end Sys2Proof.Machine
end

