-- ==== Sys2Proof/Machine/DpOps.lean ====
section
/-! DEFINITION. The data port and the burst aperture (R431 to R435, R461, R462): one access as a list of words, each word's way
to memory, to a queue window, to the dictionary or to another device. -/
namespace Sys2Proof.Machine

/-- How one word of an access comes out: data for the reader, no data (a write, or a read whose answer another device will
send), a failed read; or the access waits, before this word or after it. -/
inductive DpOut where
  | data (d : Bytes) (poison : Bool)
  | skip | bad | hold | later
deriving DecidableEq, Repr

/-- `DP_ERR` and `DP_ERR_ADDR` (R435).
[DEDUCED, log entries 42, 52] -/
def State.dpErr (s : State) (code a : Nat) : State := (s.wr R.DP_ERR code).wr R.DP_ERR_ADDR a

/-- The read and the write of a failed word. -/
def dpFailed (it : DpItem) : DpOut := if it.data = none then .bad else .skip

/-- The index of an address of dictionary space, its subindex and the byte in its cell (R461). -/
def cellPlace (a : Nat) : Nat × Nat × Nat :=
  let o := localPart a - 0x20000000000
  (o / 2048, o % 2048 / 8, o % 8)

/-- An address of this device's dictionary space. -/
def State.inDict (s : State) (a : Nat) : Bool := s.isLocal a && regionOf s.variant (localPart a) = .dictSpace

/-- An access that a cell takes (R462): 4 or 8 bytes, aligned; more in whole cells of a push window. -/
def cellSized (a n : Nat) : Bool :=
  (n = 4 && a % 4 = 0) || (n = 8 && a % 8 = 0) || (a % 8 = 0 && n % 8 = 0 && 0 < n && (windowQueue true (localPart a)).isSome)

/-- Change the data port's latch (R462). -/
def State.setLatch (s : State) (v : Option (Nat × Bytes)) : State := { s with routes := { s.routes with latch := v } }

/-- A refusal of a word in dictionary space (R467). -/
def State.cellRefused (s : State) (it : DpItem) (idx sub c : Nat) : DpOut × State :=
  let s1 := s.refuse 1 idx sub c
  if it.data ≠ none then (.skip, s1)
  else if c = 0x2001 || c = 0x2005 || c = 0x2003 then (.bad, s1)
  else (.data (List.replicate it.len 0) false, s1)

/-- A read of a cell by the data port (R461 to R463, R467). The route's own entries change none of its registers. -/
def State.cellRead (s : State) (it : DpItem) (idx sub lo : Nat) : DpOut × State :=
  let own := idx = 0x2011
  let ok := fun (t : State) => if own then t else t.wr (R.R_REASON 1) 0
  let key := entryKey idx sub
  let s0 := s.setLatch none
  let c := s.readReason idx sub
  if c ≠ 0 then s0.cellRefused it idx sub c
  else if lo = 4 && s.routes.latch.any (fun x => x.1 = key) then
    (.data ((s.routes.latch.map (fun x => x.2)).getD []) false, ok s0)
  else if entryDeferred idx sub then
    let (s1, c1) := s0.enqueue 1 idx sub (.cellRead idx sub lo it.len)
    if c1 = queuedReason then (.later, s1) else s1.cellRefused it idx sub c1
  else
    let long := match entryInfo idx sub with
      | some e => 8 < e.len && !e.window
      | none => false
    let a := if long || lo = 4 then (⟨0, s0.entryBytes idx sub, false, s0⟩ : ReadAns) else s0.readEntry 1 idx sub
    let cell := cellBytes idx sub a.data
    let s1 := ok a.s
    (.data (slice cell lo it.len) a.poison, if lo = 0 && it.len = 4 then s1.setLatch (some (key, cell.drop 4)) else s1)

/-- A write of a cell by the data port (R461, R462, R467). -/
def State.cellWrite (s : State) (it : DpItem) (idx sub lo : Nat) (d : Bytes) : DpOut × State :=
  let s0 := s.setLatch none
  let put := fun (v : Bytes) =>
    let (s1, c) := s0.reqWrite 1 idx sub v (.write idx sub v)
    (DpOut.skip, (s1.answer 1 idx sub c).applySettings)
  match entryOf idx sub with
  | none => put d
  | some e =>
    if e.window then (if d.length % 8 = 0 then put d else s0.cellRefused it idx sub 0x2003)
    else if 8 < e.len || (d.length = 4 && 4 < e.len) then s0.cellRefused it idx sub 0x2003
    else if lo = 4 then
      (let c := s0.writeReason idx sub (List.replicate e.len 0)
       if c ≠ 0 && c ≠ 0x2004 then s0.cellRefused it idx sub c else (.skip, s0.succeed 1))
    else put (d.take e.len)

/-- One word in dictionary space: a pop, or a cell in its turn (R383, R390, R461, R465). -/
def State.dpDict (s : State) (ended : Bool) (it : DpItem) : DpOut × State :=
  let (idx, sub, lo) := cellPlace it.addr
  if !cellSized it.addr it.len then s.cellRefused it idx sub 0x2003
  else match it.data, windowQueue false (localPart it.addr) with
    | none, some q =>
      if it.len ≠ 8 then s.cellRefused it idx sub 0x2003
      else if ended || !s.qEnabled q then (.data emptyMarker false, s)
      else if !agentMatches (s.rd (R.Q_CONS q)) 0x7001 then (.data emptyMarker false, s.qForeign q 0x7001)
      else if s.qCount q = 0 then
        (.hold, s.setQueue q { s.queue q with wait := some { agent := 0x7001, words := 1, got := [], poison := false,
                                                             since := s.tclk } })
      else
        let (d, p, s1) := s.qTake q 0x7001
        (.data d p, (if p then s1.qStat q 3 else s1).wr (R.R_REASON 1) 0)
    | none, none => if s.routeBusy 1 && idx ≠ 0x2011 then (.hold, s) else s.cellRead it idx sub lo
    | some d, _ => if s.routeBusy 1 then (.hold, s) else s.cellWrite it idx sub lo d

/-- The port owns the slots that an access of another device needs: on the Col link to it. -/
def State.hasLinkSlots (s : State) (a : Nat) (write : Bool) : Bool := match s.linkTo (bitsOf 47 45 a) with
  | some l => s.ownsSlot (0x300 + l) 0x7001 write
  | none => true

/-- One word at another device (R435, R448): its answer, when it is read, comes with `COL_READ_RESPONSE`.
[DEDUCED, log entry 52] -/
def State.dpRemote (s : State) (it : DpItem) : DpOut × State :=
  let fail := fun (t : State) => (dpFailed it, t.dpErr 3 it.addr)
  if !s.hasLinkSlots it.addr it.data.isSome then (dpFailed it, s.dpErr 2 it.addr)
  else match it.data with
    | some d =>
      let (ok, s1) := s.remoteWrite 0x7001 it.addr d false
      if ok then (.skip, s1) else fail s1
    | none =>
      if !s.reachable (bitsOf 47 45 it.addr) then fail (s.bump R.REMOTE_FAIL)
      else
        let tag := s.freeTag
        let a : RemoteAcc := { tag := tag, agent := 0x7001, write := false, addr := it.addr, len := it.len, dest := 0,
                               start := s.tclk }
        (.skip, (s.mapHost fun h => { h with remote := h.remote ++ [a] }).readFlits 0x7001 it.addr it.len tag)

/-- A data-port write is recorded: to the cairn page as such, elsewhere while `LB_DP` = 1 (R516, R518).
[DEDUCED, log entry 52] -/
def State.lbHostData (s : State) (a : Nat) (d : Bytes) : State :=
  if s.isLocal a && regionOf s.variant (localPart a) = .cairnStore then
    s.lbRecord 0x7001 0x12 (toLe 4 (localPart a - 0x21000000000) ++ d)
  else if s.rd R.LB_DP = 1 then s.lbRecord 0x7001 0x13 (toLe 8 a ++ d)
  else s

/-- One word in local memory (R416, R435). -/
def State.dpLocal (s : State) (it : DpItem) : DpOut × State :=
  let code := if s.accStatus (localPart it.addr) it.len = .notInit then 5 else 4
  if !s.hasSlots 0x7001 (localPart it.addr) it.data.isSome then (dpFailed it, s.dpErr 2 it.addr)
  else match it.data with
    | some d =>
      let (st, s1) := s.devWrite 0x7001 it.addr d false
      if st = .ok then (.skip, s1.lbHostData it.addr d) else (.skip, s1.dpErr code it.addr)
    | none =>
      let r := s.devRead 0x7001 it.addr it.len none
      if r.st ≠ .ok then (.bad, r.s.dpErr code it.addr)
      else (.data r.data r.poison, if r.poison then r.s.dpErr 6 it.addr else r.s)

/-- One word of an access. Live writes are refused in replay (R521). -/
def State.dpItem (s : State) (ended : Bool) (it : DpItem) : DpOut × State :=
  if s.inDict it.addr then s.dpDict ended it
  else if it.data.isSome && s.replaying then (.skip, s.refuse 1 0 0 0x2008)
  else if s.isLocal it.addr then s.dpLocal it
  else s.dpRemote it

/-- The access is complete: a read's data goes to the host, with Unsupported Request status when a word failed.
[DEDUCED, log entry 52] -/
def State.dpFinish (s : State) (run : DpRun) : State :=
  let s1 := s.mapHost fun h => { h with dpRun := none }
  if run.bad then s1.emit (.hostRead 1 false false [])
  else if run.got = [] then s1
  else s1.emit (.hostRead 1 true run.poison run.got)

/-- Carry an access on, word after word. -/
def dpGo : List DpItem → DpRun → State → State
  | [], run, s => s.dpFinish run
  | it :: t, run, s => match s.dpItem run.ended it with
    | (.data d p, s1) => dpGo t { run with got := run.got ++ d, poison := run.poison || p } s1
    | (.skip, s1) => dpGo t run s1
    | (.bad, s1) => dpGo t { run with bad := true } s1
    | (.hold, s1) => s1.mapHost fun h => { h with dpRun := some { run with left := it :: t } }
    | (.later, s1) => s1.mapHost fun h => { h with dpRun := some { run with left := t } }

/-- A pop of the data port waits on some queue. -/
def State.dpPopWaits (s : State) : Bool :=
  s.queues.any (fun e => match e.2.wait with | some w => w.agent = 0x7001 | none => false)

/-- The access in progress goes on when nothing holds it any more. -/
def State.dpResume (s : State) : State := match s.host.dpRun with
  | some run => if s.dpPopWaits || s.routeBusy 1 then s else dpGo run.left run s
  | none => s

/-- An earlier access of the data port still waits. -/
def State.dpWaits (s : State) : Bool := s.host.dpRun.isSome

/-- Start an access: `got` is what read-ahead has of it. An earlier access that still waits comes first (R434). -/
def State.dpAccess (s : State) (items : List DpItem) (got : Bytes) (poison : Bool) : State :=
  dpGo items { left := [], got := got, poison := poison, ended := false, bad := false } s

/-- Consecutive words of a write into one queue's push window are one push (R383). -/
def mergePush : List DpItem → List DpItem
  | [] => []
  | a :: t => match a.data, mergePush t with
    | some d, b :: t2 => match b.data with
      | some e =>
        if (windowQueue true (localPart a.addr)).isSome && windowQueue true (localPart a.addr) = windowQueue true (localPart b.addr) &&
            a.addr / 2 ^ 45 = b.addr / 2 ^ 45 && a.addr % 8 = 0 then
          { addr := a.addr, len := a.len + b.len, data := some (d ++ e) } :: t2
        else a :: b :: t2
      | none => a :: b :: t2
    | _, r => a :: r

/-- The words of an access of `DP_DATA` (R433). -/
def dpWords (a : Nat) (inc : Int) : AccessKind → List DpItem
  | .read n => (List.range (n / 8)).map (fun i => { addr := dpStep a inc i, len := 8, data := none })
  | .write d =>
    mergePush ((List.range (d.length / 8)).map (fun i => { addr := dpStep a inc i, len := 8, data := some (slice d (8 * i) 8) }))

/-- The words of an aperture access (R434): whole cells in dictionary space, one piece elsewhere. -/
def State.apertureItems (s : State) (a : Nat) (acc : AccessKind) : List DpItem :=
  let n := match acc with | .read n => n | .write d => d.length
  if n = 0 then []
  else if s.inDict a && a % 8 = 0 && n % 8 = 0 then dpWords a 8 acc
  else [{ addr := a, len := n, data := match acc with | .read _ => none | .write d => some d }]

/-- Data-port writes that no acknowledgement has answered yet hold the fence (R357). -/
def State.fenceHeld (s : State) : Bool := s.host.remote.any (fun a => a.agent = 0x7001 && a.write) ||
  (match s.host.dpRun with | some x => x.left.any (fun i => i.data.isSome) | none => false)

/-- An access reads the fence itself. -/
def State.readsFence (s : State) (items : List DpItem) : Bool :=
  items.any (fun i => i.data = none && s.inDict i.addr && (cellPlace i.addr).1 = 0x2D20 && (cellPlace i.addr).2.1 = 8)

end Sys2Proof.Machine
end

