-- ==== Sys2Proof/Machine/DpCmds.lean ====
section
/-! DEFINITION. The commands of the data port and of the pops that may wait on it (R357, R382, R385, R390, R433, R434). -/
namespace Sys2Proof.Machine

/-! ### Pops (chapter 13) -/

/-- `Q_POP` (R380, R383 to R385, R390): `words` words through the pop window. An internal consumer stalls on an empty queue,
the data port waits, the other host routes get markers at once.
[DEDUCED, log entry 46] -/
def execQPop (q : Fin 256) (agent : BitVec 16) (words : Fin 257) (s : State) : Host.Outcome State Fault Refusal :=
  s.run fun s0 =>
    let s := if agent = 0x7001 then s0.dpResume else s0
    let a := agent.toNat
    let n := words.val
    let host := a / 4096 = 7
    if a = 0x7001 then
      if s.dpWaits then s
      else s.dpAccess (List.replicate n { addr := popWindow q.val + s.host.rangeId * 2 ^ 45, len := 8, data := none }) [] false
    else if host && (!s.routeUp (a % 4096) || s.routeBusy (a % 4096)) then s
    else if !s.qEnabled q.val then
      (if host then s.popDone q.val a (markers n) false else s.accessFailed a (popWindow q.val) false .unmapped)
    else if !agentMatches (s.rd (R.Q_CONS q.val)) a then (s.qForeign q.val a).popDone q.val a (markers n) false
    else if host then
      let (d, p, s1) := qTakeN q.val a n s
      s1.popDone q.val a (d ++ markers (n - d.length / 8)) p
    else if (s.queue q.val).wait ≠ none then s
    else s.popServe q.val { agent := a, words := n, got := [], poison := false, since := s.tclk }

/-- `POP_RESUME` (R385, R389, R390): a word has been committed, and the pop that waits takes it. -/
def execPopResume (q : Fin 256) (s : State) : Host.Outcome State Fault Refusal := s.run fun s =>
  match (s.queue q.val).wait with
  | some w =>
    if s.qCount q.val = 0 then s
    else if w.agent = 0x7001 then (s.setQueue q.val { s.queue q.val with wait := none }).dpResume
    else s.popServe q.val w
  | none => s

/-- The data port's waiting pop on a queue ends without a word (R382, R390).
[DEDUCED, log entry 46] -/
def State.dpPopEnd (s : State) (q : Nat) : State :=
  ((s.setQueue q { s.queue q with wait := none }).mapHost fun h =>
    { h with dpRun := h.dpRun.map (fun (x : DpRun) => { x with ended := true }) }).dpResume

/-- `QEMPTY_TO` (R390): a data-port pop has waited 8 µs; its read completes with markers.
[DEDUCED, log entry 46] -/
def execQemptyTo (q : Fin 256) (s : State) : Host.Outcome State Fault Refusal := s.run fun s =>
  match (s.queue q.val).wait with
  | some w =>
    if w.agent ≠ 0x7001 || s.tclk < w.since + 8 * tclkUs || s.qCount q.val ≠ 0 then s else (s.qStat q.val 2).dpPopEnd q.val
  | none => s

/-- `QUEUE_POINTER_MISMATCH` (R382). An internal consumer's stall goes on.
[DEDUCED, log entry 46] -/
def execQueuePointerMismatch (q : Fin 256) (s : State) : Host.Outcome State Fault Refusal := s.run fun s =>
  let x := s.queue q.val
  let inPkt := s.qPkt q.val && x.wp ≠ x.cp
  let s1 := s.setQueue q.val { Queue.empty with ignoring := x.ignoring || inPkt, wait := x.wait }
  let s2 := (((s1.injHere 44 q.val).qStat q.val 5).bump R.QM_RESETS).detect 44 0 [(8, q.val)]
  match x.wait with
  | some w => if w.agent = 0x7001 then s2.dpPopEnd q.val else s2
  | none => s2

/-! ### The data port (chapter 15) -/

/-- Read-ahead's leading words that an access at `a` takes.
[DEDUCED, log entry 52] -/
def takeAhead (a : Nat) (inc : Int) : Nat → List (Nat × Bytes) → List Bytes
  | n + 1, (b, d) :: t => if b = a then d :: takeAhead (dpStep a inc 1) inc n t else []
  | 0, _ => []
  | _, [] => []

/-- The words of read-ahead as a read delivers them: a poisoned word as zeros. -/
def aheadBytes (ws : List Bytes) : Bytes := ws.flatMap fun d => if d = [] then List.replicate 8 0 else d

/-- The address of the first poisoned word of read-ahead. -/
def aheadPoison (a : Nat) (inc : Int) (ws : List Bytes) : Option Nat :=
  (ws.findIdx? (· = [])).map (dpStep a inc)

/-- How many bytes an access carries. -/
def accLen : AccessKind → Nat
  | .read n => n
  | .write d => d.length

/-- The access is a read. -/
def accReads : AccessKind → Bool
  | .read _ => true
  | .write _ => false

/-- An access whose byte enables do not cover whole words: dropped, `DP_ALIGN` (R433).
[DEDUCED, log entry 52] -/
def State.dpMisaligned (s : State) (acc : AccessKind) : State :=
  let s1 := s.dpErr 1 (s.rd R.DP_ADDR)
  if accReads acc then s1.emit (.hostRead 1 false false []) else s1

/-- An access of `DP_DATA` in its turn (R433): `DP_ADDR` moves on by `INC` a word, what read-ahead has is delivered first. -/
def State.dpBurst (s : State) (acc : AccessKind) : State :=
  let a := s.rd R.DP_ADDR
  let inc := s.dpInc
  let n := accLen acc / 8
  let ahead := if accReads acc then takeAhead a inc n s.host.readAhead else []
  let rest := if accReads acc then s.host.readAhead.drop ahead.length else []
  let s1 := (s.mapHost fun h => { h with readAhead := rest }).wr R.DP_ADDR (dpStep a inc n)
  let s2 := match aheadPoison a inc ahead with
    | some b => s1.dpErr 6 b
    | none => s1
  let s3 := s2.dpAccess ((dpWords a inc acc).drop ahead.length) (aheadBytes ahead) (aheadPoison a inc ahead).isSome
  if accReads acc then s3.fetchAhead else s3

/-- `DP_DATA` (R433, R435): one access of whole words, along `DP_ADDR` and `INC`. -/
def execDpData (whole : Bool) (acc : AccessKind) (s : State) : Host.Outcome State Fault Refusal :=
  s.run fun s0 =>
    let s := s0.dpResume
    if s.dpWaits || (s.fenceHeld && s.readsFence (dpWords (s.rd R.DP_ADDR) s.dpInc acc)) then s
    else if !whole || accLen acc % 8 ≠ 0 then s.dpMisaligned acc
    else s.dpBurst acc

/-- An access of the aperture in its turn (R434): `DP_ADDR` moves on by 64 KiB after the last word when bit 5 asks it. -/
def State.apertureRun (s : State) (off : Nat) (acc : AccessKind) : State :=
  let a := s.rd R.DP_ADDR
  let s1 := s.dpAccess (s.apertureItems ((a + off) % 2 ^ 64) acc) [] false
  if (s1.rd R.DP_CTRL).testBit 5 && off ≤ 0xFFF8 && 0xFFF8 < off + accLen acc then
    s1.wr R.DP_ADDR ((a + 0x10000) % 2 ^ 64)
  else s1

/-- `BURST_APERTURE` (R434, R435): an access at `DP_ADDR` + `off`; with `AUTO` = 1 an access over 0xFFF8 advances `DP_ADDR`. -/
def execBurstAperture (off : Fin 65536) (acc : AccessKind) (s : State) : Host.Outcome State Fault Refusal :=
  s.run fun s0 =>
    let s := s0.dpResume
    if s.dpWaits || (s.fenceHeld && s.readsFence (s.apertureItems ((s.rd R.DP_ADDR + off.val) % 2 ^ 64) acc)) then s
    else s.apertureRun off.val acc

/-- `DP_FENCE` (R357, R433): a read of the fence on route `r`. -/
def execDpFence (r : Route) (s : State) : Host.Outcome State Fault Refusal := s.run fun s0 =>
  let s := s0.dpResume
  if s.fenceHeld || s.dpWaits then s
  else s.hostRead r.val 0x2D20 8 8 fun s => (toLe 8 0, s.mapHost fun h => { h with readAhead := [] })

end Sys2Proof.Machine
end

