-- ==== Sys2Proof/Machine/RouteCmds.lean ====
section
/-! DEFINITION. The commands of the dictionary's routes (chapter 16): writes, the domain buffer, deferred requests, CAN FD USDO
and NMT, UDP, and Keeper's write of the counter record (R540). -/
namespace Sys2Proof.Machine

/-! ### Writes (R461, R473, R477) -/

/-- `REGISTER_WRITE` (R461, R465, R467): a write of any entry, with the effect the entry's own rule gives. -/
def execRegisterWrite (r : Route) (idx : BitVec 16) (sub : BitVec 8) (data : Bytes) (s : State) :
    Host.Outcome State Fault Refusal :=
  s.run fun s => s.routeWrite r.val idx.toNat sub.toNat data

/-- `CW_SHADOW_WRITE` (R477): a write of a CW entry. -/
def execCwShadowWrite (r : Route) (idx : BitVec 16) (sub : BitVec 8) (data : Bytes) (s : State) :
    Host.Outcome State Fault Refusal :=
  s.run fun s => if isCw idx.toNat sub.toNat then s.routeWrite r.val idx.toNat sub.toNat data else s

/-- `DW_GO_READ` (R473). -/
def execDwGoRead (r : Route) (s : State) : Host.Outcome State Fault Refusal :=
  s.run fun s => s.routeWrite r.val (0x2010 + r.val) 9 [1]

/-- `DW_GO_WRITE` (R473). -/
def execDwGoWrite (r : Route) (s : State) : Host.Outcome State Fault Refusal :=
  s.run fun s => s.routeWrite r.val (0x2010 + r.val) 9 [2]

/-! ### Deferred requests (R475, R476) -/

/-- Keeper's request in hand. -/
def State.setStarted (s : State) (x : Option (Nat × DefReq × Option Nat)) : State :=
  { s with routes := { s.routes with started := x } }

/-- A deferred request is a write or a commit. -/
def DefReq.writes (q : DefReq) : Bool := q.asRead.isNone

/-- `DEFERRED_START` (R475, R476): Keeper takes the oldest request. Whether its effect comes now or with its end is free.
[DEDUCED, log entry 14] -/
def execDeferredStart (s : State) : Host.Outcome State Fault Refusal := s.run fun s =>
  match s.routes.queue with
  | [] => s
  | (r, req, _) :: t =>
    if !s.keeperUp || s.routes.started.isSome || s.dome.waitCommit.isSome then s
    else
      let (v, s1) := ({ s with routes := { s.routes with queue := t } } : State).draw
      let s2 := s1.setStarted (some (r, req, none))
      if req.writes && v % 2 = 1 then
        let a := s2.runDef r req
        if a.reason = queuedReason then a.s else a.s.setStarted (some (r, req, some a.reason))
      else s2

/-- Keeper's request in hand has ended: its answer, and what waited for it goes on. -/
def State.defEnd (s : State) (r : Nat) (req : DefReq) (a : ReadAns) : State :=
  (((a.s.setStarted none).defReply r req { a with s := s }).applySettings).dpResume

/-- `DEFERRED_DONE` (R475): the request in hand ends.
[DEDUCED, log entries 9, 14] -/
def execDeferredDone (s : State) : Host.Outcome State Fault Refusal := s.run fun s =>
  match s.routes.started with
  | none => s
  | some (r, req, some c) => s.defEnd r req ⟨c, [], false, s⟩
  | some (r, req, none) =>
    if !s.keeperUp || s.dome.waitCommit.isSome then s
    else
      let a := s.runDef r req
      if a.reason = queuedReason then a.s else s.defEnd r req a

/-- The requests of Keeper's queue that have waited `DEF_TMO` abort, oldest first. -/
def defExpire : List (Nat × DefReq × Nat) → State → State
  | [], s => s
  | (r, req, t) :: l, s =>
    if t + s.rd R.DEF_TMO * tclkUs ≤ s.tclk then
      defExpire l ((s.defRefuse r req 0x200C).event 0x2002 0 [(8, r), (24, entryArg req.entry.1 req.entry.2)])
    else defExpire l { s with routes := { s.routes with queue := s.routes.queue ++ [(r, req, t)] } }

/-- `DEF_TIMEOUT` (R475). -/
def execDefTimeout (s : State) : Host.Outcome State Fault Refusal := s.run fun s =>
  ((defExpire s.routes.queue { s with routes := { s.routes with queue := [] } }).applySettings).dpResume

/-- The counter record is in the flash: the commit that waited for it takes effect (R481). -/
def State.finishCommit (s : State) (r idx sub : Nat) (cr : CommitRec) : State :=
  let rc := cr.counter.toNat + 65536
  let v := s.shadowValue r
  let s1 : State := { s with dome := { s.dome with rc := rc, waitCommit := none }, nv := { s.nv with flashRc := rc } }
  let s2 := commitApply idx sub v (s1.commitAccept r idx sub cr v)
  match s2.routes.started with
  | some (r1, req, none) => s2.setStarted (some (r1, req, some 0))
  | _ => ((s2.succeed r).applySettings).dpResume

/-- `FLASH_WRITE_DONE` (R481, R540): a commit that waited for R_c takes effect, and its route has its answer.
[DEDUCED, log entry 54] -/
def execFlashWriteDone (s : State) : Host.Outcome State Fault Refusal :=
  s.run fun s => match s.dome.waitCommit with
  | none => s.wr R.FLASH_BUSY 0
  | some (r, idx, sub, cr) => (s.wr R.FLASH_BUSY 0).finishCommit r idx sub cr

/-! ### CAN FD USDO and NMT (R469) -/

/-- The controller of route 2 is powered and on its bus. -/
def State.usdoPort (s : State) : Bool :=
  s.portUp (0x22A0 + s.rd R.USDO_PORT) && !s.siu.busOff.testBit (s.rd R.USDO_PORT)

/-- The USDO server answers requests.
[DEDUCED, log entry 53] -/
def State.usdoUp (s : State) : Bool := s.routeUp 2 && s.usdoPort

/-- A session is open: segments are awaited, or the request is still at Keeper. -/
def State.usdoOpen (s : State) : Bool := s.routes.usdo.isSome || s.routeBusy 2

/-- Set the open session. -/
def State.setUsdo (s : State) (x : Option UsdoSession) : State := { s with routes := { s.routes with usdo := x } }

/-- A request while a session is open.
[DEDUCED, log entry 53] -/
def State.usdoBusy (s : State) : State := s.emit (.usdo false 0x08000022 [])

/-- `USDO_DOWNLOAD` (R469). -/
def execUsdoDownload (idx : BitVec 16) (sub : BitVec 8) (data : Bytes) (last : Bool) (s : State) :
    Host.Outcome State Fault Refusal := s.run fun s =>
  if !s.usdoUp then s
  else if s.usdoOpen then s.usdoBusy
  else if last then s.routeWrite 2 idx.toNat sub.toNat data
  else s.setUsdo (some { idx := idx.toNat, sub := sub.toNat, download := true, data := data, last := s.tclk })

/-- A read of the route's own entries: it changes none of the route's registers (R467). -/
def ownEntry (r idx : Nat) : Bool := idx = 0x2010 + r

/-- A read of the fence waits (R357).
[DEDUCED, log entry 53] -/
def State.fenceWaits (s : State) (idx sub : Nat) : Bool := idx = 0x2D20 && sub = 8 && s.fenceHeld

/-- `USDO_UPLOAD` (R469).
[DEDUCED, log entry 53] -/
def execUsdoUpload (idx : BitVec 16) (sub : BitVec 8) (s : State) : Host.Outcome State Fault Refusal := s.run fun s =>
  let i := idx.toNat
  let b := sub.toNat
  if !s.usdoUp then s
  else if s.usdoOpen then s.usdoBusy
  else if s.fenceWaits i b then s
  else if s.readReason i b ≠ 0 then s.refuse 2 i b (s.readReason i b)
  else if entryDeferred i b then
    let (s1, c) := s.enqueue 2 i b (.usdoRead i b)
    if c = queuedReason then s1 else s1.refuse 2 i b c
  else
    let a := s.readEntry 2 i b
    if ownEntry 2 i then a.s.emit (.usdo true 0 a.data) else a.s.readReply 2 a.data a.poison

/-- `USDO_SEGMENT` (R469): the last segment applies the download.
[DEDUCED, log entry 53] -/
def execUsdoSegment (data : Bytes) (last : Bool) (s : State) : Host.Outcome State Fault Refusal := s.run fun s =>
  if !s.usdoUp then s
  else match s.routes.usdo with
    | none => s
    | some x =>
      if s.tclk > x.last + tclkSec / 10 then s
      else if last then (s.setUsdo none).routeWrite 2 x.idx x.sub (x.data ++ data)
      else s.setUsdo (some { x with data := x.data ++ data, last := s.tclk })

/-- `USDO_SESSION_TIMEOUT` (R469).
[DEDUCED, log entry 53] -/
def execUsdoSessionTimeout (s : State) : Host.Outcome State Fault Refusal := s.run fun s =>
  match s.routes.usdo with
  | none => s
  | some x =>
    if s.tclk ≤ x.last + tclkSec / 10 then s
    else ((s.setUsdo none).emit (.usdo false 0x05040000 [])).applySettings

/-- An NMT command puts the node into a state.
[DEDUCED, log entry 53] -/
def State.nmtSet (s : State) (v : Nat) : State :=
  if s.rd R.USDO_EN = 1 && s.usdoPort then { s with routes := { s.routes with nmt := v } } else s

/-- `NMT_START` (R469). -/
def execNmtStart (s : State) : Host.Outcome State Fault Refusal := s.run fun s => s.nmtSet 5

/-- `NMT_STOP` (R469). -/
def execNmtStop (s : State) : Host.Outcome State Fault Refusal := s.run fun s => s.nmtSet 4

/-- `NMT_ENTER_PRE_OPERATIONAL` (R469). -/
def execNmtEnterPreOperational (s : State) : Host.Outcome State Fault Refusal := s.run fun s => s.nmtSet 127

/-- `NMT_RESET_COMMUNICATION` (R469): the communication state only. -/
def execNmtResetCommunication (s : State) : Host.Outcome State Fault Refusal := s.run fun s =>
  if s.rd R.USDO_EN = 1 && s.usdoPort then ((s.setUsdo none).nmtSet 127).applySettings else s

/-- `HEARTBEAT` (R469): each `0x1017` period, 0 for none.
[DEDUCED, log entry 53] -/
def execHeartbeat (s : State) : Host.Outcome State Fault Refusal := s.run fun s =>
  let p := s.rd R.HEARTBEAT
  if p = 0 || !s.usdoPort || s.tclk < s.routes.lastBeat + p * (tclkUs * 1000) then s
  else ({ s with routes := { s.routes with lastBeat := s.tclk } }).emit (.nmt s.routes.nmt)

/-! ### UDP (R470, R471) -/

/-- A source address is one of the eight of `UDP_ALLOW`; 0 is none. -/
def State.udpAllowed (s : State) (ip : Nat) : Bool :=
  ip ≠ 0 && (List.range 8).any (fun i => s.rd R.UDP_ALLOW / 2 ^ (32 * i) % 2 ^ 32 = ip)

/-- A datagram that is discarded unanswered.
[DEDUCED, log entry 53] -/
def State.udpBad (s : State) (q : UdpReq) : Bool :=
  !s.udpAllowed q.srcIp.toNat || q.magic ≠ 0x4356 || q.version ≠ 1 || q.lenField.toNat ≠ q.payload.length ||
    1440 < q.payload.length

/-- A datagram is discarded: counted, with event 0x2003 at the first one in each Meridian second. -/
def State.udpDiscard (s : State) (q : UdpReq) : State :=
  let s1 := s.bump R.UDP_BAD
  let sec := s.now / ftSec
  if s.routes.udpBadSec = some sec then s1
  else ({ s1 with routes := { s1.routes with udpBadSec := some sec } }).event 0x2003 0 [(32, q.srcIp.toNat)]

/-- The checks of a datagram, then `f`: nothing while the route is off or an earlier request is open; a repeat gets the stored
response once more (R471). -/
def State.udpTake (s : State) (q : UdpReq) (f : State → State) : State :=
  if !s.routeUp 3 then s
  else if s.udpBad q then s.udpDiscard q
  else if s.routeBusy 3 then s
  else
    let x := smGet (fun _ => ({ txn := 2 ^ 32, resp := [] } : UdpLast)) s.routes.udpLast (udpKey q)
    if x.txn = q.txn.toNat then s.emit (.udp q.srcIp.toNat q.srcPort.toNat x.resp) else (f s).applySettings

/-- A UDP read: the entry, or the reason.
[DEDUCED, log entry 53] -/
def State.udpReadRun (s : State) (q : UdpReq) : State :=
  let i := q.index.toNat
  let b := q.sub.toNat
  let no := fun (t : State) (c : Nat) => (t.refuse 3 i b c).udpAnswer q 0x81 c []
  let c := s.readReason i b
  if c ≠ 0 then no s c
  else if entryDeferred i b then
    let (s1, c1) := s.enqueue 3 i b (.udpRead q)
    if c1 = queuedReason then s1 else no s1 c1
  else if 1440 < (s.entryBytes i b).length then no s 0x2003
  else
    let a := s.readEntry 3 i b
    (if ownEntry 3 i then a.s else a.s.wr (R.R_REASON 3) 0).udpAnswer q 0x81 0 a.data

/-- A UDP write: its effect and its answer.
[DEDUCED, log entry 53] -/
def State.udpWriteRun (s : State) (q : UdpReq) : State :=
  let i := q.index.toNat
  let b := q.sub.toNat
  let (s1, c) := s.reqWrite 3 i b q.payload (.write i b q.payload)
  if c = queuedReason then { s1 with routes := { s1.routes with udpPend := some q } }
  else if c ≠ 0 then (s1.refuse 3 i b c).udpAnswer q 0x82 c []
  else (s1.succeed 3).udpAnswer q 0x82 0 []

/-- `UDP_READ` (R470, R471). -/
def execUdpRead (req : UdpReq) (s : State) : Host.Outcome State Fault Refusal := s.run fun s =>
  if s.fenceWaits req.index.toNat req.sub.toNat then s else s.udpTake req fun t => t.udpReadRun req

/-- `UDP_WRITE` (R470, R471). -/
def execUdpWrite (req : UdpReq) (s : State) : Host.Outcome State Fault Refusal := s.run fun s =>
  s.udpTake req fun t => t.udpWriteRun req

end Sys2Proof.Machine
end

