-- ==== Sys2Proof/Machine/ReplayCmds.lean ====
section
/-! DEFINITION. How replay applies one record (R521). -/
namespace Sys2Proof.Machine

/-- The slot that an ingress record names, while it is enabled. -/
def State.recSlot (s : State) (p : Bytes) : Option Nat :=
  let i := leAt p 3 1
  if i < s.slotCount && s.rd (R.SLOT_EN i) = 1 then some i else none

/-- A CSI-2 record (R518): a short packet has its 4 bytes; of a long packet's bytes, whether they are an image row or embedded
data is free.
[DEDUCED, log entry 58] -/
def State.replayCsi (s : State) (i : Nat) (d : Bytes) (stamp : Nat) : State :=
  let dt := leAt d 0 1 % 64
  let num := leAt d 1 2
  if d.length = 4 && dt = 0 then s.frameStart i stamp num
  else if d.length = 4 && dt = 1 then
    let n := match (s.slotRt i).frame with
      | some f => f.num
      | none => 0
    s.frameEnd i stamp (s.frameSeq i n)
  else
    let (v, s1) := s.draw
    if v % 2 = 0 then s1.frameRow i d true else s1.frameEmbedded i d true

/-- An ingress record enters the SIU as from its port.
[DEDUCED, log entry 58] -/
def State.replayIngress (s : State) (rtype : Nat) (p : Bytes) (stamp : Nat) : State :=
  let number := leAt p 1 1
  let d := p.drop 8
  if rtype = 1 then s.rxEthFrame number true d stamp
  else if rtype = 5 then s.rxSentence number d stamp false
  else match s.recSlot p with
    | some i => if rtype = 2 then s.replayCsi i d stamp else s.unit i d stamp
    | none => s

/-- A capture edge: pin class, pin, edge.
[DEDUCED, log entry 58] -/
def State.replayEdge (s : State) (p : Bytes) (stamp : Nat) : State :=
  let pin := leAt p 1 1
  if leAt p 0 1 = 5 then s.tioEdge pin stamp (leAt p 2 1 = 1) false
  else s.wr (R.PPS_LAST pin) (ftWord stamp s.timeFlags)

/-- A recorded dictionary write, by its recorded agent. -/
def State.replayWrite (s : State) (src : Nat) (p : Bytes) : State :=
  (s.applyWrite (if src / 4096 = 7 then src % 4 else 0) (leAt p 0 2) (leAt p 2 1) (slice p 5 (leAt p 3 2))).1

/-- A recorded commit: its target's effect without a tag check (R483). A step that `RESTEP` made is in its timebase record.
[DEDUCED, log entry 58] -/
def State.replayCommit (s : State) (p : Bytes) : State :=
  let idx := leAt p 2 2
  let sub := leAt p 1 1
  if entryKey idx sub = R.RESTEP then s
  else
    let n := match entryOf idx sub with
      | some e => e.len
      | none => 0
    commitApply idx sub (slice p 32 n) s

/-- A timebase record (R67): with another `STEP_COUNT` than Meridian's it is a step, with a step's effects.
[DEDUCED, log entry 58] -/
def State.replayTimebase (s : State) (p : Bytes) : State :=
  if leAt p 21 4 = s.rd R.STEP_COUNT then s.takeTimebase p
  else s.stepWith fun t =>
    let u := t.takeTimebase p
    (u.wr R.LAST_STEP (ofSgn 64 (Int.fdiv ((u.now : Int) - (t.now : Int)) 65536))).event 0x2101 0 []

/-- One record of the replay ring (R518, R521). -/
def State.replayRecord (s : State) (x : LbRec) : State :=
  let p := x.payload
  let stamp := (ftOfWord x.time).getD s.now
  if 1 ≤ x.rtype && x.rtype ≤ 5 then s.replayIngress x.rtype p stamp
  else if x.rtype = 6 then s.replayEdge p stamp
  else if x.rtype = 0x10 then s.replayWrite x.src p
  else if x.rtype = 0x11 then s.replayCommit p
  else if x.rtype = 0x12 then s.cairnPageWrite x.src (leAt p 0 4) (p.drop 4)
  else if x.rtype = 0x13 then (s.devWrite x.src (leAt p 0 8) (p.drop 8) false).2
  else if x.rtype = 0x20 then s.replayTimebase p
  else if x.rtype = 0x3D then s.replayEnd 2
  else if x.rtype = 0x3F then (s.wr R.RP_DIVERGED 1).event 0x2F75 0 []
  else s

/-- `REPLAY_RECORD_APPLY` (R521): the next record, at its `TCLK` position counted from the first record. -/
def execReplayRecordApply (s : State) : Host.Outcome State Fault Refusal := s.run fun s =>
  match s.lb.rpRecs with
  | [] => s
  | x :: t =>
    if !s.replaying || s.tclk < s.lb.rpStart + (x.tclk - s.lb.rpFirst) then s
    else ({ s with lb := { s.lb with rpRecs := t } }).replayRecord x

end Sys2Proof.Machine
end

