-- ==== Sys2Proof/Machine/RulebookCmds.lean ====
section
/-! DEFINITION. The octree and rulebook builds as commands (chapters 04 and 08). -/
namespace Sys2Proof.Machine

/-- The set in phase building of the lowest epoch. -/
def State.lowestBuilding (s : State) : Option (Nat × VSet) :=
  (List.range 3).foldl (fun m b => match s.vset b with
    | some v =>
      if v.phase = .building then
        match m with
        | some (_, w) => if v.epoch < w.epoch then some (b, v) else m
        | none => some (b, v)
      else m
    | none => m) none

/-- The grid pose that a closed set gives its epoch (R255). -/
def State.setGrid (s : State) (v : VSet) : GridPose :=
  { pose := v.corr, frameId := s.frameId v.gsrc, poseNone := v.gsrc.isNone, alm := v.alm, src := v.gsrc }

/-- The epoch of a set takes its header and its grid pose (R255, R276). -/
def State.setToEpoch (s : State) (b : Nat) (v : VSet) : State :=
  s.mapEpoch v.epoch fun e => { e with set := some (s.leAtMem (s.setPlace b).header 256), grid := some (s.setGrid v) }

/-- The octree of a closed set is complete (R126, R223, R229): levels, point array, ready cairn; the first rulebook build
starts.
[DESIGN CHOICE, log entry 34] -/
def State.octreeDone (s : State) (b : Nat) (v : VSet) : State :=
  (((s.writePoints b v).setToEpoch b v).buildSet b v).rbStart b v.epoch 0

/-- `OCTREE_BUILD_DONE` (R126): for the closed set of the lowest epoch, while no rulebook build runs. -/
def execOctreeBuildDone (s : State) : Host.Outcome State Fault Refusal :=
  s.run fun s => match s.lowestBuilding with
    | some (b, v) => if s.deep.rb.isSome then s else s.octreeDone b v
    | none => s

/-- `RULEBOOK_TILE_DONE` (R230): the next tile of the build in progress. -/
def execRulebookTileDone (s : State) : Host.Outcome State Fault Refusal :=
  s.run fun s => match s.rbNow with
    | some (x, v, w) => if x.fail then s else s.rbTile x v w
    | none => s

/-- `RULEBOOK_BUILD_DONE` (R230): once every tile is written, or the build has failed (R232). -/
def execRulebookBuildDone (s : State) : Host.Outcome State Fault Refusal :=
  s.run fun s => match s.rbNow with
    | some (x, v, w) => if s.rbAllDone x v w then s.rbFinish x v w else s
    | none => s

end Sys2Proof.Machine
end

