-- ==== Sys2Proof/Machine/SpurCmds.lean ====
section
/-! DEFINITION. The spur's instructions of the classes CTRL, MMA, VEC and MOV, and the two traps of the instruction word
(chapter 06). -/
namespace Sys2Proof.Machine

/-! ### Illegal words (R188, R192) -/

/-- The operations of a class (R190).
[DEDUCED, log entry 31] -/
def opListed (cls op : Nat) : Bool :=
  match cls with
  | 0 => 1 ≤ op && op ≤ 7
  | 1 => 1 ≤ op && op ≤ 3
  | 2 => (1 ≤ op && op ≤ 0x0E) || (0x10 ≤ op && op ≤ 0x13) || (0x20 ≤ op && op ≤ 0x29)
  | 3 => 1 ≤ op && op ≤ 9
  | 4 => 1 ≤ op && op ≤ 3
  | 5 => op = 1
  | 6 => 1 ≤ op && op ≤ 5
  | _ => false

/-- The class of an instruction word. -/
def wordClass (w : Nat) : Nat := bitsOf 63 60 w

/-- The operation of an instruction word. -/
def wordOp (w : Nat) : Nat := bitsOf 59 54 w

/-- `ILLEGAL_CLASS`: a word of class 0x7 to 0xF (R192). Any other word is not this command. -/
def execIllegalClass (n : Fin 128) (w : BitVec 64) (s : State) : Host.Outcome State Fault Refusal :=
  s.runSpur fun s => if wordClass w.toNat < 7 then s else s.spurIssue n.val w.toNat fun s => s.spurTrap n.val 0x01 w.toNat

/-- `ILLEGAL_OP`: a word of a listed class whose operation is not listed (R192). Any other word is not this command.
[DEDUCED, log entry 31] -/
def execIllegalOp (n : Fin 128) (w : BitVec 64) (s : State) : Host.Outcome State Fault Refusal :=
  s.runSpur fun s =>
    if 7 ≤ wordClass w.toNat || opListed (wordClass w.toNat) (wordOp w.toNat) then s
    else s.spurIssue n.val w.toNat fun s => s.spurTrap n.val 0x02 w.toNat

/-! ### CTRL (R189, R190) -/

/-- The signed immediate of a CTRL word. -/
def fCImm (f : Nat) : Int := sgnOf 43 (bitsOf 42 0 f)

/-- A CTRL instruction: its word issued into the control pipe, with `body` for its effect. -/
def State.spurCtrl (s : State) (n op f : Nat) (body : State → Nat → State) : State :=
  s.spurIssue n (spurWord 0 op f) fun s => body s (spurWord 0 op f)

/-- `NOP` (R190). -/
def execNop (n : Fin 128) (f : BitVec 54) (s : State) : Host.Outcome State Fault Refusal :=
  s.runSpur fun s => s.spurCtrl n.val 1 f.toNat fun s w => s.spurNext n.val w .control

/-- The next word is `IMM`. -/
def State.spurJump (s : State) (n w : Nat) (t : Int) : State :=
  (s.mapSpur n fun x => x.enter .control).spurGoto n w t

/-- `JMP` (R190). -/
def execJmp (n : Fin 128) (f : BitVec 54) (s : State) : Host.Outcome State Fault Refusal :=
  s.runSpur fun s => s.spurCtrl n.val 2 f.toNat fun s w => s.spurJump n.val w (fCImm f.toNat)

/-- The loop counter a CTRL word names. -/
def fLc (f : Nat) : Nat := bitsOf 44 43 f

/-- `LOOP` (R190): a counter that is not 0 counts down and branches. -/
def execLoop (n : Fin 128) (f : BitVec 54) (s : State) : Host.Outcome State Fault Refusal :=
  s.runSpur fun s => s.spurCtrl n.val 3 f.toNat fun s w =>
    let c := (s.spur n.val).loopCnt (fLc f.toNat)
    if c = 0 then s.spurNext n.val w .control
    else (s.mapSpur n.val fun x => x.setLoop (fLc f.toNat) (c - 1)).spurJump n.val w (fCImm f.toNat)

/-- `SETL` (R190). -/
def execSetl (n : Fin 128) (f : BitVec 54) (s : State) : Host.Outcome State Fault Refusal :=
  s.runSpur fun s => s.spurCtrl n.val 4 f.toNat fun s w =>
    (s.mapSpur n.val fun x => x.setLoop (fLc f.toNat) (bitsOf 15 0 f.toNat)).spurNext n.val w .control

/-- `SETA` (R190). -/
def execSeta (n : Fin 128) (f : BitVec 54) (s : State) : Host.Outcome State Fault Refusal :=
  s.runSpur fun s => s.spurCtrl n.val 5 f.toNat fun s w =>
    (s.mapSpur n.val fun x => x.setAddr (bitsOf 49 45 f.toNat) (fCImm f.toNat)).spurNext n.val w .control

/-- `EOT` (R190): the spur issues no more; the scoreboard records completion once every pipe is empty. -/
def execEot (n : Fin 128) (f : BitVec 54) (s : State) : Host.Outcome State Fault Refusal :=
  s.runSpur fun s => s.spurCtrl n.val 6 f.toNat fun s _ => s.mapSpur n.val fun x => { x with ended := true }

/-- `TRAP` (R190): the recorded word holds the immediate. -/
def execTrap (n : Fin 128) (f : BitVec 54) (s : State) : Host.Outcome State Fault Refusal :=
  s.runSpur fun s => s.spurCtrl n.val 7 f.toNat fun s w => s.spurTrap n.val 0x0A w

/-! ### MMA (R176 to R180, R189) -/

def fMmaFmt (f : Nat) : Nat := bitsOf 49 46 f
def fWb (f : Nat) : Nat := bitsOf 45 45 f
def fZero (f : Nat) : Bool := f.testBit 44
def fAcc (f : Nat) : Nat := bitsOf 43 35 f
def fRows (f : Nat) : Nat := bitsOf 34 26 f + 1
def fAin (f : Nat) : Nat := bitsOf 25 21 f
def fAins (f : Nat) : Nat := bitsOf 20 16 f
def fIstr (f : Nat) : Int := sgnOf 16 (bitsOf 15 0 f)

/-- Bytes of an input vector and of a tile row (R174, R176). -/
def rowBytes (fmt : Nat) : Nat := if is16bit fmt then 64 else 32

/-- Transpose a tile stored with row k for input element k (R176). -/
def tileOfTransposed (fmt : Nat) (m : Bytes) : Bytes :=
  packElems fmt ((List.range 32).flatMap fun j => (List.range (fmtGroup fmt)).map fun k => elemAt fmt m (32 * k + j))

/-- A weight tile and its scales go into the buffer the word names (R176). -/
def State.putTile (s : State) (n op f : Nat) (arrange : Nat → Bytes → Bytes) (tile scales : Bytes) (p : Bool) : State :=
  let fmt := fMmaFmt f
  (s.mapSpur n fun y =>
    y.setWbuf (fWb f) { fmt := fmt, tile := arrange fmt tile, scales := scales, poison := p }).spurNext n (spurWord 1 op f) .matrix

/-- Load a weight tile and its scales (R176).
[DEDUCED, log entry 31] -/
def State.spurWld (s : State) (n op f : Nat) (far : Option Bytes) (arrange : Nat → Bytes → Bytes) : State :=
  let w := spurWord 1 op f
  let fmt := fMmaFmt f
  s.spurIssue n w fun s =>
    if 0xC ≤ fmt then s.spurTrap n 0x02 w
    else
      let x := s.spur n
      let r := s.devRead n (x.addr (fAin f)) (32 * rowBytes fmt) far
      match r.st with
      | .unmapped => r.s.spurTrap n 0x06 w
      | .stall => s
      | _ =>
        if !isMx fmt then r.s.putTile n op f arrange r.data [] r.poison
        else
          let q := r.s.devRead n (x.addr (fAins f)) (32 * fmtScales fmt) r.far
          match q.st with
          | .unmapped => q.s.spurTrap n 0x06 w
          | .stall => s
          | _ => q.s.putTile n op f arrange r.data q.data (r.poison || q.poison)

/-- `WLD` (R176). -/
def execWld (n : Fin 128) (f : BitVec 54) (far : Option Bytes) (s : State) : Host.Outcome State Fault Refusal :=
  s.runSpur fun s => s.spurWld n.val 1 f.toNat far fun _ b => b

/-- `WLDT` (R176). -/
def execWldt (n : Fin 128) (f : BitVec 54) (far : Option Bytes) (s : State) : Host.Outcome State Fault Refusal :=
  s.runSpur fun s => s.spurWld n.val 2 f.toNat far tileOfTransposed

/-- The scale bytes of block b of `k` blocks from byte `off`. -/
def scaleList (bs : Bytes) (off k : Nat) : List Nat := (List.range k).map (fun b => leAt bs (off + b) 1)

/-- The lanes of one row of a `MAC`: each lane's new bits and whether one saturated (R177, R179). -/
def macRow (fmt : Nat) (wb : WBuf) (x xs : Bytes) (old : Nat) : Nat × Bool :=
  let k := fmtScales fmt
  let lanes := (List.range 32).map fun j =>
    macLane wb.fmt fmt (slice wb.tile (rowBytes fmt * j) (rowBytes fmt)) x (scaleList wb.scales (k * j) k) (scaleList xs 0 k) (laneOf old j)
  (ofLanes (fun j => (lanes.getD j (0, false)).1), lanes.any (·.2))

/-- The rows of a `MAC` from row `i`, `todo` of them: an input at an unmapped address traps, and rows before it stand
(R177, R192, R193). `none` when an input must wait. -/
def State.macRows (s : State) (n f : Nat) : Nat → Nat → Option Bytes → Option State
  | 0, _, _ => some (s.spurNext n (spurWord 1 3 f) .matrix)
  | todo + 1, i, far =>
    let w := spurWord 1 3 f
    let fmt := fMmaFmt f
    let x := s.spur n
    let wb := x.wbuf (fWb f)
    let row := fAcc f + i
    let r := s.devRead n (ofSgn 48 ((x.addr (fAin f) : Int) + 32 * (i : Int) * fIstr f)) (rowBytes fmt) far
    let q := if isMx fmt then r.s.devRead n ((x.addr (fAins f) + fmtScales fmt * i) % 2 ^ 48) (fmtScales fmt) r.far
             else ⟨.ok, [], false, r.far, r.s⟩
    if r.st = .stall || q.st = .stall then none
    else if r.st = .unmapped then some (r.s.spurTrap n 0x06 w)
    else if q.st = .unmapped then some (q.s.spurTrap n 0x06 w)
    else
      let old := if fZero f then 0 else x.accRow row
      let m := macRow fmt wb r.data q.data old
      let p := wb.poison || r.poison || q.poison || (!fZero f && x.accP.testBit row)
      ((q.s.mapSpur n fun y => y.putAcc row (2 ^ 32 - 1) m.1 p).spurSat n m.2).macRows n f todo (i + 1) q.far

/-- The instruction `MAC` (R177 to R179).
[DEDUCED, log entry 31] -/
def State.spurMac (s : State) (n f : Nat) (far : Option Bytes) : State :=
  let w := spurWord 1 3 f
  s.spurIssue n w fun s =>
    if 0xC ≤ fMmaFmt f then s.spurTrap n 0x02 w
    else if !fmtMatch (fMmaFmt f) ((s.spur n).wbuf (fWb f)).fmt then s.spurTrap n 0x03 w
    else if 512 < fAcc f + fRows f then s.spurTrap n 0x04 w
    else (s.macRows n f (fRows f) 0 far).getD s

/-- `MAC` (R177). -/
def execMac (n : Fin 128) (f : BitVec 54) (far : Option Bytes) (s : State) : Host.Outcome State Fault Refusal :=
  s.runSpur fun s => s.spurMac n.val f.toNat far

/-! ### VEC (R181 to R183, R190) -/

/-- `FADD` (R181, R190). -/
def execFadd (n : Fin 128) (f : BitVec 54) (s : State) : Host.Outcome State Fault Refusal :=
  s.runSpur fun s => s.spurVec2 n.val 0x01 f.toNat fadd32

/-- `FSUB` (R181, R190). -/
def execFsub (n : Fin 128) (f : BitVec 54) (s : State) : Host.Outcome State Fault Refusal :=
  s.runSpur fun s => s.spurVec2 n.val 0x02 f.toNat fsub32

/-- `FMUL` (R181, R190). -/
def execFmul (n : Fin 128) (f : BitVec 54) (s : State) : Host.Outcome State Fault Refusal :=
  s.runSpur fun s => s.spurVec2 n.val 0x03 f.toNat fmul32

/-- `FMIN` (R181, R190). -/
def execFmin (n : Fin 128) (f : BitVec 54) (s : State) : Host.Outcome State Fault Refusal :=
  s.runSpur fun s => s.spurVec2 n.val 0x05 f.toNat (fminmax true)

/-- `FMAX` (R181, R190). -/
def execFmax (n : Fin 128) (f : BitVec 54) (s : State) : Host.Outcome State Fault Refusal :=
  s.runSpur fun s => s.spurVec2 n.val 0x06 f.toNat (fminmax false)

/-- `IADD` (R181, R190). -/
def execIadd (n : Fin 128) (f : BitVec 54) (s : State) : Host.Outcome State Fault Refusal :=
  s.runSpur fun s => s.spurVec2 n.val 0x20 f.toNat iadd32

/-- `ISUB` (R181, R190). -/
def execIsub (n : Fin 128) (f : BitVec 54) (s : State) : Host.Outcome State Fault Refusal :=
  s.runSpur fun s => s.spurVec2 n.val 0x21 f.toNat isub32

/-- `IMUL` (R181, R190). -/
def execImul (n : Fin 128) (f : BitVec 54) (s : State) : Host.Outcome State Fault Refusal :=
  s.runSpur fun s => s.spurVec2 n.val 0x22 f.toNat imul32

/-- `AND` (R181, R190). -/
def execAndOp (n : Fin 128) (f : BitVec 54) (s : State) : Host.Outcome State Fault Refusal :=
  s.runSpur fun s => s.spurVec2 n.val 0x24 f.toNat (fun a b => a &&& b)

/-- `OR` (R181, R190). -/
def execOrOp (n : Fin 128) (f : BitVec 54) (s : State) : Host.Outcome State Fault Refusal :=
  s.runSpur fun s => s.spurVec2 n.val 0x25 f.toNat (fun a b => a ||| b)

/-- `XOR` (R181, R190). -/
def execXorOp (n : Fin 128) (f : BitVec 54) (s : State) : Host.Outcome State Fault Refusal :=
  s.runSpur fun s => s.spurVec2 n.val 0x26 f.toNat (fun a b => a ^^^ b)

/-- `SHL` (R181, R190). -/
def execShl (n : Fin 128) (f : BitVec 54) (s : State) : Host.Outcome State Fault Refusal :=
  s.runSpur fun s => s.spurVec2 n.val 0x27 f.toNat shl32

/-- `SHR` (R181, R190). -/
def execShr (n : Fin 128) (f : BitVec 54) (s : State) : Host.Outcome State Fault Refusal :=
  s.runSpur fun s => s.spurVec2 n.val 0x28 f.toNat shr32

/-- `FABS` (R181, R190). -/
def execFabs (n : Fin 128) (f : BitVec 54) (s : State) : Host.Outcome State Fault Refusal :=
  s.runSpur fun s => s.spurVec1 n.val 0x07 f.toNat fabs32

/-- `FNEG` (R181, R190). -/
def execFneg (n : Fin 128) (f : BitVec 54) (s : State) : Host.Outcome State Fault Refusal :=
  s.runSpur fun s => s.spurVec1 n.val 0x08 f.toNat fneg32

/-- `RCP` (R181, R190). -/
def execRcp (n : Fin 128) (f : BitVec 54) (s : State) : Host.Outcome State Fault Refusal :=
  s.runSpur fun s => s.spurVec1 n.val 0x0B f.toNat (fnUnit32 0x0B)

/-- `RSQ` (R181, R190). -/
def execRsq (n : Fin 128) (f : BitVec 54) (s : State) : Host.Outcome State Fault Refusal :=
  s.runSpur fun s => s.spurVec1 n.val 0x0C f.toNat (fnUnit32 0x0C)

/-- `EXP2` (R181, R190). -/
def execExp2 (n : Fin 128) (f : BitVec 54) (s : State) : Host.Outcome State Fault Refusal :=
  s.runSpur fun s => s.spurVec1 n.val 0x0D f.toNat (fnUnit32 0x0D)

/-- `LOG2` (R181, R190). -/
def execLog2 (n : Fin 128) (f : BitVec 54) (s : State) : Host.Outcome State Fault Refusal :=
  s.runSpur fun s => s.spurVec1 n.val 0x0E f.toNat (fnUnit32 0x0E)

/-- `ITOF` (R181, R190). -/
def execItof (n : Fin 128) (f : BitVec 54) (s : State) : Host.Outcome State Fault Refusal :=
  s.runSpur fun s => s.spurVec1 n.val 0x12 f.toNat itof32

/-- `FMA` (R190): a × b + c with one rounding. -/
def execFma (n : Fin 128) (f : BitVec 54) (s : State) : Host.Outcome State Fault Refusal :=
  s.runSpur fun s => s.spurVec n.val 0x04 f.toNat [fVA f.toNat, fVB f.toNat, fVC f.toNat] fun x i =>
    fma32 (laneOf (x.vec (fVA f.toNat)) i) (laneOf (x.vec (fVB f.toNat)) i) (laneOf (x.vec (fVC f.toNat)) i)

/-- `FCMP` (R190). -/
def execFcmp (n : Fin 128) (f : BitVec 54) (s : State) : Host.Outcome State Fault Refusal :=
  s.runSpur fun s => s.spurCmp n.val 0x09 f.toNat fcond

/-- `ICMP` (R190). -/
def execIcmp (n : Fin 128) (f : BitVec 54) (s : State) : Host.Outcome State Fault Refusal :=
  s.runSpur fun s => s.spurCmp n.val 0x29 f.toNat icond

/-- The instruction `SEL` (R190): every lane is written, from a where `MASK` is set, otherwise from c.
[DEDUCED, log entry 31] -/
def State.spurSel (s : State) (n f : Nat) : State :=
  let w := spurWord 2 0x0A f
  s.spurIssue n w fun s =>
    let x := s.spur n
    let p := x.vP.testBit (fVA f) || x.vP.testBit (fVC f)
    (s.setSpur n (x.putVec (fVD f) (2 ^ 32 - 1) (mergeLanes (x.mask (fMask f)) (x.vec (fVC f)) (x.vec (fVA f))) p)).spurNext n w .vector

/-- `SEL` (R190). -/
def execSel (n : Fin 128) (f : BitVec 54) (s : State) : Host.Outcome State Fault Refusal :=
  s.runSpur fun s => s.spurSel n.val f.toNat

/-- `FIMM` (R190): every lane becomes `IMM` as a signed integer converted to FP32. -/
def execFimm (n : Fin 128) (f : BitVec 54) (s : State) : Host.Outcome State Fault Refusal :=
  s.runSpur fun s => s.spurVec n.val 0x13 f.toNat [] fun _ _ => itof32 (ofSgn 32 (sgnOf 19 (fVImm f.toNat)))

/-- The instruction `ISATADD` (R181, R190): a masked lane that saturates counts as R179 counts.
[DEDUCED, log entry 31] -/
def State.spurIsatadd (s : State) (n f : Nat) : State :=
  let x := s.spur n
  let sat := s.spurReady n && (List.range 32).any (fun i => (x.mask (fMask f)).testBit i &&
    (isatadd32 (laneOf (x.vec (fVA f)) i) (laneOf (x.vec (fVB f)) i)).2)
  s.spurIssue n (spurWord 2 0x23 f) fun s =>
    let p := x.vP.testBit (fVA f) || x.vP.testBit (fVB f)
    let v := ofLanes fun i => (isatadd32 (laneOf (x.vec (fVA f)) i) (laneOf (x.vec (fVB f)) i)).1
    ((s.setSpur n (x.putVec (fVD f) (x.mask (fMask f)) v p)).spurSat n sat).spurNext n (spurWord 2 0x23 f) .vector

/-- `ISATADD` (R190). -/
def execIsatadd (n : Fin 128) (f : BitVec 54) (s : State) : Host.Outcome State Fault Refusal :=
  s.runSpur fun s => s.spurIsatadd n.val f.toNat

/-- The targets of `CVT`: every format but the MX ones and the reserved codes (R182, R192). -/
def cvtTarget (fmt : Nat) : Bool := fmt ≤ 3 || (0xA ≤ fmt && fmt ≤ 0xD)

/-- The instruction `CVT` of FP32 lanes (R182, R184, R185).
[DEDUCED, log entry 31] -/
def State.spurCvt (s : State) (n f : Nat) : State :=
  let w := spurWord 2 0x10 f
  let fmt := fVFmt f
  s.spurIssue n w fun s =>
    if !cvtTarget fmt then s.spurTrap n 0x02 w
    else
      let x := s.spur n
      let es := (List.range 32).map fun i =>
        cvtElem fmt ((fVImm f).testBit 0) (x.rounding (fSr f) fmt i) (val32 (laneOf (x.vec (fVA f)) i))
      let y := x.drew (fSr f) fmt 32
      (s.setSpur n (y.putVec (fVD f) (x.mask (fMask f)) (leNat (packElems fmt es)) (x.vP.testBit (fVA f)))).spurNext n w .vector

/-- `CVT` (R182). -/
def execCvt (n : Fin 128) (f : BitVec 54) (s : State) : Host.Outcome State Fault Refusal :=
  s.runSpur fun s => s.spurCvt n.val f.toNat

/-- The instruction `QMX` (R183): the elements from byte 0, the scale byte in lane 31.
[DEDUCED, log entry 31] -/
def State.spurQmx (s : State) (n f : Nat) : State :=
  let w := spurWord 2 0x11 f
  let fmt := fVFmt f
  s.spurIssue n w fun s =>
    if !isMx fmt then s.spurTrap n 0x02 w
    else
      let x := s.spur n
      let (es, sc) := qmxBlock fmt (fun i => x.rounding (fSr f) fmt i) ((List.range 32).map fun i => val32 (laneOf (x.vec (fVA f)) i))
      let y := x.drew (fSr f) fmt 32
      let v := leNat (packElems fmt es) + sc * 2 ^ 992
      (s.setSpur n (y.putVec (fVD f) (x.mask (fMask f)) v (x.vP.testBit (fVA f)))).spurNext n w .vector

/-- `QMX` (R183). -/
def execQmx (n : Fin 128) (f : BitVec 54) (s : State) : Host.Outcome State Fault Refusal :=
  s.runSpur fun s => s.spurQmx n.val f.toNat

/-! ### MOV (R189, R190) -/

/-- A MOV instruction that loads `len` bytes and writes the lanes that `lanes` makes of them. -/
def State.spurLdv (s : State) (n op f len : Nat) (far : Option Bytes) (lanes : Bytes → Nat) : State :=
  let w := spurWord 3 op f
  s.spurIssue n w fun s =>
    s.spurLoad n w ((s.spur n).movAddr f) len far fun t b p =>
      (t.mapSpur n fun x => x.putVec (fMV f) (x.mask (fMask f)) (lanes b) p).spurNext n w .move

/-- `LDV` (R190). -/
def execLdv (n : Fin 128) (f : BitVec 54) (far : Option Bytes) (s : State) : Host.Outcome State Fault Refusal :=
  s.runSpur fun s => s.spurLdv n.val 1 f.toNat 128 far leNat

/-- Bytes that 32 packed elements of a format take (R174). -/
def packedBytes (fmt : Nat) : Nat := 4 * elemBits fmt

/-- The instruction `LDP` (R190): a reserved format code traps (R192).
[DEDUCED, log entry 31] -/
def State.spurLdp (s : State) (n f : Nat) (far : Option Bytes) : State :=
  let fmt := fMFmt f
  if 0xE ≤ fmt then s.spurIssue n (spurWord 3 3 f) fun s => s.spurTrap n 0x02 (spurWord 3 3 f)
  else s.spurLdv n 3 f (packedBytes fmt) far fun b => ofLanes fun i => widen fmt (elemAt fmt b i)

/-- `LDP` (R190). -/
def execLdp (n : Fin 128) (f : BitVec 54) (far : Option Bytes) (s : State) : Host.Outcome State Fault Refusal :=
  s.runSpur fun s => s.spurLdp n.val f.toNat far

/-- A MOV instruction that stores the bytes `get` takes from the spur, poisoned as `V` is (R190, R193). -/
def State.spurStv (s : State) (n op f : Nat) (get : Spur → Bytes) : State :=
  let w := spurWord 3 op f
  s.spurIssue n w fun s =>
    let x := s.spur n
    s.spurStore n w (x.movAddr f) (get x) (x.vP.testBit (fMV f))

/-- `STV` (R190). -/
def execStv (n : Fin 128) (f : BitVec 54) (s : State) : Host.Outcome State Fault Refusal :=
  s.runSpur fun s => s.spurStv n.val 2 f.toNat fun x => toLe 128 (x.vec (fMV f.toNat))

/-- The instruction `STP` (R190): only formats of 16, 32 or 64 packed bytes; another code traps (R192).
[DEDUCED, log entry 31] -/
def State.spurStp (s : State) (n f : Nat) : State :=
  let fmt := fMFmt f
  if 0xC ≤ fmt then s.spurIssue n (spurWord 3 4 f) fun s => s.spurTrap n 0x02 (spurWord 3 4 f)
  else s.spurStv n 4 f fun x => toLe (packedBytes fmt) (x.vec (fMV f))

/-- `STP` (R190). -/
def execStp (n : Fin 128) (f : BitVec 54) (s : State) : Host.Outcome State Fault Refusal :=
  s.runSpur fun s => s.spurStp n.val f.toNat

/-- `STSC` (R190): one byte, bits 7:0 of lane 31. -/
def execStsc (n : Fin 128) (f : BitVec 54) (s : State) : Host.Outcome State Fault Refusal :=
  s.runSpur fun s => s.spurStv n.val 8 f.toNat fun x => toLe 1 (laneOf (x.vec (fMV f.toNat)) 31)

/-- A MOV instruction that only moves between registers. -/
def State.spurMove (s : State) (n op f : Nat) (g : Spur → Spur) : State :=
  let w := spurWord 3 op f
  s.spurIssue n w fun s => (s.mapSpur n g).spurNext n w .move

/-- `ACCRD` (R190). -/
def execAccrd (n : Fin 128) (f : BitVec 54) (s : State) : Host.Outcome State Fault Refusal :=
  s.runSpur fun s => s.spurMove n.val 5 f.toNat fun x =>
    x.putVec (fMV f.toNat) (x.mask (fMask f.toNat)) (x.accRow (fMAcc f.toNat)) (x.accP.testBit (fMAcc f.toNat))

/-- `ACCWR` (R190). -/
def execAccwr (n : Fin 128) (f : BitVec 54) (s : State) : Host.Outcome State Fault Refusal :=
  s.runSpur fun s => s.spurMove n.val 6 f.toNat fun x =>
    x.putAcc (fMAcc f.toNat) (x.mask (fMask f.toNat)) (x.vec (fMV f.toNat)) (x.vP.testBit (fMV f.toNat))

/-- `ADDA` (R190). -/
def execAdda (n : Fin 128) (f : BitVec 54) (s : State) : Host.Outcome State Fault Refusal :=
  s.runSpur fun s => s.spurMove n.val 7 f.toNat fun x => x.setAddr (fMAr f.toNat) (x.movAddr f.toNat)

/-- `MOVA` (R190). -/
def execMova (n : Fin 128) (f : BitVec 54) (s : State) : Host.Outcome State Fault Refusal :=
  s.runSpur fun s => s.spurMove n.val 9 f.toNat fun x => x.setAddr (fMAr f.toNat) (bitsOf 47 0 (x.vec (fMV f.toNat)))

end Sys2Proof.Machine
end

