-- ==== Sys2Proof/Machine/SpurMem.lean ====
section
/-! DEFINITION. The spur's gathers and scatters, fences and cairn instructions, and what ends them (chapters 06, 07, 12). -/
namespace Sys2Proof.Machine

/-! ### GATH, SCAT, SCATA (R211 to R214) -/

def fAlist (f : Nat) : Nat := bitsOf 49 45 f
def fAdesc (f : Nat) : Nat := bitsOf 44 40 f
def fAloc (f : Nat) : Nat := bitsOf 39 35 f
def fCnt (f : Nat) : Nat := bitsOf 34 21 f + 1

/-- The descriptor of a handle in the descriptor file of the spur's cirque (R204). -/
def State.fileDesc (s : State) (n h : Nat) : Option Nat :=
  ((smGet (fun _ => []) s.deep.files (n / 4)).find? (fun e => e.1 = h)).map (·.2)

/-- The operation of a list instruction. -/
inductive ListOp where
  | gath | scat | scata
deriving DecidableEq, Repr

/-- The `OP` of a list instruction (R190). -/
def ListOp.code : ListOp → Nat
  | .gath => 1 | .scat => 2 | .scata => 3

/-- Bytes of the spur store that a list instruction's area takes (R213, R214). -/
def areaBytes (op : ListOp) (d cnt : Nat) : Nat :=
  if op = .scata then 128 * cnt else cnt * (dUnit d + fmtScales (dFmt d))

/-- The descriptor a list instruction may use, or none when R212 traps. -/
def State.listDesc (s : State) (n f : Nat) (op : ListOp) : Option Nat :=
  let x := s.spur n
  let h := x.addr (fAdesc f)
  match (if h < 2 ^ 32 then s.fileDesc n h else none) with
  | none => none
  | some d =>
    let okAccess := if op = .gath then dReads d else dWrites d
    let okFmt := op ≠ .scata || dFmt d = 0xC || dFmt d = 0xA || dFmt d = 0xB
    if okAccess && okFmt && x.addr (fAlist f) % 16 = 0 && s.inOwnStore n (x.addr (fAloc f)) (areaBytes op d (fCnt f)) then some d
    else none

/-- The unit indices of a list entry (R211). -/
def entryIdx (e : Nat) : List Nat := (List.range 5).map (fun d => bitsOf (24 * d + 23) (24 * d) e)

/-- The bytes of a unit that hold lanes which are not padding (R207). -/
def liveBytes (d : Nat) (idx : List Nat) : Nat :=
  if dLayout d = 0 then dUnit d else ceilDiv (liveLanes d idx * elemBits (dFmt d)) 8

/-- Copy `len` bytes word by word with their poison; `fix` cuts padding, `live` bytes carry poison. -/
def State.moveParts (s : State) (n src dst len live : Nat) (fix : Bytes → Bytes) : State × Bool :=
  let (ps, s1) := s.readParts n src len
  let bad := fun i => i < live && partPoison ps i
  (s1.writeParts n dst (fix (partBytes ps)) bad, (List.range len).any bad)

/-- One entry of `GATH` (R213).
[DEDUCED, log entry 32] -/
def State.gathEntry (s : State) (n d loc cnt m : Nat) (skip poison : Bool) (idx : List Nat) : State :=
  let b := dUnit d
  let k := fmtScales (dFmt d)
  let dst := loc + m * b
  let toS := loc + cnt * b + m * k
  if skip || poison then
    let z := fun (t : State) (a len : Nat) => t.writeParts n a (List.replicate len 0) (fun _ => poison)
    (z (z s dst b) toS k).spurStored n poison
  else
    let (s1, p1) := s.moveParts n (s.unitAddr d idx) dst b (liveBytes d idx) (padUnit d idx)
    let (s2, p2) := s1.moveParts n (s.scaleAddr d idx) toS k k id
    s2.spurStored n (p1 || p2)

/-- One entry of `SCAT` (R214).
[DEDUCED, log entry 32] -/
def State.scatEntry (s : State) (n d loc cnt m : Nat) (skip poison : Bool) (idx : List Nat) : State :=
  let b := dUnit d
  let k := fmtScales (dFmt d)
  if skip || poison then s.spurStored n poison
  else
    let (s1, p1) := s.moveParts n (loc + m * b) (s.unitAddr d idx) b (liveBytes d idx) (padUnit d idx)
    let (s2, p2) := s1.moveParts n (loc + cnt * b + m * k) (s.scaleAddr d idx) k k id
    s2.spurStored n (p1 || p2)

/-- One entry of `SCATA` (R207, R214): lane j of the area is added into element j of the unit.
[DEDUCED, log entry 32] -/
def State.scataEntry (s : State) (n d loc m : Nat) (sr skip poison : Bool) (idx : List Nat) : State :=
  if skip || poison then s.spurStored n poison
  else
    let f := dFmt d
    let eb := elemBits f / 8
    let a := s.unitAddr d idx
    let (src, s1) := s.readParts n (loc + 128 * m) 128
    let (dst, s2) := s1.readParts n a (dUnit d)
    let sb := partBytes src
    let db := partBytes dst
    let live := liveLanes d idx
    let x := s2.spur n
    let es := (List.range (dUnit d / eb)).map fun j =>
      if j < live then
        cvtElem f false (x.rounding sr f j) (FpVal.add (elemVal f (elemAt f db j)) (val32 (elemAt 0xC sb j)))
      else elemAt f db j
    let bad := fun i => (i / eb < live && partPoison src (4 * (i / eb))) || partPoison dst i
    ((s2.setSpur n (x.drew sr f live)).writeParts n a (packElems f es) bad).spurStored n
      ((List.range live).any (fun j => partPoison src (4 * j)))

/-- One entry of a list instruction. -/
def State.listEntry (s : State) (op : ListOp) (n d loc cnt m : Nat) (sr skip poison : Bool) (idx : List Nat) : State :=
  match op with
  | .gath => s.gathEntry n d loc cnt m skip poison idx
  | .scat => s.scatEntry n d loc cnt m skip poison idx
  | .scata => s.scataEntry n d loc m sr skip poison idx

/-- The entries of a list from entry `m`, `todo` of them (R212): an entry outside the descriptor traps, earlier ones
stand. `none` when the list must wait. -/
def State.listRun (s : State) (op : ListOp) (n f d : Nat) : Nat → Nat → Option Bytes → Option State
  | 0, _, _ => some (s.spurNext n (spurWord 4 op.code f) .gather)
  | todo + 1, m, far =>
    let w := spurWord 4 op.code f
    let x := s.spur n
    let r := s.devRead n (x.addr (fAlist f) + 16 * m) 16 far
    match r.st with
    | .stall => none
    | .unmapped => some (r.s.spurTrap n 0x06 w)
    | _ =>
      let e := leNat r.data
      let idx := entryIdx e
      let skip := e.testBit 127
      if !r.poison && !idxOk d idx then some (r.s.spurTrap n 0x08 w)
      else if !r.poison && !skip && r.s.accStatus (r.s.unitAddr d idx) (dUnit d) ≠ .ok then some (r.s.spurTrap n 0x06 w)
      else
        (r.s.listEntry op n d (localPart (x.addr (fAloc f))) (fCnt f) m (fSr f) skip r.poison idx).listRun op n f d todo (m + 1) r.far

/-- A list instruction (R211 to R214). -/
def State.spurList (s : State) (op : ListOp) (n f : Nat) (far : Option Bytes) : State :=
  let w := spurWord 4 op.code f
  s.spurIssue n w fun s =>
    match s.listDesc n f op with
    | none => s.spurTrap n 0x08 w
    | some d => (s.listRun op n f d (fCnt f) 0 far).getD s

/-- `GATH` (R213). -/
def execGath (n : Fin 128) (f : BitVec 54) (far : Option Bytes) (s : State) : Host.Outcome State Fault Refusal :=
  s.runSpur fun s => s.spurList .gath n.val f.toNat far

/-- `SCAT` (R214). -/
def execScat (n : Fin 128) (f : BitVec 54) (far : Option Bytes) (s : State) : Host.Outcome State Fault Refusal :=
  s.runSpur fun s => s.spurList .scat n.val f.toNat far

/-- `SCATA` (R214). -/
def execScata (n : Fin 128) (f : BitVec 54) (far : Option Bytes) (s : State) : Host.Outcome State Fault Refusal :=
  s.runSpur fun s => s.spurList .scata n.val f.toNat far

/-! ### FENCE (R189, R191) -/

/-- The scopes of a `FENCE` word; 0 means all. -/
def fScope (f : Nat) : Nat := if bitsOf 49 46 f = 0 then 15 else bitsOf 49 46 f

/-- `FENCE` (R191): later instructions wait.
[DEDUCED, log entry 32] -/
def execFence (n : Fin 128) (f : BitVec 54) (s : State) : Host.Outcome State Fault Refusal :=
  s.runSpur fun s => s.spurIssue n.val (spurWord 5 1 f.toNat) fun s =>
    (s.mapSpur n.val fun x => { x with fence := some (fScope f.toNat) }).spurNext n.val (spurWord 5 1 f.toNat) .control

/-- Writes of the spur that a fence of a scope still waits for: those to other devices (R191, R448).
[DEDUCED, log entry 32] -/
def State.fencePending (s : State) (n scope : Nat) : Bool :=
  scope.testBit 3 && s.host.remote.any (fun a => a.agent = n && a.write)

/-- The fence in force completes; a write that failed traps (R191).
[DEDUCED, log entry 32] -/
def State.fenceDone (s : State) (n : Nat) : State :=
  match (s.spur n).fence with
  | none => s
  | some scope =>
    if s.fencePending n scope then s
    else
      let s1 := s.mapSpur n fun x => { x with fence := none, failedWrite := false }
      if (s.spur n).failedWrite then s1.spurTrap n 0x07 (smGet (fun _ => 0) (s.spur n).ibuf ((s.spur n).pc - 1)) else s1

/-- `FENCE_COMPLETE` (R191). -/
def execFenceComplete (n : Fin 128) (s : State) : Host.Outcome State Fault Refusal :=
  s.runSpur fun s => s.fenceDone n.val

/-- `PIPE_COMPLETE` (R171): one pending instruction of the pipe completes.
[DEDUCED, log entry 9] -/
def execPipeComplete (n : Fin 128) (p : Pipe) (s : State) : Host.Outcome State Fault Refusal :=
  s.runSpur fun s => s.mapSpur n.val fun x =>
    { x with pend := smSet (fun _ => 0) x.pend (pipeNo p) (smGet (fun _ => 0) x.pend (pipeNo p) - 1) }

/-- The generator's period between seedings, 655.36 µs in TCLK cycles (R186). -/
abbrev srPeriod : Nat := 327680

/-- The periodic seeding (R186); before it is due, and for a generator seeded from `SR_SEED`, nothing happens.
[DESIGN CHOICE, log entry 30] -/
def State.srReseed (s : State) (n : Nat) : State :=
  let x := s.spur n
  if x.srFixed || s.tclk < x.srT + srPeriod then s
  else
    let (b, s1) := s.drawTrng 8
    s1.mapSpur n fun y => { y with srSeed := leNat b, srN := 0, srT := s.tclk }

/-- `SR_RESEED` (R186). -/
def execSrReseed (n : Fin 128) (s : State) : Host.Outcome State Fault Refusal :=
  s.runSpur fun s => s.srReseed n.val

/-! ### Cairn instructions (R189, R347 to R355) -/

def fTsel (f : Nat) : Nat := bitsOf 49 46 f
def fCairn (f : Nat) : Nat := bitsOf 45 32 f
def fVal (f : Nat) : Nat := bitsOf 31 0 f

/-- A host agent's write of the cairn page, recorded and refused in replay (R516, R521). -/
def State.hostPage (s : State) (agent off v : Nat) (body : State → State) : State :=
  if agent / 4096 = 7 then
    if s.replaying then s.refuse (agent % 4) 0 0 0x2008
    else (body s).lbRecord agent 0x12 (toLe 4 off ++ toLe 4 v)
  else body s

/-- A signal by an instruction word of a spur, or by another agent (R347, R348). -/
def State.sigCmd (s : State) (src : CairnSrc) (op f : Nat) (add : Bool) : State :=
  match src with
  | .spur n => s.spurIssue n.val (spurWord 6 op f) fun s =>
      (s.signal n.val (fCairn f) add (fVal f)).spurNext n.val (spurWord 6 op f) .control
  | .other a => s.hostPage a.toNat (64 * fCairn f + (if add then 28 else 32)) (fVal f) fun s =>
      s.signal a.toNat (fCairn f) add (fVal f)

/-- `SIGADD` (R347). -/
def execSigadd (src : CairnSrc) (f : BitVec 54) (s : State) : Host.Outcome State Fault Refusal :=
  s.runSpur fun s => s.sigCmd src 1 f.toNat true

/-- `SIGSET` (R347). -/
def execSigset (src : CairnSrc) (f : BitVec 54) (s : State) : Host.Outcome State Fault Refusal :=
  s.runSpur fun s => s.sigCmd src 2 f.toNat false

/-- A spur's wait (R349, R351, R354, R355). -/
def State.spurWait (s : State) (n op f cond : Nat) : State :=
  s.spurIssue n (spurWord 6 op f) fun s =>
    match s.wait n (fCairn f) cond (fVal f) (s.rd (R.TMO_REG (n / 4) (fTsel f + 1))) none with
    | (s1, none) => (s1.mapSpur n fun x => { x with waiting := true }).spurNext n (spurWord 6 op f) .control
    | (s1, some .ok) => s1.spurNext n (spurWord 6 op f) .control
    | (s1, some _) => s1.spurFail n

/-- Another agent's wait takes its timeout from the request (R354). -/
def State.agentWait (s : State) (a f cond tmoUs : Nat) : State :=
  match s.wait a (fCairn f) cond (fVal f) tmoUs none with
  | (s1, none) => s1
  | (s1, some st) => s1.endWait a none st

/-- A wait by an instruction word of a spur, or by another agent. -/
def State.waitCmd (s : State) (src : CairnSrc) (op f cond tmoUs : Nat) : State :=
  match src with
  | .spur n => s.spurWait n.val op f cond
  | .other a => s.agentWait a.toNat f cond tmoUs

/-- `WAITGE` (R347, R349). -/
def execWaitge (src : CairnSrc) (f : BitVec 54) (tmoUs : Nat) (s : State) : Host.Outcome State Fault Refusal :=
  s.runSpur fun s => s.waitCmd src 3 f.toNat 0 tmoUs

/-- `WAITEQ` (R347, R349). -/
def execWaiteq (src : CairnSrc) (f : BitVec 54) (tmoUs : Nat) (s : State) : Host.Outcome State Fault Refusal :=
  s.runSpur fun s => s.waitCmd src 4 f.toNat 1 tmoUs

/-- `WAITBIT` (R347, R349). -/
def execWaitbit (src : CairnSrc) (f : BitVec 54) (tmoUs : Nat) (s : State) : Host.Outcome State Fault Refusal :=
  s.runSpur fun s => s.waitCmd src 5 f.toNat 2 tmoUs

/-- The first wake of an agent, taken off the wake wires. -/
def takeWake (a : Nat) : List (Nat × WaitStatus) → Option WaitStatus × List (Nat × WaitStatus)
  | [] => (none, [])
  | e :: t => if e.1 = a then (some e.2, t) else let r := takeWake a t; (r.1, e :: r.2)

/-- An agent whose wake wire fired resumes (R353); a spur whose wait ended badly fails its task (R355). -/
def State.wakeAgent (s : State) (a : Nat) : State :=
  match takeWake a s.cs.wakes with
  | (none, _) => s
  | (some st, rest) =>
    let s1 := { s with cs := { s.cs with wakes := rest } }
    if a < 128 && (s.spur a).waiting then
      if st = .ok then s1.mapSpur a fun x => { x with waiting := false } else s1.spurFail a
    else s1

/-- `WAITER_WAKE` (R353). -/
def execWaiterWake (agent : BitVec 16) (s : State) : Host.Outcome State Fault Refusal :=
  s.runSpur fun s => s.wakeAgent agent.toNat

end Sys2Proof.Machine
end

