-- ==== Sys2Proof/Machine/TtCmds.lean ====
section
/-! DEFINITION. The timetable's events as commands (chapter 10): instants, origins, inputs, dispatch, completion, abort,
the slot gates. -/
namespace Sys2Proof.Machine

/-! ### Instants and origins -/

/-- `EPOCH_INSTANT` (R29): the next epoch instant has come. -/
def execEpochInstant (s : State) : Host.Outcome State Fault Refusal :=
  s.run fun s => if !s.deep.tt.loaded || s.now < s.instant s.deep.tt.epochNext then s else s.epochInstant

/-- `INSTANCE_ORIGIN` (R303): the origin of the cycle's next instance has come. -/
def execInstanceOrigin (c : Fin 8) (s : State) : Host.Outcome State Fault Refusal :=
  s.run fun s =>
    match s.nextOf c.val with
    | some q => if !s.deep.tt.loaded || s.now < s.cycOrigin c.val q then s else s.instanceOrigin c.val q
    | none => s

/-- `START_MIN` (R303). -/
def execStartMin (c : Fin 8) (i : Nat) (t : BitVec 16) (s : State) : Host.Outcome State Fault Refusal :=
  s.run fun s => s.tryReady c.val i t.toNat

/-! ### Inputs (R266, R267, R301, R305) -/

/-- Input `k` of an entry in WAIT that has not resolved. -/
def State.openInput (s : State) (c i t k : Nat) : Option (SbEntry × TaskRec × InEnt) :=
  match s.entry c i t, s.taskRec c t with
  | some e, some r => match r.inputs[k]? with
    | some x => if e.st = 1 && !e.inrdy.testBit k then some (e, r, x) else none
    | none => none
  | _, _ => none

/-- `INPUT_RESOLVE` (R305): a producer is done, an event has occurred, or a cairn is reached. -/
def execInputResolve (c : Fin 8) (i : Nat) (t : BitVec 16) (k : Fin 8) (s : State) : Host.Outcome State Fault Refusal :=
  s.run fun s =>
    match s.openInput c.val i t.toNat k.val with
    | some (e, _, x) => (match s.inputNow e x with
      | .no => s
      | .ready o => s.resolveInput c.val i t.toNat k.val (some o) false
      | .bad => s.resolveInput c.val i t.toNat k.val none false)
    | none => s

/-- `FRAME_WIN` of a slot, in 2^−16 ns; none when no camera entry names the slot (R258).
[DEDUCED, log entry 37] -/
def State.camWin (s : State) (slot : Nat) : Option Nat :=
  (((List.range 32).flatMap (fun i => let b := s.agSpec i; if b.isEmpty then [] else specCams b)).find? (fun e => kSlot e = slot)).map
    (fun e => kWin e * ftUs)

/-- The camera deadline of a slot in an instance: the earliest `IN_DL` of its camera inputs (R302). -/
def State.camDeadline (s : State) (c i slot : Nat) : Nat :=
  let ds := (s.deep.tt.tasks.filter (fun t => t.cycle = c && t.inputs.any (fun x => x.kind = 2 && x.src = slot))).map (·.inDl)
  s.cycOrigin c i + (ds.foldl min (ds.headD 0)) * ftNs

/-- A candidate frame of R266: buffer, frame, reference time. -/
abbrev CamCand := Nat × FrameRt × Nat

/-- The ready frames of a slot that have not fed an epoch, with their reference times. -/
def State.camReady (s : State) (slot : Nat) : List CamCand :=
  ((s.camBufs slot).mapIdx (fun j b => (j, b))).filterMap (fun p =>
    match p.2.ready with
    | some f => if p.2.fed then none else some (p.1, f, s.frameRef slot f)
    | none => none)

/-- A frame's age at the deadline is within the window. -/
def inWin (win : Option Nat) (dl ref : Nat) : Bool := match win with
  | some w => decide (dl ≤ ref + w)
  | none => true

/-- The latest of some candidates. -/
def latestCand (l : List CamCand) : Option CamCand :=
  l.foldl (fun m x => match m with
    | some y => if y.2.2 < x.2.2 then some x else m
    | none => some x) none

/-- Buffers after the choice of R266: superseded, expired and earlier fed frames leave theirs.
[DEDUCED, log entry 22] -/
def State.camFree (s : State) (slot : Nat) (gone : List Nat) (fed : Option Nat) : State :=
  let bs := (s.camBufs slot).mapIdx (fun j b =>
    if some j = fed then { b with fed := true }
    else if gone.contains j || (b.fed && fed.isSome) then { b with ready := none, fed := false }
    else b)
  { s with siu := { s.siu with cams := smSet (fun _ => []) s.siu.cams slot bs } }

/-- Record what a slot feeds an epoch.
[DEDUCED, log entry 37] -/
def State.camUse (s : State) (n : Nat) (u : CamUse) : State := s.mapEpoch n fun e => { e with cams := e.cams ++ [u] }

/-- The fallback of a slot without a candidate (R33, R267).
[DEDUCED, log entry 37] -/
def State.camFallback (s : State) (n slot fb dl : Nat) (win : Option Nat) : State :=
  if fb = 2 then
    match smGet (fun _ => none) s.deep.ag.fed slot with
    | some u =>
      if inWin win dl u.ref then s.camUse n { u with status := 2 }
      else ((s.camUse n { slot := slot, status := 5, frame := none, ref := 0 }).bump R.CAM_EXPIRED).event 0x2704 0 [(64, n)]
    | none => ((s.camUse n { slot := slot, status := 5, frame := none, ref := 0 }).bump R.CAM_EXPIRED).event 0x2704 0 [(64, n)]
  else s.camUse n { slot := slot, status := if fb = 3 then 4 else 3, frame := none, ref := 0 }

/-- The choice of R266 for a slot at its deadline `dl` in epoch `n`. -/
def State.camChoose (s : State) (n slot fb dl : Nat) : State :=
  let win := s.camWin slot
  let inst := s.instant n
  let due := (s.camReady slot).filter (fun x => decide (x.2.2 ≤ inst))
  let cs := due.filter (fun x => inWin win dl x.2.2)
  match latestCand cs with
  | none => (s.camFree slot (due.map (·.1)) none).camFallback n slot fb dl win
  | some (j, f, ref) =>
    let sup := cs.length - 1
    let u : CamUse := { slot := slot, status := if s.instantBefore n < ref then 0 else 1, frame := some f, ref := ref }
    let s1 := (s.camFree slot ((due.map (·.1)).filter (fun x => x ≠ j)) (some j)).camUse n u
    let s2 := s1.mapAg fun a => { a with fed := smSet (fun _ => none) a.fed slot (some u) }
    if sup = 0 then s2
    else
      let s3 := s2.bumpN R.FRAME_SUP sup
      if (s3.epochRt n).supRaised then s3 else (s3.mapEpoch n fun e => { e with supRaised := true }).event 0x2703 0 [(64, n)]

/-- A camera input at its `IN_DL` (R266, R267, R305, R310): chosen once per slot and epoch, at the slot's deadline. -/
def State.camInput (s : State) (c i t k : Nat) (x : InEnt) : State :=
  let n := s.instEpoch c i
  let used := fun (u : State) => (u.epochRt n).cams.find? (fun y => y.slot = x.src)
  let s1 := if (used s).isSome then s else s.camChoose n x.src x.fb (s.camDeadline c i x.src)
  match used s1 with
  | none => s1
  | some u =>
    let off := if u.status ≤ 2 then Int.fdiv ((u.ref : Int) - (s.cycOrigin c i : Int)) ftNs else noOldest
    let fell := decide (2 ≤ u.status)
    let s2 := s1.resolveInput c i t k (some off) fell
    if fell then s2.fellBack c i t k else s2

/-- `IN_DL` (R304, R305): an input that is ready counts as ready; otherwise it takes its fallback or resolves invalid. A
kind-1 input whose producing instance was never loaded has no producer that failed: its validity is free.
[DESIGN CHOICE, log entry 39] -/
def execInDl (c : Fin 8) (i : Nat) (t : BitVec 16) (k : Fin 8) (s : State) : Host.Outcome State Fault Refusal :=
  s.run fun s =>
    let c := c.val; let t := t.toNat; let k := k.val
    match s.openInput c i t k with
    | none => s
    | some (e, r, x) =>
      if s.now < s.cycOrigin c i + r.inDl * ftNs then s
      else if x.kind = 2 then s.camInput c i t k x
      else match s.inputNow e x with
        | .ready o => s.resolveInput c i t k (some o) false
        | .bad => s.resolveInput c i t k none false
        | .no =>
          if x.kind = 1 && (i = 0 || (s.entry c (i - 1) x.src).isNone) then
            let (d, s1) := s.draw
            s1.resolveInput c i t k (if d % 2 = 0 then none else some noOldest) false
          else if 3 ≤ x.kind && x.fb ≠ 0 then (s.resolveInput c i t k (some noOldest) true).fellBack c i t k
          else s.resolveInput c i t k none false

/-! ### Dispatch (R204, R303, R307) -/

/-- Every earlier task of the units has left WAIT and READY: the entries before this one in timetable order. -/
def State.unitsClear (s : State) (k : Nat × Nat × Nat) (t : TaskRec) : Bool :=
  (s.deep.tt.sb.takeWhile (fun e => e.key ≠ k)).all (fun e => match s.entTask e with
    | some u => !(u.shares t && (e.st = 1 || e.st = 2))
    | none => true)

/-- The words of the spur's stream (R300). -/
def State.spurStream (s : State) (t : TaskRec) (n : Nat) : List Nat :=
  let off := t.prog + ((n / 4 - t.unit / 4) * 4 + n % 4) * 8 * t.progW
  (List.range t.progW).map (fun i => leAt s.deep.tt.progs (off + 8 * i) 8)

/-- The instruction buffer from a list of words. -/
def loadIbuf (ws : List Nat) : SMap Nat :=
  (ws.foldl (fun (a : Nat × SMap Nat) w => (a.1 + 1, smSet (fun _ => 0) a.2 a.1 w)) (0, [])).2

/-- A spur starts a task: its stream, its generator's seed; the TRAP state ends (R186, R192). -/
def State.spurStart (s : State) (t : TaskRec) (k : Nat × Nat × Nat) (n : Nat) : State :=
  let s1 := s.mapSpur n fun x =>
    { x with pc := 0, ibuf := loadIbuf (s.spurStream t n), ibufP := 0, fence := none, waiting := false, ended := false,
             failedWrite := false, outBad := false, isat := false, task := some k }
  (s1.wr (R.SPUR_STATE n) 2).spurSeed n

/-- A cirque's descriptor file takes the task's live descriptors (R204). -/
def State.fileLoad (s : State) (t : TaskRec) (c : Nat) : State :=
  let f := t.descs.filterMap (fun h => (s.descWord h).map (fun w => (h, w)))
  s.mapDeep fun d => { d with files := smSet (fun _ => []) d.files c f }

/-- A fixed unit starts (R303). -/
def State.unitStart (s : State) (t : TaskRec) (k : Nat × Nat × Nat) : State :=
  if t.isSpur then t.spurList.foldl (fun u n => u.spurStart t k n) (t.cirques.foldl (fun u c => u.fileLoad t c) s)
  else if t.unit = 0x3000 then s.wr R.AG_STATE 2
  else if t.unit / 4096 = 4 then s.thStart (t.unit % 4096) t.prog k
  else if t.unit / 4096 = 5 then
    { s with host := { s.host with dma := smSet (fun _ => none) s.host.dma (t.unit % 4096)
                                     (some { word := t.prog, moved := false }) } }.wr (R.DMA_STATE (t.unit % 4096)) 1
      |> fun u => u.wr (R.DMA_ERR (t.unit % 4096)) 0
  else s

/-- No task in RUN holds the units. -/
def State.unitsEnded (s : State) (t : TaskRec) : Bool :=
  s.deep.tt.sb.all (fun e => match s.entTask e with
    | some u => !(u.shares t && e.st = 3)
    | none => true)

/-- `TASK_DISPATCH` (R303): READY to RUN. -/
def execTaskDispatch (c : Fin 8) (i : Nat) (t : BitVec 16) (s : State) : Host.Outcome State Fault Refusal :=
  s.run fun s =>
    match s.entry c.val i t.toNat, s.taskRec c.val t.toNat with
    | some e, some r =>
      if e.st = 2 && s.unitIdle r && s.unitsClear e.key r && s.unitsEnded r then
        (s.mapEntry e.key fun x => { x with st := 3 }).unitStart r e.key
      else s
    | _, _ => s

/-! ### Completion and abort (R303, R304, R306) -/

/-- Whether a running task has ended, and whether it has failed: none while it runs (R303, R304). -/
def State.taskEnd (s : State) (e : SbEntry) (t : TaskRec) : Option Bool :=
  if e.report = 2 then some true
  else if t.isSpur then
    (if t.spurList.all (fun n => (s.spur n).ended && (s.spur n).pend.all (fun p => p.2 = 0)) then some false else none)
  else if t.unit = 0x1000 then some false
  else if e.report = 1 then some false else none

/-- The outputs of a task are valid: no input was invalid and no unit marked them (R193, R305). -/
def State.taskValid (s : State) (e : SbEntry) (t : TaskRec) : Bool :=
  e.inbad = 0 && !e.outBad && t.spurList.all (fun n => !(s.spur n).outBad)

/-- The grid memory header when the task that writes the `WARP` buffer of its epoch is DONE (R269).
[DEDUCED, log entry 36] -/
def State.memWritten (s : State) (e : SbEntry) (t : TaskRec) (valid : Bool) : State :=
  let n := s.instEpoch e.cycle e.inst
  let warps := ((List.range 32).map s.agSpec).filter (fun b => !b.isEmpty && gOp (specHead b) = 3)
  let names := fun (b : Bytes) => let h := if n % 2 = 0 then gIn (specHead b) else gInAlt (specHead b)
    t.descs.contains h && (match s.descWord h with | some w => dWrites w | none => false)
  if e.cycle = 0 && t.isSpur && warps.any names then
    let (g, s1) := s.gridOf n
    let h := s1.memHdrNew n g valid
    s1.mapAg fun a => if n % 2 = 0 then { a with hdr0 := h } else { a with hdr1 := h }
  else s

/-- A spur returns to IDLE at the end of its task; a trapped one keeps TRAP (R192, R303).
[DEDUCED, log entry 38] -/
def State.spurEnd (s : State) (n : Nat) : State := (s.spurDrop n).wr (R.TASKS n) ((s.rd (R.TASKS n) + 1) % 2 ^ 64)

/-- The unit of a task that has ended is free again. -/
def State.unitFree (s : State) (t : TaskRec) : State :=
  if t.isSpur then t.spurList.foldl (fun u n => u.spurEnd n) s else s.unitStop t

/-- A task ends: DONE or FAILED (R303).
[DEDUCED, log entry 38] -/
def State.taskFinish (s : State) (e : SbEntry) (t : TaskRec) (failed : Bool) : State :=
  let valid := !failed && s.taskValid e t
  let s1 := s.mapEntry e.key fun x =>
    { x with st := if failed then 5 else 4, valid := valid, tEnd := s.offNs e.cycle e.inst s.now }
  let s2 := s1.unitFree t
  let s3 := if failed then (s2.bump R.FAIL_CNT).event 0x2805 t.unit [(16, e.task)]
    else (s2.add64 R.TASKS_DONE 1).memWritten e t valid
  s3.sigAdd t.sched t.doneCairn 1

/-- `TASK_COMPLETE` (R303). -/
def execTaskComplete (c : Fin 8) (i : Nat) (t : BitVec 16) (s : State) : Host.Outcome State Fault Refusal :=
  s.run fun s =>
    match s.entry c.val i t.toNat, s.taskRec c.val t.toNat with
    | some e, some r =>
      if e.st = 3 then (match s.taskEnd e r with
        | some f => s.taskFinish e r f
        | none => s)
      else s
    | _, _ => s

/-- `TASK_ABORT` (R304, R306): `DONE_DL` has come, and the task has not completed. -/
def execTaskAbort (c : Fin 8) (i : Nat) (t : BitVec 16) (s : State) : Host.Outcome State Fault Refusal :=
  s.run fun s =>
    match s.entry c.val i t.toNat, s.taskRec c.val t.toNat with
    | some e, some r =>
      if 1 ≤ e.st && e.st ≤ 3 && (s.injArmed 41 r.unit ||
          (s.cycOrigin c.val i + r.doneDl * ftNs ≤ s.now && !(e.st = 3 && (s.taskEnd e r).isSome))) then
        (((s.injHere 41 r.unit).abortEntry e s.now).bump R.ABORT_CNT).detect 41 r.unit [(16, e.task)]
      else s
    | _, _ => s

/-- `INSTANCE_EMPTY` (R303, R311): at origin + 2Q. -/
def execInstanceEmpty (c : Fin 8) (i : Nat) (s : State) : Host.Outcome State Fault Refusal :=
  s.run fun s =>
    let c := c.val
    if !s.deep.tt.loaded || s.now < s.cycOrigin c i + 2 * s.cycleQ c then s
    else
      let mine := fun (e : SbEntry) => e.cycle = c && e.inst = i
      let s1 := (s.deep.tt.sb.filter (fun e => mine e && e.st = 3)).foldl (fun u e => match u.entTask e with
        | some t => u.unitStop t
        | none => u) s
      let s2 := s1.mapTt fun t => { t with sb := t.sb.filter (fun e => !mine e), fbInst := t.fbInst.filter (fun p => p ≠ (c, i)) }
      if c = 0 then s2.mapAg fun a => { a with epochs := smDel a.epochs i } else s2

end Sys2Proof.Machine
end

