-- ==== Sys2Proof/Machine/Dispatch.lean ====
section
/-! DEFINITION. What each command does to the state: one arm per constructor, one meaning per arm. -/
namespace Sys2Proof.Machine

/-- The effect of a command on everything but the queue of waiting commands. -/
def exec (i : Instr) (s : State) : Host.Outcome State Fault Refusal :=
  match i with
  | .porstNRelease env => Sys2Proof.Machine.execPorstNRelease env s
  | .porstNAssert lowNs => Sys2Proof.Machine.execPorstNAssert lowNs s
  | .sysrstNAssert lowNs env => Sys2Proof.Machine.execSysrstNAssert lowNs env s
  | .swReset r cr env => Sys2Proof.Machine.execSwReset r cr env s
  | .pllLock clk => Sys2Proof.Machine.execPllLock clk s
  | .keeperStart testBlockOk trained => Sys2Proof.Machine.execKeeperStart testBlockOk trained s
  | .initPassComplete store readBackOk => Sys2Proof.Machine.execInitPassComplete store readBackOk s
  | .bootGo r => Sys2Proof.Machine.execBootGo r s
  | .pdOn r mask other => Sys2Proof.Machine.execPdOn r mask other s
  | .pdOff r mask other => Sys2Proof.Machine.execPdOff r mask other s
  | .domainSwitchDone pd => Sys2Proof.Machine.execDomainSwitchDone pd s
  | .clockOutOfRange clk => Sys2Proof.Machine.execClockOutOfRange clk s
  | .xtal25Fault => Sys2Proof.Machine.execXtal25Fault s
  | .tjWarnExceeded temp => Sys2Proof.Machine.execTjWarnExceeded temp s
  | .overTemperature temp => Sys2Proof.Machine.execOverTemperature temp s
  | .supplyOutOfWindow rail => Sys2Proof.Machine.execSupplyOutOfWindow rail s
  | .vmonFltClear rail => Sys2Proof.Machine.execVmonFltClear rail s
  | .envHoldEnd => Sys2Proof.Machine.execEnvHoldEnd s
  | .keeperLockstepMismatch => Sys2Proof.Machine.execKeeperLockstepMismatch s
  | .keeperWatchdog => Sys2Proof.Machine.execKeeperWatchdog s
  | .keeperMachineCheck => Sys2Proof.Machine.execKeeperMachineCheck s
  | .keeperRestart digestOk => Sys2Proof.Machine.execKeeperRestart digestOk s
  | .dramStackFailure stack => Sys2Proof.Machine.execDramStackFailure stack s
  | .trngHealthFail => Sys2Proof.Machine.execTrngHealthFail s
  | .rateAdjWrite r v => Sys2Proof.Machine.execRateAdjWrite r v s
  | .servoEnWrite r v => Sys2Proof.Machine.execServoEnWrite r v s
  | .srcSelWrite r v => Sys2Proof.Machine.execSrcSelWrite r v s
  | .sync p m => Sys2Proof.Machine.execSync p m s
  | .followUp p m => Sys2Proof.Machine.execFollowUp p m s
  | .pdelayReq p m => Sys2Proof.Machine.execPdelayReq p m s
  | .pdelayResp p m => Sys2Proof.Machine.execPdelayResp p m s
  | .pdelayRespFollowUp p m => Sys2Proof.Machine.execPdelayRespFollowUp p m s
  | .announce p m => Sys2Proof.Machine.execAnnounce p m s
  | .announceReceiptTimeout p => Sys2Proof.Machine.execAnnounceReceiptTimeout p s
  | .announceTx p => Sys2Proof.Machine.execAnnounceTx p s
  | .syncTx p => Sys2Proof.Machine.execSyncTx p s
  | .pdelayReqTx p => Sys2Proof.Machine.execPdelayReqTx p s
  | .sourceLoss => Sys2Proof.Machine.execSourceLoss s
  | .ppsEdge n rising hold => Sys2Proof.Machine.execPpsEdge n rising hold s
  | .restep r cr => Sys2Proof.Machine.execRestep r cr s
  | .asym r p cr => Sys2Proof.Machine.execAsym r p cr s
  | .cwParamCommit r t cr => Sys2Proof.Machine.execCwParamCommit r t cr s
  | .lockoutEnd => Sys2Proof.Machine.execLockoutEnd s
  | .launchFrameSubmit p launch data stamp => Sys2Proof.Machine.execLaunchFrameSubmit p launch data stamp s
  | .launchTimeReached p busy => Sys2Proof.Machine.execLaunchTimeReached p busy s
  | .frameTransmit p data stamp => Sys2Proof.Machine.execFrameTransmit p data stamp s
  | .tsPop r p => Sys2Proof.Machine.execTsPop r p s
  | .tioStartWrite r n which data => Sys2Proof.Machine.execTioStartWrite r n which data s
  | .tioPulse n => Sys2Proof.Machine.execTioPulse n s
  | .tioPulseEnd n => Sys2Proof.Machine.execTioPulseEnd n s
  | .tioEdge n rising hold pairToo => Sys2Proof.Machine.execTioEdge n rising hold pairToo s
  | .csi2FrameStart p vc hdr num => Sys2Proof.Machine.execCsi2FrameStart p vc hdr num s
  | .csi2LongPacket p vc hdr dt crcOk data => Sys2Proof.Machine.execCsi2LongPacket p vc hdr dt crcOk data s
  | .csi2FrameEnd p vc hdr num => Sys2Proof.Machine.execCsi2FrameEnd p vc hdr num s
  | .ethFrameRx p fcsOk frame => Sys2Proof.Machine.execEthFrameRx p fcsOk frame s
  | .canFrameRx c id data => Sys2Proof.Machine.execCanFrameRx c id data s
  | .spiDataReady m hold => Sys2Proof.Machine.execSpiDataReady m hold s
  | .spiTransferDone m data => Sys2Proof.Machine.execSpiTransferDone m data s
  | .uartSentence u startNs text framingOk => Sys2Proof.Machine.execUartSentence u startNs text framingOk s
  | .encoderSample slot => Sys2Proof.Machine.execEncoderSample slot s
  | .slotEn r slot v => Sys2Proof.Machine.execSlotEn r slot v s
  | .stale slot => Sys2Proof.Machine.execStale slot s
  | .dead slot => Sys2Proof.Machine.execDead slot s
  | .portSettingApply port => Sys2Proof.Machine.execPortSettingApply port s
  | .ethLinkDown p => Sys2Proof.Machine.execEthLinkDown p s
  | .canBusOff c => Sys2Proof.Machine.execCanBusOff c s
  | .talusPointTake => Sys2Proof.Machine.execTalusPointTake s
  | .setClose => Sys2Proof.Machine.execSetClose s
  | .octreeBuildDone => Sys2Proof.Machine.execOctreeBuildDone s
  | .rulebookTileDone => Sys2Proof.Machine.execRulebookTileDone s
  | .rulebookBuildDone => Sys2Proof.Machine.execRulebookBuildDone s
  | .setRelease buf => Sys2Proof.Machine.execSetRelease buf s
  | .poseRingWrite e => Sys2Proof.Machine.execPoseRingWrite e s
  | .sentinelPointTake => Sys2Proof.Machine.execSentinelPointTake s
  | .sliceClose => Sys2Proof.Machine.execSliceClose s
  | .sliceResult => Sys2Proof.Machine.execSliceResult s
  | .exchangeFrameRx rid slice hostLive failed map recs => Sys2Proof.Machine.execExchangeFrameRx rid slice hostLive failed map recs s
  | .peerUnreachable rid => Sys2Proof.Machine.execPeerUnreachable rid s
  | .evidenceExpiry group => Sys2Proof.Machine.execEvidenceExpiry group s
  | .plateClearDone => Sys2Proof.Machine.execPlateClearDone s
  | .corCommit r => Sys2Proof.Machine.execCorCommit r s
  | .corridorCurrent => Sys2Proof.Machine.execCorridorCurrent s
  | .corridorStale => Sys2Proof.Machine.execCorridorStale s
  | .suspectMaskClear r mask => Sys2Proof.Machine.execSuspectMaskClear r mask s
  | .comparatorMismatch => Sys2Proof.Machine.execComparatorMismatch s
  | .snclkOutOfRange => Sys2Proof.Machine.execSnclkOutOfRange s
  | .resultMissing => Sys2Proof.Machine.execResultMissing s
  | .fixedEmitterResult => Sys2Proof.Machine.execFixedEmitterResult s
  | .sntRestart r cr => Sys2Proof.Machine.execSntRestart r cr s
  | .selfTestDone ok => Sys2Proof.Machine.execSelfTestDone ok s
  | .sntHb => Sys2Proof.Machine.execSntHb s
  | .safeHoldExpiry => Sys2Proof.Machine.execSafeHoldExpiry s
  | .hazardFrameWindow busy => Sys2Proof.Machine.execHazardFrameWindow busy s
  | .hazardFrameWithdraw => Sys2Proof.Machine.execHazardFrameWithdraw s
  | .illegalClass n w => Sys2Proof.Machine.execIllegalClass n w s
  | .illegalOp n w => Sys2Proof.Machine.execIllegalOp n w s
  | .nop n f => Sys2Proof.Machine.execNop n f s
  | .jmp n f => Sys2Proof.Machine.execJmp n f s
  | .loop n f => Sys2Proof.Machine.execLoop n f s
  | .setl n f => Sys2Proof.Machine.execSetl n f s
  | .seta n f => Sys2Proof.Machine.execSeta n f s
  | .eot n f => Sys2Proof.Machine.execEot n f s
  | .trap n f => Sys2Proof.Machine.execTrap n f s
  | .wld n f far => Sys2Proof.Machine.execWld n f far s
  | .wldt n f far => Sys2Proof.Machine.execWldt n f far s
  | .mac n f far => Sys2Proof.Machine.execMac n f far s
  | .fadd n f => Sys2Proof.Machine.execFadd n f s
  | .fsub n f => Sys2Proof.Machine.execFsub n f s
  | .fmul n f => Sys2Proof.Machine.execFmul n f s
  | .fma n f => Sys2Proof.Machine.execFma n f s
  | .fmin n f => Sys2Proof.Machine.execFmin n f s
  | .fmax n f => Sys2Proof.Machine.execFmax n f s
  | .fabs n f => Sys2Proof.Machine.execFabs n f s
  | .fneg n f => Sys2Proof.Machine.execFneg n f s
  | .fcmp n f => Sys2Proof.Machine.execFcmp n f s
  | .sel n f => Sys2Proof.Machine.execSel n f s
  | .rcp n f => Sys2Proof.Machine.execRcp n f s
  | .rsq n f => Sys2Proof.Machine.execRsq n f s
  | .exp2 n f => Sys2Proof.Machine.execExp2 n f s
  | .log2 n f => Sys2Proof.Machine.execLog2 n f s
  | .cvt n f => Sys2Proof.Machine.execCvt n f s
  | .qmx n f => Sys2Proof.Machine.execQmx n f s
  | .itof n f => Sys2Proof.Machine.execItof n f s
  | .fimm n f => Sys2Proof.Machine.execFimm n f s
  | .iadd n f => Sys2Proof.Machine.execIadd n f s
  | .isub n f => Sys2Proof.Machine.execIsub n f s
  | .imul n f => Sys2Proof.Machine.execImul n f s
  | .isatadd n f => Sys2Proof.Machine.execIsatadd n f s
  | .andOp n f => Sys2Proof.Machine.execAndOp n f s
  | .orOp n f => Sys2Proof.Machine.execOrOp n f s
  | .xorOp n f => Sys2Proof.Machine.execXorOp n f s
  | .shl n f => Sys2Proof.Machine.execShl n f s
  | .shr n f => Sys2Proof.Machine.execShr n f s
  | .icmp n f => Sys2Proof.Machine.execIcmp n f s
  | .ldv n f far => Sys2Proof.Machine.execLdv n f far s
  | .stv n f => Sys2Proof.Machine.execStv n f s
  | .ldp n f far => Sys2Proof.Machine.execLdp n f far s
  | .stp n f => Sys2Proof.Machine.execStp n f s
  | .accrd n f => Sys2Proof.Machine.execAccrd n f s
  | .accwr n f => Sys2Proof.Machine.execAccwr n f s
  | .adda n f => Sys2Proof.Machine.execAdda n f s
  | .stsc n f => Sys2Proof.Machine.execStsc n f s
  | .mova n f => Sys2Proof.Machine.execMova n f s
  | .gath n f far => Sys2Proof.Machine.execGath n f far s
  | .scat n f far => Sys2Proof.Machine.execScat n f far s
  | .scata n f far => Sys2Proof.Machine.execScata n f far s
  | .fence n f => Sys2Proof.Machine.execFence n f s
  | .fenceComplete n => Sys2Proof.Machine.execFenceComplete n s
  | .pipeComplete n p => Sys2Proof.Machine.execPipeComplete n p s
  | .srReseed n => Sys2Proof.Machine.execSrReseed n s
  | .sigadd src f => Sys2Proof.Machine.execSigadd src f s
  | .sigset src f => Sys2Proof.Machine.execSigset src f s
  | .waitge src f tmoUs => Sys2Proof.Machine.execWaitge src f tmoUs s
  | .waiteq src f tmoUs => Sys2Proof.Machine.execWaiteq src f tmoUs s
  | .waitbit src f tmoUs => Sys2Proof.Machine.execWaitbit src f tmoUs s
  | .waiterWake agent => Sys2Proof.Machine.execWaiterWake agent s
  | .waitTimeout w => Sys2Proof.Machine.execWaitTimeout w s
  | .arm agent c v whole => Sys2Proof.Machine.execArm agent c v whole s
  | .notifyWrite c v whole => Sys2Proof.Machine.execNotifyWrite c v whole s
  | .claim r c => Sys2Proof.Machine.execClaim r c s
  | .unclaim r c => Sys2Proof.Machine.execUnclaim r c s
  | .hwReq r data => Sys2Proof.Machine.execHwReq r data s
  | .hwCancel r v => Sys2Proof.Machine.execHwCancel r v s
  | .cairnRecordError c => Sys2Proof.Machine.execCairnRecordError c s
  | .waiterRecordParity w => Sys2Proof.Machine.execWaiterRecordParity w s
  | .qPush q agent data poison => Sys2Proof.Machine.execQPush q agent data poison s
  | .qPop q agent words => Sys2Proof.Machine.execQPop q agent words s
  | .popResume q => Sys2Proof.Machine.execPopResume q s
  | .qemptyTo q => Sys2Proof.Machine.execQemptyTo q s
  | .qCommit q agent v => Sys2Proof.Machine.execQCommit q agent v s
  | .qAbort q agent v => Sys2Proof.Machine.execQAbort q agent v s
  | .qMark q agent v => Sys2Proof.Machine.execQMark q agent v s
  | .qRewind q agent v => Sys2Proof.Machine.execQRewind q agent v s
  | .qRelease q agent v => Sys2Proof.Machine.execQRelease q agent v s
  | .qFlush r q cr => Sys2Proof.Machine.execQFlush r q cr s
  | .qPeak r q => Sys2Proof.Machine.execQPeak r q s
  | .queuePointerMismatch q => Sys2Proof.Machine.execQueuePointerMismatch q s
  | .allocNew r data => Sys2Proof.Machine.execAllocNew r data s
  | .allocFree r id => Sys2Proof.Machine.execAllocFree r id s
  | .descNew r data => Sys2Proof.Machine.execDescNew r data s
  | .descFree r h => Sys2Proof.Machine.execDescFree r h s
  | .copyNew r data => Sys2Proof.Machine.execCopyNew r data s
  | .copyFree r id => Sys2Proof.Machine.execCopyFree r id s
  | .imgLoad r => Sys2Proof.Machine.execImgLoad r s
  | .admissionComplete x => Sys2Proof.Machine.execAdmissionComplete x s
  | .epochInstant => Sys2Proof.Machine.execEpochInstant s
  | .instanceOrigin c => Sys2Proof.Machine.execInstanceOrigin c s
  | .startMin c inst t => Sys2Proof.Machine.execStartMin c inst t s
  | .inputResolve c inst t k => Sys2Proof.Machine.execInputResolve c inst t k s
  | .inDl c inst t k => Sys2Proof.Machine.execInDl c inst t k s
  | .taskDispatch c inst t => Sys2Proof.Machine.execTaskDispatch c inst t s
  | .taskComplete c inst t => Sys2Proof.Machine.execTaskComplete c inst t s
  | .taskAbort c inst t => Sys2Proof.Machine.execTaskAbort c inst t s
  | .instanceEmpty c inst => Sys2Proof.Machine.execInstanceEmpty c inst s
  | .deepResult peer => Sys2Proof.Machine.execDeepResult peer s
  | .stoppedDeepResult => Sys2Proof.Machine.execStoppedDeepResult s
  | .resourceAccess res slot agent addr acc poison => Sys2Proof.Machine.execResourceAccess res slot agent addr acc poison s
  | .slotTableParity res slot => Sys2Proof.Machine.execSlotTableParity res slot s
  | .gateRewrite res slot => Sys2Proof.Machine.execGateRewrite res slot s
  | .liftDepth spec => Sys2Proof.Machine.execLiftDepth spec s
  | .liftAttn spec => Sys2Proof.Machine.execLiftAttn spec s
  | .voxPool spec => Sys2Proof.Machine.execVoxPool spec s
  | .warp spec => Sys2Proof.Machine.execWarp spec s
  | .almanacObjectWrite r idx data => Sys2Proof.Machine.execAlmanacObjectWrite r idx data s
  | .almClone r => Sys2Proof.Machine.execAlmClone r s
  | .almSwitch r cr => Sys2Proof.Machine.execAlmSwitch r cr s
  | .almanacSwitched => Sys2Proof.Machine.execAlmanacSwitched s
  | .llt u => Sys2Proof.Machine.execLlt u s
  | .ldlt u => Sys2Proof.Machine.execLdlt u s
  | .householderQr u => Sys2Proof.Machine.execHouseholderQr u s
  | .lu u => Sys2Proof.Machine.execLu u s
  | .triangularSolve u => Sys2Proof.Machine.execTriangularSolve u s
  | .gaussNewton u iters => Sys2Proof.Machine.execGaussNewton u iters s
  | .levenbergMarquardt u iters => Sys2Proof.Machine.execLevenbergMarquardt u iters s
  | .pcg u iters => Sys2Proof.Machine.execPcg u iters s
  | .waveComplete u => Sys2Proof.Machine.execWaveComplete u s
  | .tStop u => Sys2Proof.Machine.execTStop u s
  | .propagatorSample => Sys2Proof.Machine.execPropagatorSample s
  | .gnssOriginWrite r data => Sys2Proof.Machine.execGnssOriginWrite r data s
  | .scrubberSlot k chan upset => Sys2Proof.Machine.execScrubberSlot k chan upset s
  | .scrubReq r data => Sys2Proof.Machine.execScrubReq r data s
  | .scrubPassEnd => Sys2Proof.Machine.execScrubPassEnd s
  | .errPop r => Sys2Proof.Machine.execErrPop r s
  | .wtClear r id => Sys2Proof.Machine.execWtClear r id s
  | .wtVerifyDone => Sys2Proof.Machine.execWtVerifyDone s
  | .degradedEnd => Sys2Proof.Machine.execDegradedEnd s
  | .flipMask r cls cr => Sys2Proof.Machine.execFlipMask r cls cr s
  | .pcieReset kind => Sys2Proof.Machine.execPcieReset kind s
  | .pcieTrained gen width => Sys2Proof.Machine.execPcieTrained gen width s
  | .pcieUncorrectable => Sys2Proof.Machine.execPcieUncorrectable s
  | .dpData whole acc => Sys2Proof.Machine.execDpData whole acc s
  | .burstAperture off acc => Sys2Proof.Machine.execBurstAperture off acc s
  | .dpFence r => Sys2Proof.Machine.execDpFence r s
  | .remoteTimeout tag => Sys2Proof.Machine.execRemoteTimeout tag s
  | .dmaTail r c v => Sys2Proof.Machine.execDmaTail r c v s
  | .linearTransfer c hostData => Sys2Proof.Machine.execLinearTransfer c hostData s
  | .copyObjectTransfer c => Sys2Proof.Machine.execCopyObjectTransfer c s
  | .dmaTransferComplete c => Sys2Proof.Machine.execDmaTransferComplete c s
  | .dmaReset r c v => Sys2Proof.Machine.execDmaReset r c v s
  | .msixUnmask v => Sys2Proof.Machine.execMsixUnmask v s
  | .colLinkTrained l peer image variant => Sys2Proof.Machine.execColLinkTrained l peer image variant s
  | .colLinkDown l => Sys2Proof.Machine.execColLinkDown l s
  | .colWrite l f => Sys2Proof.Machine.execColWrite l f s
  | .colWriteAck l f => Sys2Proof.Machine.execColWriteAck l f s
  | .colReadRequest l f => Sys2Proof.Machine.execColReadRequest l f s
  | .colReadResponse l f => Sys2Proof.Machine.execColReadResponse l f s
  | .colCairnOperation l f => Sys2Proof.Machine.execColCairnOperation l f s
  | .mapSel r cr => Sys2Proof.Machine.execMapSel r cr s
  | .mapSwitch => Sys2Proof.Machine.execMapSwitch s
  | .peerAdmit r cr => Sys2Proof.Machine.execPeerAdmit r cr s
  | .peerReadmission => Sys2Proof.Machine.execPeerReadmission s
  | .rangeId r cr => Sys2Proof.Machine.execRangeId r cr s
  | .hostHb r => Sys2Proof.Machine.execHostHb r s
  | .hostTmo => Sys2Proof.Machine.execHostTmo s
  | .registerWrite r idx sub data => Sys2Proof.Machine.execRegisterWrite r idx sub data s
  | .cwShadowWrite r idx sub data => Sys2Proof.Machine.execCwShadowWrite r idx sub data s
  | .dwGoRead r => Sys2Proof.Machine.execDwGoRead r s
  | .dwGoWrite r => Sys2Proof.Machine.execDwGoWrite r s
  | .deferredStart => Sys2Proof.Machine.execDeferredStart s
  | .deferredDone => Sys2Proof.Machine.execDeferredDone s
  | .defTimeout => Sys2Proof.Machine.execDefTimeout s
  | .usdoDownload idx sub data last => Sys2Proof.Machine.execUsdoDownload idx sub data last s
  | .usdoUpload idx sub => Sys2Proof.Machine.execUsdoUpload idx sub s
  | .usdoSegment data last => Sys2Proof.Machine.execUsdoSegment data last s
  | .usdoSessionTimeout => Sys2Proof.Machine.execUsdoSessionTimeout s
  | .nmtStart => Sys2Proof.Machine.execNmtStart s
  | .nmtStop => Sys2Proof.Machine.execNmtStop s
  | .nmtEnterPreOperational => Sys2Proof.Machine.execNmtEnterPreOperational s
  | .nmtResetCommunication => Sys2Proof.Machine.execNmtResetCommunication s
  | .heartbeat => Sys2Proof.Machine.execHeartbeat s
  | .udpRead req => Sys2Proof.Machine.execUdpRead req s
  | .udpWrite req => Sys2Proof.Machine.execUdpWrite req s
  | .rbAdv r cr => Sys2Proof.Machine.execRbAdv r cr s
  | .fuseBurnDone => Sys2Proof.Machine.execFuseBurnDone s
  | .fkRevoke r slot cr => Sys2Proof.Machine.execFkRevoke r slot cr s
  | .mr7Extend r data => Sys2Proof.Machine.execMr7Extend r data s
  | .attGo r => Sys2Proof.Machine.execAttGo r s
  | .quoteReady => Sys2Proof.Machine.execQuoteReady s
  | .keyEnv r data => Sys2Proof.Machine.execKeyEnv r data s
  | .keyEnvelopeDone => Sys2Proof.Machine.execKeyEnvelopeDone s
  | .jtagReq r level => Sys2Proof.Machine.execJtagReq r level s
  | .jtagRelock r => Sys2Proof.Machine.execJtagRelock r s
  | .jtagResp r data => Sys2Proof.Machine.execJtagResp r data s
  | .jtagChallengeExpire => Sys2Proof.Machine.execJtagChallengeExpire s
  | .evtPop r => Sys2Proof.Machine.execEvtPop r s
  | .eventFrameTx => Sys2Proof.Machine.execEventFrameTx s
  | .injReq r cr => Sys2Proof.Machine.execInjReq r cr s
  | .injectionExpire => Sys2Proof.Machine.execInjectionExpire s
  | .lbEn r v => Sys2Proof.Machine.execLbEn r v s
  | .hostRingWrite => Sys2Proof.Machine.execHostRingWrite s
  | .timebaseRecord => Sys2Proof.Machine.execTimebaseRecord s
  | .rpGo r cr => Sys2Proof.Machine.execRpGo r cr s
  | .replayRecordApply => Sys2Proof.Machine.execReplayRecordApply s
  | .rpStop r => Sys2Proof.Machine.execRpStop r s
  | .replayUnderrun => Sys2Proof.Machine.execReplayUnderrun s
  | .sliceEnd => Sys2Proof.Machine.execSliceEnd s
  | .startOfTransmissionError p => Sys2Proof.Machine.execStartOfTransmissionError p s
  | .busOffRecovery c => Sys2Proof.Machine.execBusOffRecovery c s
  | .canBusError c passive => Sys2Proof.Machine.execCanBusError c passive s
  | .ethLinkUp p => Sys2Proof.Machine.execEthLinkUp p s
  | .busMasterEnable bme d0 => Sys2Proof.Machine.execBusMasterEnable bme d0 s
  | .correctableAerError => Sys2Proof.Machine.execCorrectableAerError s
  | .jtagInstructionLoad instr => Sys2Proof.Machine.execJtagInstructionLoad instr s
  | .replayRingRead recs => Sys2Proof.Machine.execReplayRingRead recs s
  | .flashWriteDone => Sys2Proof.Machine.execFlashWriteDone s

end Sys2Proof.Machine
end

