-- ==== Sys2Proof/Machine/Tick.lean ====
section
/-! DEFINITION. One TCLK cycle, which passes while no command waits (R42). -/
namespace Sys2Proof.Machine

/-- A TCLK cycle: the count, and Meridian's accumulator by INC = 2^33 + `RATE_ADJ` (R42). While `PORST_N` is low nothing
counts (R535).
[DESIGN CHOICE, log entries 1, 60] -/
def State.tick (s : State) : State :=
  if s.power.porstLow then s.fresh
  else
    let adj := s.rdI 32 R.RATE_ADJ
    { s with tclk := s.tclk + 1, clock := s.clock.advance ((incNom : Int) + adj).toNat,
             mer := { s.mer with adjSum := s.mer.adjSum + adj }, out := [] }

end Sys2Proof.Machine
end

