-- ==== Sys2Proof/Machine/Step.lean ====
section
/-! DEFINITION. One step of the block: the command at the front of the queue, or a TCLK cycle. -/
namespace Sys2Proof.Machine

/-- Take the oldest waiting command and carry it out with the rest of the queue; with none waiting, a TCLK cycle passes.
[DESIGN CHOICE, log entries 1, 2] -/
def step (s : State) : Host.Outcome State Fault Refusal :=
  match s.pending with
  | [] => .next s.tick
  | c :: rest => exec c { s with pending := rest }

/-- The state with the command that a word spells at the front of its queue.
[DESIGN CHOICE, log entry 2] -/
def State.withFetchWord (s : State) (nbits w : Nat) : State := match decodeTableWord nbits w with
  | some c => { s with pending := c :: s.pending }
  | none => s

end Sys2Proof.Machine
end

