-- ==== Sys2Proof/Safety.lean ====
section
/-! DEFINITION. What counts as a safe run of the block, and the words that statements about a command are made of. -/
namespace Sys2Proof.Machine

/-! ### Runs -/

/-- A step of `s` answers a next state. -/
def State.goesOn (s : State) : Prop := ∃ t, step s = .next t

/-- `n` steps from `s` all answer a next state, and end in `t`. -/
inductive Runs : Nat → State → State → Prop where
  | zero (s : State) : Runs 0 s s
  | succ {n : Nat} {s t u : State} (h : step s = .next t) (r : Runs n t u) : Runs (n + 1) s u

/-- What holds in every state that meets `inv` goes on holding. -/
def Kept (inv : State → Prop) : Prop := ∀ s t, inv s → step s = .next t → inv t

/-! ### A command that completes -/

/-- The command `c` completes with the effect `E`: outside reset, from every state that meets `P`, `exec` answers the next state
in which `E` has happened to the state the command starts from, and the events raised have been taken up (R507). -/
def Does (c : Instr) (P : State → Prop) (E : State → State) : Prop :=
  ∀ s : State, s.power.porstLow = false → P s.fresh → exec c s = .next (s.after (E s.fresh))

/-- A write of an entry on a route is taken: the route receives requests, its turn has come, no check of the entry refuses the
value (R460, R461, R463 to R465). -/
def State.takesWrite (s : State) (r idx sub : Nat) (data : Bytes) : Prop :=
  s.routeUp r = true ∧ s.routeBusy r = false ∧ s.writeReason idx sub data = 0

/-- A read of an entry on a route is taken. -/
def State.takesRead (s : State) (r idx sub : Nat) : Prop :=
  s.routeUp r = true ∧ s.routeBusy r = false ∧ s.readReason idx sub = 0

/-- What every write that took effect adds: `R_REASON` = `OK` (R467), and its Logbook record (R516). -/
def State.written (s : State) (r idx sub : Nat) (data : Bytes) : State := (s.succeed r).lbWrite r idx sub data

/-- Nothing waits before a deferred request (R475). -/
def State.keeperFree (s : State) : Prop :=
  s.routes.queue = [] ∧ s.routes.started = none ∧ s.dome.waitCommit = none

/-- A commit passes steps 1 to 7 of R480 at once, and needs no new R_c (R481). -/
def State.takesCommit (s : State) (r idx sub : Nat) (cr : CommitRec) : Prop :=
  s.routeUp r = true ∧ s.routeBusy r = false ∧ s.keeperUp = true ∧ s.keeperFree ∧ s.commitReason r idx sub cr = 0 ∧
    (s.nv.flashPresent && !s.dome.hostBoot && decide (s.dome.rc ≤ cr.counter.toNat)) = false

/-- An accepted commit: the counter, the shadow, the status, the event and the record of R480, then the target's effect on the
value the shadow held, then the route's answer. -/
def State.committed (s : State) (r idx sub : Nat) (cr : CommitRec) (apply : Bytes → State → State) : State :=
  (apply (s.shadowValue r) (s.commitAccept r idx sub cr (s.shadowValue r))).succeed r

/-- The write that a command carries on a route: route, index, subindex, value. The commands of other agents and those that
are no write carry none. -/
def writeRequest : Instr → Option (Nat × Nat × Nat × Bytes)
  | .bootGo r => some (r.val, 0x2E00, 0x0C, toLe 1 1)
  | .pdOn r m _ => some (r.val, 0x3000, 2, toLe 4 m.toNat)
  | .pdOff r m _ => some (r.val, 0x3000, 3, toLe 4 m.toNat)
  | .rateAdjWrite r v => some (r.val, 0x2100, 4, toLe 4 v.toNat)
  | .servoEnWrite r v => some (r.val, 0x2100, 5, toLe 1 (boolNat v))
  | .srcSelWrite r v => some (r.val, 0x2100, 6, toLe 1 v.toNat)
  | .tioStartWrite r n f d => some (r.val, 0x2120 + n.val, tioSub f, d)
  | .slotEn r i v => some (r.val, 0x2200 + i.val, 1, toLe 1 (boolNat v))
  | .corCommit r => some (r.val, 0x2510, 2, toLe 1 1)
  | .suspectMaskClear r m => some (r.val, 0x2500, 0x0E, toLe 12 m.toNat)
  | .claim r c => some (r.val, 0x2A00, 0x0E, toLe 2 c.toNat)
  | .unclaim r c => some (r.val, 0x2A00, 0x0F, toLe 2 c.toNat)
  | .hwReq r d => some (r.val, 0x2A04 + r.val, 1, d)
  | .hwCancel r v => some (r.val, 0x2A04 + r.val, 3, toLe 1 (boolNat v))
  | .allocNew r d => some (r.val, 0x2C30, 1, d)
  | .allocFree r i => some (r.val, 0x2C30, 2, toLe 2 i.toNat)
  | .descNew r d => some (r.val, 0x2C40, 1, d)
  | .descFree r h => some (r.val, 0x2C40, 2, toLe 4 h.toNat)
  | .copyNew r d => some (r.val, 0x2C50, 1, d)
  | .copyFree r i => some (r.val, 0x2C50, 2, toLe 2 i.toNat)
  | .imgLoad r => some (r.val, 0x2800, 2, toLe 1 1)
  | .almClone r => some (r.val, 0x2700, 8, [1])
  | .gnssOriginWrite r d => some (r.val, 0x2900, 4, d)
  | .scrubReq r d => some (r.val, 0x2C00, 0x0C, d)
  | .wtClear r i => some (r.val, 0x2C00, 7, toLe 2 i.toNat)
  | .dmaTail r c v => some (r.val, 0x2D40 + c.val, 8, toLe 4 v.toNat)
  | .dmaReset r c v => some (r.val, 0x2D40 + c.val, 9, toLe 1 (boolNat v))
  | .hostHb r => some (r.val, 0x2D00, 5, [1])
  | .mr7Extend r d => some (r.val, 0x2E02, 9, d)
  | .attGo r => some (r.val, 0x2E02, 0x0B, toLe 1 1)
  | .keyEnv r d => some (r.val, 0x2E01, 1, d)
  | .jtagReq r l => some (r.val, 0x2E03, 2, toLe 1 l.val)
  | .jtagRelock r => some (r.val, 0x2E03, 2, toLe 1 0)
  | .jtagResp r d => some (r.val, 0x2E03, 4, d)
  | .lbEn r v => some (r.val, 0x2F60, 1, toLe 1 (boolNat v))
  | .rpStop r => some (r.val, 0x2F70, 2, [1])
  | _ => none

/-- The commit that a command carries on a route: route, the target's index and subindex, the record (R478). -/
def commitRequest : Instr → Option (Nat × Nat × Nat × CommitRec)
  | .swReset r cr _ => some (r.val, 0x3000, 0x10, cr)
  | .restep r cr => some (r.val, 0x2100, 0x0C, cr)
  | .asym r p cr => some (r.val, 0x2110 + p.val, 3, cr)
  | .cwParamCommit r t cr => some (r.val, (cwEntry t).1, (cwEntry t).2, cr)
  | .sntRestart r cr => some (r.val, 0x2500, 0x1F, cr)
  | .qFlush r q cr => some (r.val, 0x2B00 + q.val, 0x10, cr)
  | .almSwitch r cr => some (r.val, 0x2700, 4, cr)
  | .flipMask r c cr => some (r.val, 0x2C10 + c.val, 1, cr)
  | .mapSel r cr => some (r.val, 0x2DA0, 5, cr)
  | .peerAdmit r cr => some (r.val, 0x2DA0, 4, cr)
  | .rangeId r cr => some (r.val, 0x2DA0, 1, cr)
  | .rbAdv r cr => some (r.val, 0x2E00, 0x0A, cr)
  | .fkRevoke r i cr => some (r.val, 0x2E04 + i.val, 4, cr)
  | .injReq r cr => some (r.val, 0x2F00, 0x0E, cr)
  | .rpGo r cr => some (r.val, 0x2F70, 1, cr)
  | _ => none

/-- A route takes a request now: it receives requests, and no earlier request of it is in progress (R463 to R465). -/
def State.routeTakes (s : State) (r : Nat) : Prop := s.routeUp r = true ∧ s.routeBusy r = false

/-- No event waits to be taken up. -/
def State.calm (s : State) : Prop := s.diag.raised = []

/-- A spur issues the word at its program counter (R171, R192). -/
def State.issues (s : State) (n word : Nat) : Prop :=
  s.spurReady n = true ∧ (s.spur n).parity = false ∧ (s.spur n).ibufP.testBit (s.spur n).pc = false ∧
    smGet (fun _ => 0) (s.spur n).ibuf (s.spur n).pc = word

/-! ### The shapes of completion -/

/-- The command acts whenever it comes. -/
def Acts (c : Instr) (E : State → State) : Prop := Does c (fun _ => True) E

/-- A write request that is taken has the effect `f`, which refuses nothing, and is recorded (R467, R516). -/
def Writes (c : Instr) (r idx sub : Nat) (d : Bytes) (f : State → State × Nat) : Prop :=
  Does c (fun s => s.takesWrite r idx sub d ∧ (f s).2 = 0) fun s => (f s).1.written r idx sub d

/-- A deferred write request finds Keeper free and has the effect `f` (R475). -/
def WritesKeeper (c : Instr) (r idx sub : Nat) (d : Bytes) (f : State → State × Nat) : Prop :=
  Does c (fun s => s.takesWrite r idx sub d ∧ s.keeperFree ∧ (f s).2 = 0) fun s => (f s).1.written r idx sub d

/-- A read request that is taken answers what `f` reads, with its effect (R467). -/
def Reads (c : Instr) (r idx sub : Nat) (f : State → Bytes × State) : Prop :=
  Does c (fun s => s.takesRead r idx sub) fun s => (f s).2.readReply r (f s).1 false

/-- A commit that passes every check takes effect (R480). -/
def Commits (c : Instr) (r idx sub : Nat) (cr : CommitRec) (check : Bytes → State → Nat) (apply : Bytes → State → State) : Prop :=
  Does c (fun s => s.takesCommit r idx sub cr ∧ check (s.shadowValue r) s = 0) fun s => s.committed r idx sub cr apply

/-- A spur that issues the word has the effect `E`, up to the end of a spur's command. -/
def Issues (c : Instr) (n word : Nat) (E : State → State) : Prop := Does c (fun s => s.issues n word) fun s => (E s).spurDone

/-- The masked lanes of `VD` become `g` of the spur and the lane; poisoned when a source `src` is (R181, R193). -/
def State.lanesTo (s : State) (n op f : Nat) (src : List Nat) (g : Spur → Nat → Nat) : State :=
  let x := s.spur n
  (s.setSpur n (x.putVec (fVD f) (x.mask (fMask f)) (ofLanes (g x)) (src.any fun i => x.vP.testBit i))).spurNext n
    (spurWord 2 op f) .vector

/-- The masked bits of `MD` become the condition of the lanes; where R190 lists no condition, a free mask (R181, R190). -/
def State.maskTo (s : State) (n op f : Nat) (g : Nat → Nat → Nat → Option Bool) : State :=
  let x := s.draw.2.spur n
  let bit := fun (i : Nat) =>
    if (x.mask (fMask f)).testBit i then
      (g (fVImm f % 8) (laneOf (x.vec (fVA f)) i) (laneOf (x.vec (fVB f)) i)).getD (s.draw.1.testBit i)
    else (x.mask (fMD f)).testBit i
  (s.draw.2.setSpur n (x.setMask (fMD f) ((List.range 32).foldl (fun a i => a + boolNat (bit i) * 2 ^ i) 0))).spurNext n
    (spurWord 2 op f) .vector

/-- A VEC instruction of one source that is issued. -/
def Vec1 (c : Instr) (n op f : Nat) (g : Nat → Nat) : Prop :=
  Issues c n (spurWord 2 op f) fun s => s.lanesTo n op f [fVA f] fun x i => g (laneOf (x.vec (fVA f)) i)

/-- A VEC instruction of two sources that is issued. -/
def Vec2 (c : Instr) (n op f : Nat) (g : Nat → Nat → Nat) : Prop :=
  Issues c n (spurWord 2 op f) fun s => s.lanesTo n op f [fVA f, fVB f] fun x i =>
    g (laneOf (x.vec (fVA f)) i) (laneOf (x.vec (fVB f)) i)

/-- A flit arrives in order and whole, of this device's image and for this device (R443, R444, R447). -/
def State.flitArrives (s : State) (l : Nat) (f : Flit) (typ : Nat) : Prop :=
  s.linkOn l = true ∧ s.rd (R.LINK_STATE l) = 2 ∧ f.typ.toNat = typ ∧ f.crcOk = true ∧ s.injArmed 30 l = false ∧
    (s.nextSeq l = none ∨ s.nextSeq l = some f.seqNo.toNat) ∧ smGet (fun _ => 0) s.host.linkImage l = s.rd R.IMAGE_ID ∧
    f.dstRid.val = s.host.rangeId

/-- A PTP message passes the checks of R563. -/
def State.ptpGood (s : State) (p : Nat) (m : PtpMsg) : Prop :=
  s.ptpOn p = true ∧ m.domain = s.rd R.DOMAIN_NUM ∧ m.short = false ∧ m.version = 2 ∧ m.tsNs < 1000000000

/-! ### Meridian's accumulator (R42) -/

/-- The parts of the accumulator are in range. -/
def Clock.valid (c : Clock) : Prop := c.sec < 2 ^ 64 ∧ c.ns < 1000000000 ∧ c.frac < 2 ^ 32

/-- The accumulator as one number of units of 2^−32 ns. -/
def Clock.units (c : Clock) : Nat := (c.sec * 1000000000 + c.ns) * 2 ^ 32 + c.frac

/-- A command of the `PORST_N` pin: the only ones that act while it is low (R535). -/
def ofPorst : Instr → Bool
  | .porstNRelease _ => true
  | .porstNAssert _ => true
  | _ => false

end Sys2Proof.Machine
end

