-- ==== Sys2Proof/Certificates/Slice0/Obligations.lean ====
section
/-! DEFINITION. The statements about the model: the block as a whole, its rules, and what each command does when it completes. -/
section
open Sys2Proof Sys2Proof.Machine

/-! ### The block as a whole -/

/-- A step carries out the command at the front of the queue on the rest of the state, whatever the command and the state. -/
def Obligations.StepTakesFront : Prop := ∀ (c : Instr) (s : State), step { s with pending := c :: s.pending } = exec c s

/-- The block never stops, and its queue is first in, first out: from every state, after any number of steps, a state is reached
in which exactly that many of the oldest waiting commands are gone and the rest wait in their order. No command ends in a fault or
a refusal, none adds or drops a waiting command. (The queue and the empty queue's tick are the model's own: log entries 1 and 2.) -/
def Obligations.BlockNeverStops : Prop :=
  ∀ (n : Nat) (s : State), ∃ t, Runs n s t ∧ t.pending = s.pending.drop n

/-- While `PORST_N` is low nothing acts: over any number of steps in which no command of the pin itself waits, the whole state
but the queue stays as it is, and nothing is sent.
The model's own conventions here: log entry 1. -/
def Obligations.ResetHoldsEverything : Prop :=
  ∀ (n : Nat) (s t : State), s.power.porstLow = true → (∀ c ∈ s.pending, ofPorst c = false) → Runs n s t →
    t = { s with pending := s.pending.drop n, out := if n = 0 then s.out else [] }

/-- While no command waits, time passes: after `n` cycles the TCLK count has gone up by `n`, Meridian's accumulator by `n` times
INC (seconds modulo 2^64), its parts are in range, and every register, the memory and the free-value counter are as they were.
The model's own conventions here: log entry 1. -/
def Obligations.IdleTimeAddsUp : Prop :=
  ∀ (n : Nat) (s : State), s.pending = [] → s.power.porstLow = false → s.clock.valid →
    ∃ t, Runs n s t ∧ t.tclk = s.tclk + n ∧ t.clock.valid ∧
      (t.clock.units : Int) = ((s.clock.units : Int) + n * (8589934592 + s.rdI 32 R.RATE_ADJ)) % (2 ^ 64 * 1000000000 * 2 ^ 32) ∧
      t.dict = s.dict ∧ t.mem = s.mem ∧ t.free = s.free ∧ t.pending = []

/-- R42: on every TCLK cycle the fraction goes up by INC = 8,589,934,592 + `RATE_ADJ`, carries into the nanoseconds at 2^32, and
they into the seconds at 10^9; a full time takes the upper 16 bits of the fraction.
The model's own conventions here: log entry 1. -/
def Obligations.TickAddsIncrement : Prop :=
  ∀ s : State, s.pending = [] → s.power.porstLow = false → s.clock.valid →
    ∃ t, step s = .next t ∧ t.clock.valid ∧
      (t.clock.units : Int) = ((s.clock.units : Int) + 8589934592 + s.rdI 32 R.RATE_ADJ) % (2 ^ 64 * 1000000000 * 2 ^ 32) ∧
      t.now = (t.clock.sec * 1000000000 + t.clock.ns) * 2 ^ 16 + t.clock.frac / 2 ^ 16 ∧
      t = { s with tclk := s.tclk + 1, clock := t.clock, mer := t.mer, out := [] }

/-- The state right after reset: no command waits, nothing is sent, memory lists nothing and is in its canonical form, every
dictionary entry reads its default (the entry tables'; R483), Meridian is in FREERUN with `RATE_ADJ` 0 and its accumulator in range, no store is open, no event
or error is logged, every queue and cairn is empty.
The model's own conventions here: log entries 3, 4 and 6. -/
def Obligations.ResetState : Prop :=
  State.reset.pending = [] ∧ State.reset.out = [] ∧ State.reset.mem.bytes = [] ∧ State.reset.mem.wf = true ∧
  (∀ k, State.reset.rd k = regDefault k) ∧ State.reset.rd R.MER_STATE = 0 ∧ State.reset.rd R.RATE_ADJ = 0 ∧
  State.reset.clock.valid ∧ State.reset.clock.units = 0 ∧ State.reset.now = 0 ∧
  (∀ n, n < 169 → State.reset.storeOpen n = false) ∧ State.reset.diag.log = [] ∧ State.reset.mem.errLog = [] ∧
  (∀ q, State.reset.queue q = Queue.empty) ∧ (∀ c, State.reset.cairn c = Cairn.idle)

/-- Taking up the events of a command (R506 to R510) changes no clock, no fuse, no key, no slot, no route, no allocation and no
unit's own state: only registers, the diagnostics, and what an event is sent through (its queue, the cairn it signals, MSI-X, the
outputs) change.
The model's own conventions here: log entry 8. -/
def Obligations.EventUptakeFrame : Prop :=
  ∀ s : State, s.settle.variant = s.variant ∧ s.settle.tclk = s.tclk ∧ s.settle.clock = s.clock ∧ s.settle.mer = s.mer ∧
    s.settle.net = s.net ∧ s.settle.objs = s.objs ∧ s.settle.siu = s.siu ∧ s.settle.talus = s.talus ∧ s.settle.snt = s.snt ∧
    s.settle.almSw = s.almSw ∧ s.settle.power = s.power ∧ s.settle.nv = s.nv ∧ s.settle.dome = s.dome ∧ s.settle.lb = s.lb ∧
    s.settle.routes = s.routes ∧ s.settle.allocs = s.allocs ∧ s.settle.deep = s.deep ∧ s.settle.free = s.free ∧
    s.settle.mem.openMask = s.mem.openMask

/-- A command that raises no event ends with nothing taken up: where none waits, the end of the command is its effect.
The model's own conventions here: log entry 8. -/
def Obligations.CalmCommandEnds : Prop :=
  ∀ (c : Instr) (P : State → Prop) (E : State → State), Does c P E →
    ∀ s : State, s.power.porstLow = false → P s.fresh → (E s.fresh).calm → exec c s = .next { E s.fresh with pending := s.pending }

/-! ### Requests and commits (chapter 16) -/

/-- A write request that its entry refuses (R467): whichever command carries it, nothing changes but the route's `R_REASON`,
`R_ENTRY`, `R_ABORTS` and `R_ABORT`, and what is sent. A request on a route that is not up, or has one in progress, does nothing
yet (R465; log entry 14). -/
def Obligations.RefusedWriteFrame : Prop :=
  ∀ (c : Instr) (r idx sub : Nat) (d : Bytes), writeRequest c = some (r, idx, sub, d) →
    Does c (fun s => s.routeTakes r ∧ s.writeReason idx sub d ≠ 0) (fun s => s.refuse r idx sub (s.writeReason idx sub d)) ∧
    Does c (fun s => s.routeUp r = false ∨ s.routeBusy r = true) (fun s => s) ∧
    ∀ (s : State) (x : Nat), r < 4 → ((s.refuse r idx sub x).rd (R.R_REASON r) = x ∧ (s.refuse r idx sub x).rd (R.R_ENTRY r) = idx * 65536 + sub * 256 ∧
      (s.refuse r idx sub x).rd (R.R_ABORTS r) = min (s.rd (R.R_ABORTS r) + 1) (2 ^ 32 - 1) ∧
      (∀ k, k ≠ R.R_REASON r → k ≠ R.R_ENTRY r → k ≠ R.R_ABORT r → k ≠ R.R_ABORTS r → (s.refuse r idx sub x).rd k = s.rd k) ∧
      s.refuse r idx sub x = { s with dict := (s.refuse r idx sub x).dict, out := (s.refuse r idx sub x).out })

/-- A commit that fails a check of R480, whichever command carries it: its reason goes to the route, `CMT_STATUS` reads it, and
`CMD_CTR` and every route's shadow stay as they were.
The model's own conventions here: log entries 14 and 50. -/
def Obligations.RefusedCommitFrame : Prop :=
  ∀ (c : Instr) (r idx sub : Nat) (cr : CommitRec), commitRequest c = some (r, idx, sub, cr) →
    Does c (fun s => s.routeTakes r ∧ s.keeperUp = true ∧ s.keeperFree ∧ s.commitReason r idx sub cr ≠ 0)
      (fun s => ((if s.commitReason r idx sub cr = 0x2008 then s.targetRefused idx sub 0x2008 else s).commitFail r idx sub
        (s.commitReason r idx sub cr)).refuse r idx sub (s.commitReason r idx sub cr)) ∧
    ∀ (s : State) (x : Nat), r < 4 →
      let t := ((if x = 0x2008 then s.targetRefused idx sub 0x2008 else s).commitFail r idx sub x).refuse r idx sub x
      t.rd R.CMD_CTR = s.rd R.CMD_CTR ∧ t.routes.shadow = s.routes.shadow ∧ t.rd R.CMT_STATUS = x ∧ t.rd (R.R_REASON r) = x ∧
        t.mem = s.mem ∧ t.clock = s.clock ∧ t.nv = s.nv ∧ t.dome = s.dome

/-- R480, the order: a commit is refused for the first of the checks it fails, and passes steps 1 to 7 exactly when none fails.
(Replay refuses every commit first, by R483.) -/
def Obligations.CommitChecksInOrder : Prop :=
  ∀ (s : State) (r idx sub : Nat) (cr : CommitRec) (k : Nat) (v : Bytes), s.replaying = false →
    ((cr.rsvd ≠ 0 → s.commitReason r idx sub cr = 0x2E01) ∧
     (cr.rsvd = 0 → isCw idx sub = false ∨ resourcePresent s.variant idx sub = false → s.commitReason r idx sub cr = 0x2E01)) ∧
    (cr.rsvd = 0 → isCw idx sub = true → resourcePresent s.variant idx sub = true →
      (s.shadow r = none → s.commitReason r idx sub cr = 0x2E02) ∧
      (s.shadow r = some (k, v) →
        (k ≠ entryKey idx sub → s.commitReason r idx sub cr = 0x2E02) ∧
        (k = entryKey idx sub →
          (s.keyCovers cr.keyId.toNat idx = false → s.commitReason r idx sub cr = 0x2E03) ∧
          (s.keyCovers cr.keyId.toNat idx = true →
            (s.rd R.CMD_CTR = 2 ^ 64 - 1 → s.commitReason r idx sub cr = 0x2E04) ∧
            (s.rd R.CMD_CTR ≠ 2 ^ 64 - 1 →
              (cr.counter.toNat ≤ s.rd R.CMD_CTR → s.commitReason r idx sub cr = 0x2E05) ∧
              (s.rd R.CMD_CTR < cr.counter.toNat →
                (s.commitTag cr.keyId.toNat idx sub v cr.counter.toNat ≠ toLe 16 cr.tag.toNat → s.commitReason r idx sub cr = 0x2E06) ∧
                (s.commitTag cr.keyId.toNat idx sub v cr.counter.toNat = toLe 16 cr.tag.toNat →
                  s.commitReason r idx sub cr = if s.inLockout then 0x2E07 else 0)))))))

/-- R482: the 16th failure at step 6 since the last accepted commit or lockout begins a lockout of 1 s of TCLK and raises event
0x2E03; earlier ones only count; a failure at another step neither counts nor ends the run; an accepted commit ends it;
`CMT_FAILS` counts the failures at step 6; in lockout a commit that passes steps 1 to 6 is refused at step 7. -/
def Obligations.LockoutAfterSixteen : Prop :=
  ∀ (s : State) (r idx sub : Nat) (cr : CommitRec) (v : Bytes) (x : Nat),
    (s.commitFail r idx sub 0x2E06).rd R.CMT_FAILS = min (s.rd R.CMT_FAILS + 1) (2 ^ 32 - 1) ∧
    (s.routes.failRun < 15 → (s.commitFail r idx sub 0x2E06).routes = { s.routes with failRun := s.routes.failRun + 1 } ∧
      (s.commitFail r idx sub 0x2E06).diag.raised.map RawEvent.code = s.diag.raised.map RawEvent.code ++ [0x2E02]) ∧
    (15 ≤ s.routes.failRun →
      (s.commitFail r idx sub 0x2E06).routes = { s.routes with failRun := 0, lockUntil := some (s.tclk + 500000000) } ∧
      (s.commitFail r idx sub 0x2E06).diag.raised.map RawEvent.code = s.diag.raised.map RawEvent.code ++ [0x2E02, 0x2E03]) ∧
    (x ≠ 0x2E06 → (s.commitFail r idx sub x).routes = s.routes ∧ (s.commitFail r idx sub x).rd R.CMT_FAILS = s.rd R.CMT_FAILS) ∧
    (s.commitAccept r idx sub cr v).routes.failRun = 0 ∧
    (∀ t, s.routes.lockUntil = some t → (s.inLockout = true ↔ s.tclk < t)) ∧
    (s.inLockout = true → s.commitReason r idx sub cr ≠ 0)

/-! ### Meridian, Talus, spurs: stated rules -/

/-- R119: the bits of the Morton code; it has 48 bits, and the coordinates come back from it. -/
def Obligations.MortonKey : Prop :=
  ∀ i j k : Nat, i < 2 ^ 16 → j < 2 ^ 16 → k < 2 ^ 16 →
    (∀ q, q < 16 → (morton i j k).testBit (3 * q) = i.testBit q ∧ (morton i j k).testBit (3 * q + 1) = j.testBit q ∧
      (morton i j k).testBit (3 * q + 2) = k.testBit q) ∧
    morton i j k < 2 ^ 48 ∧ unmorton (morton i j k) = (i, j, k)

/-- R178: a `MAC` whose `FMT` does not match the format of the buffer it reads traps with `FMT_MISMATCH`; E4M3 and E5M2 may mix
(2 with 3, 4 with 5), and E2M3 and E3M2 (6 with 7), and no others. -/
def Obligations.MacFormatMismatch : Prop :=
  (∀ f g : Nat, fmtMatch f g = true ↔ f = g ∨ (f, g) = (2, 3) ∨ (f, g) = (3, 2) ∨ (f, g) = (4, 5) ∨ (f, g) = (5, 4) ∨ (f, g) = (6, 7) ∨
    (f, g) = (7, 6)) ∧
  ∀ (n : Fin 128) (f : BitVec 54) (far : Option Bytes),
    Does (.mac n f far) (fun s => s.issues n.val (spurWord 1 3 f.toNat) ∧ fMmaFmt f.toNat < 0xC ∧
        fmtMatch (fMmaFmt f.toNat) ((s.spur n.val).wbuf (fWb f.toNat)).fmt = false)
      (fun s => (s.spurTrap n.val 0x03 (spurWord 1 3 f.toNat)).spurDone)

/-- What a trap records (R192): the spur is TRAPPED, and `TRAP_CODE`, `TRAP_PC`, `TRAP_WORD` name the cause, the word's place and
the word; `TRAP_CNT` counts it, the registers of other spurs and memory are as they were. -/
def Obligations.TrapRecords : Prop :=
  ∀ (s : State) (n code word : Nat), n < 128 → code ≠ 0x0B →
    let t := s.spurTrap n code word
    t.rd (R.SPUR_STATE n) = 3 ∧ t.rd (R.TRAP_CODE n) = code ∧ t.rd (R.TRAP_PC n) = (s.spur n).pc ∧ t.rd (R.TRAP_WORD n) = word ∧
      t.rd R.TRAP_CNT = min (s.rd R.TRAP_CNT + 1) (2 ^ 32 - 1) ∧ t.mem = s.mem ∧ t.deep.spurs = s.deep.spurs ∧
      ∀ m, m < 128 → m ≠ n → t.rd (R.SPUR_STATE m) = s.rd (R.SPUR_STATE m)

/-- A write to the masked lanes of a vector register leaves the other lanes, the other registers and the masks as they were; `M0`
reads all ones and discards writes (R168, R181). -/
def Obligations.MaskedLaneWrite : Prop :=
  ∀ (x : Spur) (d m v : Nat) (p : Bool),
    (∀ i, i < 32 → laneOf ((x.putVec d m v p).vec d) i = if m.testBit i then laneOf v i else laneOf (x.vec d) i) ∧
    (∀ e, e ≠ d → (x.putVec d m v p).vec e = x.vec e) ∧ (x.putVec d m v p).m = x.m ∧ (x.putVec d m v p).acc = x.acc ∧
    x.mask 0 = 2 ^ 32 - 1 ∧ x.setMask 0 v = x

/-! ### Cairns (chapter 12) -/

/-- R347: the value a signal leaves in an ARMED cairn, and when each condition is satisfied. -/
def Obligations.CairnOperations : Prop :=
  (∀ (s : State) (a c v : Nat), (s.cairn c).cstate = .armed →
    (s.applySignal a c true v).2 = true ∧ ((s.applySignal a c true v).1.cairn c).value = ((s.cairn c).value + v) % 2 ^ 32 ∧
    (s.applySignal a c false v).2 = true ∧ ((s.applySignal a c false v).1.cairn c).value = v % 2 ^ 32) ∧
  ∀ v t : Nat, v < 2 ^ 32 → t < 2 ^ 32 →
    (condHolds 0 v t = true ↔ ((v : Int) - t) % 2 ^ 32 < 2 ^ 31) ∧ (condHolds 1 v t = true ↔ v = t) ∧
    (condHolds 2 v t = true ↔ v &&& t = t) ∧ condHolds 2 v 0 = true

/-- A wait when it reaches the Cairn Store (R349, R352): on a cairn that is not ARMED it completes with `POISON`; satisfied, with
`OK`, and takes no record; otherwise it sleeps on the lowest free record of its pool, and with none it ends with `NO_WAITER`.
The model's own conventions here: log entry 45. -/
def Obligations.WaitOutcomes : Prop :=
  ∀ (s : State) (a c cond target tmo : Nat) (vec : Option Nat),
    ((s.cairn c).cstate ≠ .armed → s.wait a c cond target tmo vec = (s, some .poison)) ∧
    ((s.cairn c).cstate = .armed → condHolds cond (s.cairn c).value target = true → s.wait a c cond target tmo vec = (s, some .ok)) ∧
    ((s.cairn c).cstate = .armed → condHolds cond (s.cairn c).value target = false → ∀ w, s.freeWaiter a = some w →
      (s.wait a c cond target tmo vec).2 = none ∧
      (s.wait a c cond target tmo vec).1.waiter w =
        some { cairn := c, cond := cond, target := target, agent := a, deadline := s.now + tmo * ftUs, vector := vec } ∧
      ((s.wait a c cond target tmo vec).1.cairn c).waiters = (s.cairn c).waiters ++ [w] ∧
      (s.wait a c cond target tmo vec).1.mem = s.mem) ∧
    ((s.cairn c).cstate = .armed → condHolds cond (s.cairn c).value target = false → s.freeWaiter a = none →
      (s.wait a c cond target tmo vec).2 = some .noWaiter ∧ (s.wait a c cond target tmo vec).1.cs = s.cs)

/-- R364: a claim of a FREE cairn makes it ARMED for the route with `VALUE` and `REST` 0; of another it aborts with `CAIRN_BUSY`.
An unclaim by the owner's route poisons the cairn and then makes it FREE; from another route it aborts with `NOT_OWNER`. -/
def Obligations.ClaimAndUnclaim : Prop :=
  ∀ (r : Route) (c : BitVec 16),
    Does (.claim r c) (fun s => s.takesWrite r.val 0x2A00 0x0E (toLe 2 c.toNat) ∧ (s.cairn c.toNat).cstate = .free)
      (fun s => ((s.disarmCairn c.toNat).setCairn c.toNat
        { s.cairn c.toNat with cstate := .armed, value := 0, rest := 0, owner := 0x7000 + r.val }).written r.val 0x2A00 0x0E
          (toLe 2 c.toNat)) ∧
    Does (.claim r c) (fun s => s.takesWrite r.val 0x2A00 0x0E (toLe 2 c.toNat) ∧ (s.cairn c.toNat).cstate ≠ .free)
      (fun s => s.refuse r.val 0x2A00 0x0E 0x2A01) ∧
    Does (.unclaim r c) (fun s => s.takesWrite r.val 0x2A00 0x0F (toLe 2 c.toNat) ∧ (s.cairn c.toNat).cstate ≠ .free ∧
        (s.cairn c.toNat).owner = 0x7000 + r.val)
      (fun s => ((s.poisonCairn c.toNat).setCairn c.toNat Cairn.idle).written r.val 0x2A00 0x0F (toLe 2 c.toNat)) ∧
    Does (.unclaim r c) (fun s => s.takesWrite r.val 0x2A00 0x0F (toLe 2 c.toNat) ∧ ((s.cairn c.toNat).cstate = .free ∨
        (s.cairn c.toNat).owner ≠ 0x7000 + r.val))
      (fun s => s.refuse r.val 0x2A00 0x0F 0x2A02) ∧
    Cairn.idle.cstate = .free

/-! ### Queues (chapter 13) -/

/-- R396: the fields of `Q_PTRS`, for pointers of 32 bits; the bits above 160 are 0. -/
def Obligations.QueuePointerLayout : Prop :=
  ∀ (s : State) (q : Nat), (s.queue q).wp < 2 ^ 32 → (s.queue q).cp < 2 ^ 32 → (s.queue q).rp < 2 ^ 32 → (s.queue q).mp < 2 ^ 32 →
    (s.queue q).lp < 2 ^ 32 →
    bitsOf 31 0 (s.qPtrs q) = (s.queue q).wp ∧ bitsOf 63 32 (s.qPtrs q) = (s.queue q).cp ∧ bitsOf 95 64 (s.qPtrs q) = (s.queue q).rp ∧
      bitsOf 127 96 (s.qPtrs q) = (s.queue q).mp ∧ bitsOf 159 128 (s.qPtrs q) = (s.queue q).lp ∧ bitsOf 191 160 (s.qPtrs q) = 0

/-- What is pushed is what is popped: a word that the producer stores in an empty queue outside packet mode counts 1, and the
consumer's next pop takes exactly that word, unpoisoned, and leaves the queue empty again (R381, R385, R387). -/
def Obligations.PushThenPop : Prop :=
  ∀ (s : State) (q agent : Nat) (w : Bytes), s.qEnabled q = true → s.qPkt q = false → w.length = 8 →
    (s.queue q).wp < 2 * s.qWords q → (s.queue q).rp = (s.queue q).wp → s.rd (R.FLIP_ARMED 8) = 0 → s.injArmed 14 agent = false →
    s.rd (R.Q_BASE q) + s.qWords q ≤ 524288 → q < 256 →
    let t := s.qStore q w false
    t.qCount q = 1 ∧ (t.qTake q agent).1 = w ∧ (t.qTake q agent).2.1 = false ∧ ((t.qTake q agent).2.2).qCount q = 0

/-- A push or pop by an agent other than the declared one is ignored (R384): the queue's pointers and memory stay, `FOREIGN`
counts it, event 0x2B04 names queue and agent, and the pop returns empty markers. The data port's own pops are those of `DP_DATA`
and `BURST_APERTURE`. -/
def Obligations.ForeignAgentIgnored : Prop :=
  (∀ (q : Fin 256) (a : BitVec 16) (d : Bytes) (p : Bool), a.toNat / 4096 ≠ 7 →
    Does (.qPush q a d p) (fun s => s.qEnabled q.val = true ∧ d.length % 8 = 0 ∧ agentMatches (s.rd (R.Q_PROD q.val)) a.toNat = false)
      (fun s => (s.bump (R.FOREIGN q.val)).event 0x2B04 a.toNat [(8, q.val)])) ∧
  (∀ (q : Fin 256) (a : BitVec 16) (n : Fin 257), a.toNat / 4096 ≠ 7 →
    Does (.qPop q a n) (fun s => s.qEnabled q.val = true ∧ agentMatches (s.rd (R.Q_CONS q.val)) a.toNat = false)
      (fun s => ((s.bump (R.FOREIGN q.val)).event 0x2B04 a.toNat [(8, q.val)]).emit (.popData a.toNat false (markers n.val)))) ∧
  ∀ (s : State) (q a : Nat), ((s.bump (R.FOREIGN q)).event 0x2B04 a [(8, q)]).queues = s.queues ∧
    ((s.bump (R.FOREIGN q)).event 0x2B04 a [(8, q)]).mem = s.mem

/-! ### Memory (chapter 14) -/

/-- A write of local memory that is accepted changes the bytes written, to the data, and no other byte (R400). -/
def Obligations.MemoryWriteFrame : Prop :=
  ∀ (s : State) (agent a : Nat) (d : Bytes) (p : Bool), s.accStatus a d.length = .ok → s.injArmed 14 agent = false →
    (s.writeMem agent a d p).1 = .ok ∧
    (∀ i (h : i < d.length), (s.writeMem agent a d p).2.byte (a + i) = d[i]) ∧
    (∀ c, (c < a ∨ a + d.length ≤ c) → (s.writeMem agent a d p).2.byte c = s.byte c)

/-- A write of one whole 16-byte word stores fresh check bits and clears any poison; a poisoned one poisons it (R403): the next
read of the word gives the data, poisoned exactly when it was written so. -/
def Obligations.WholeWordWrite : Prop :=
  ∀ (s : State) (writer reader w : Nat) (d : Bytes) (p : Bool), w % 16 = 0 → d.length = 16 → classOf (regionOf s.variant w) < 8 →
    s.accStatus w 16 = .ok → s.injArmed 14 writer = false → s.injArmed 14 reader = false →
    s.rd (R.FLIP_ARMED (classOf (regionOf s.variant w))) = 0 →
    let t := (s.writeMem writer w d p).2
    (t.readMem reader w 16).st = .ok ∧ (t.readMem reader w 16).data = d ∧ (t.readMem reader w 16).poison = p

/-- Errors of a code word that was not poisoned (R402): one confined to one aligned nibble is corrected, and names it; one of 1 or
2 bits is corrected or reported as uncorrectable; none is clean.
The model's own conventions here: log entry 12. -/
def Obligations.CodeOutcomes : Prop :=
  (∀ n x : Nat, n < 36 → 0 < x → x < 16 → codeOutcome { mask := x * 2 ^ (4 * n), poison := false } = .corrected n) ∧
  (∀ m : Nat, m < 2 ^ 144 → 0 < popCount 144 m → popCount 144 m ≤ 2 →
    codeOutcome { mask := m, poison := false } = .uncorrectable ∨ ∃ n, n < 36 ∧ codeOutcome { mask := m, poison := false } = .corrected n) ∧
  codeOutcome { mask := 0, poison := false } = .clean ∧ codeOutcome { mask := 0, poison := true } = .poisoned

/-- R415: a full error log discards the entry, counts it in `LOG_LOST` and raises event 0x2C05 at the first loss since it was last
empty; the counters of the class count every detection all the same. -/
def Obligations.ErrorLogFull : Prop :=
  (∀ (s : State) (a agent synd cls kind nib : Nat), s.mem.errLog.length = 64 →
    let t := s.logError a agent synd cls kind nib
    t.mem.errLog = s.mem.errLog ∧ t.rd R.LOG_LOST = min (s.rd R.LOG_LOST + 1) (2 ^ 32 - 1) ∧
    t.diag.raised.map RawEvent.code = s.diag.raised.map RawEvent.code ++ (if s.mem.lostSinceEmpty then [] else [0x2C05]) ∧
    t.mem.lostSinceEmpty = true) ∧
  (∀ (s : State) (e : Nat), s.mem.errLog = [e] → s.errPop.2.mem.errLog = [] ∧ s.errPop.2.mem.lostSinceEmpty = false) ∧
  ∀ (s : State) (a agent : Nat), let cls := classOf (regionOf s.variant a)
    cls < 12 →
    (∀ n, (s.detectWord a agent (.corrected n)).rd (R.CE_CNT cls) = min (s.rd (R.CE_CNT cls) + 1) (2 ^ 32 - 1)) ∧
    (s.detectWord a agent .uncorrectable).rd (R.UE_CNT cls) = min (s.rd (R.UE_CNT cls) + 1) (2 ^ 32 - 1) ∧
    (s.detectWord a agent .mismatch).rd (R.AMM_CNT cls) = min (s.rd (R.AMM_CNT cls) + 1) (2 ^ 32 - 1) ∧
    (s.detectWord a agent .parity).rd (R.UE_CNT cls) = min (s.rd (R.UE_CNT cls) + 1) (2 ^ 32 - 1)

/-- R508: the event log holds 256 records, `EVT_POP` takes the oldest and reads zeros when it is empty; a full log discards the
record, counts it and marks the next one logged; and when `EVT_QUEUE` names one of Q000 to Q063 whose producer is 0xA000, a logged
record is pushed there as one packet when `Q_FREE` is at least 4, and otherwise counted in `EVT_QLOST`. -/
def Obligations.EventLog : Prop :=
  ∀ (s : State) (x0 : Nat),
    (∀ e t, s.diag.log = e :: t → s.evtPop = (toLe 32 e, { s with diag := { s.diag with log := t } })) ∧
    (s.diag.log = [] → s.evtPop = (toLe 32 0, s)) ∧
    (256 ≤ s.diag.log.length → (s.logEvent x0).diag.log = s.diag.log ∧ (s.logEvent x0).rd R.EVT_LOST = min (s.rd R.EVT_LOST + 1) (2 ^ 32 - 1) ∧
      (s.logEvent x0).diag.lost = true) ∧
    (∀ e, s.diag.hold = [] → (s.evtRoute e.code).testBit 11 = true → s.diag.log.length < 256 →
      ∃ x, (s.takeEvent e).diag.log = s.diag.log ++ [x] ∧ bitsOf 5 5 x = boolNat s.diag.lost ∧ (s.takeEvent e).diag.lost = false) ∧
    (s.diag.log.length < 256 →
      let s1 : State := { s with diag := { s.diag with log := s.diag.log ++ [x0], lost := false } }
      s.logEvent x0 =
        if s.rd R.EVT_QUEUE < 64 ∧ s.rd (R.Q_PROD (s.rd R.EVT_QUEUE)) = 0xA000 then
          (if 4 ≤ s1.qFree (s.rd R.EVT_QUEUE) then s1.qPacket (s.rd R.EVT_QUEUE) 0xA000 (toLe 32 x0) else s1.bump R.EVT_QLOST)
        else s1)

/-- An error counter counts by one and stays at 2^32 − 1 (R21); no other register changes. -/
def Obligations.CountersSaturate : Prop :=
  ∀ (s : State) (k : Nat), (s.bump k).rd k = min (s.rd k + 1) (2 ^ 32 - 1) ∧ (∀ j, j ≠ k → (s.bump k).rd j = s.rd j) ∧
    s.bump k = { s with dict := (s.bump k).dict }

/-- An armed injection acts once (R515): the evaluation that meets it disarms it, `INJ_STATE` reads 2 and event 0x2F76 is raised; an
evaluation of another detector or instance leaves it armed. -/
def Obligations.InjectionActsOnce : Prop :=
  ∀ (s : State) (nn i : Nat),
    (s.injArmed nn i = true → (s.injHere nn i).diag.inj = none ∧ (s.injHere nn i).rd R.INJ_STATE = 2 ∧
      (s.injHere nn i).diag.raised.map RawEvent.code = s.diag.raised.map RawEvent.code ++ [0x2F76] ∧
      (s.injHere nn i).injArmed nn i = false ∧ (s.injHere nn i).mem = s.mem) ∧
    (s.injArmed nn i = false → s.injHere nn i = s)

/-! ### Power, clocks, reset, Keeper (chapter 19) -/

/-- The pins, the resets, the start of Keeper and the initialisation passes complete (R407, R491, R494, R533, R535, R536, R539):
the release starts the ROM once, an assertion of at least 200 ns leaves the whole device at its reset values, the narrower reset
keeps what R536 keeps, a pass opens its store.
The model's own conventions here: log entries 3, 6 and 56. -/
def Obligations.ResetAndBootComplete : Prop :=
  (∀ (env : BootEnv) (s : State), s.power.booted = false ∨ s.power.porstLow = true →
    exec (.porstNRelease env) s = .next (s.after (s.fresh.romBoot env))) ∧
  (∀ (n : Nat) (s : State), 200 ≤ n → exec (.porstNAssert n) s =
    .next { State.reset with variant := s.variant, nv := s.nv, free := s.free, pending := s.pending,
                             power := { Power.reset with porstLow := true } }) ∧
  (∀ (n : Nat) (s : State), n < 200 → exec (.porstNAssert n) s = .next s.fresh) ∧
  (∀ (n : Nat) (env : BootEnv), 200 ≤ n → Acts (.sysrstNAssert n env) fun s => s.sysReset 2 env) ∧
  (∀ (n : Nat) (env : BootEnv), n < 200 → Acts (.sysrstNAssert n env) fun s => s) ∧
  (∀ (r : Route) (cr : CommitRec) (env : BootEnv), Commits (.swReset r cr env) r.val 0x3000 0x10 cr swResetCheck (swResetApply env)) ∧
  (∀ k : Fin 8, Acts (.pllLock k) fun s => s.wr R.CLK_LOCK (setBit (s.rd R.CLK_LOCK) k.val)) ∧
  (∀ (b : BootImage) (t u : Bool), Does (.keeperStart t u) (fun s => s.dome.boot = some b ∧ s.diag.keeperRun = false)
    fun s => s.startKeeper b t u) ∧
  (∀ n : Fin 169, Does (.initPassComplete n true) (fun s => s.passRuns n.val = true ∧ s.injArmed 17 n.val = false)
    fun s => s.passComplete n.val) ∧
  (∀ n : Fin 169, Does (.initPassComplete n false) (fun s => s.passRuns n.val = true)
    fun s => ((s.injHere 17 n.val).detect 17 0 []).failDevice) ∧
  (∀ r : Route, Writes (.bootGo r) r.val 0x2E00 0x0C (toLe 1 1) State.bootGo)

/-- Domains, clocks, temperature and supplies (R527, R531, R534, R552): requests of domains, the end of a switch, and the
conditions of the environment with what each stops and reports.
The model's own conventions here: log entry 59. -/
def Obligations.PowerCommandsComplete : Prop :=
  (∀ (r : Route) (m o : BitVec 32), Writes (.pdOn r m o) r.val 0x3000 2 (toLe 4 m.toNat) fun s => s.pdOnReq r.val m.toNat o.toNat) ∧
  (∀ (r : Route) (m o : BitVec 32), Writes (.pdOff r m o) r.val 0x3000 3 (toLe 4 m.toNat) fun s => s.pdOffReq r.val m.toNat o.toNat) ∧
  (∀ d : Fin 32, Does (.domainSwitchDone d) (fun s => s.power.switching.contains d.val = true) fun s => s.switchDone d.val) ∧
  (∀ k : Fin 7, k.val ≠ 3 → k.val ≠ 4 → Acts (.clockOutOfRange k) fun s =>
    let t := (((s.wr R.CLK_FAULT (setBit (s.rd R.CLK_FAULT) k.val)).injHere 5 k.val).detect 5 0 [(8, k.val)]).envCondition 0
    if k.val = 6 then t.keeperHold else t.deepAbortAll) ∧
  Acts .xtal25Fault (fun s =>
    let t := ((s.injHere 6 0).detect 6 0 []).envCondition 1
    (({ t with power := { t.power with refInternal := true } }.merHoldover).enterSafe).deepAbortAll) ∧
  (∀ v : Int, Does (.tjWarnExceeded v) (fun s => s.injArmed 7 0 = false ∧ s.rdI 16 R.TJ_WARN < v)
    fun s => (s.sampleTj v).detect 7 0 []) ∧
  (∀ v : Int, Does (.overTemperature v) (fun s => s.injArmed 8 0 = false ∧ 125 < v) fun s =>
    let t := ((s.sampleTj v).detect 8 0 []).envCondition 2
    ({ t with power := { t.power with clkStopped := true } }.enterSafe).deepAbortAll) ∧
  (∀ n : Fin 8, Acts (.supplyOutOfWindow n) fun s =>
    ((((s.injHere 9 0).wr R.VMON_FLT (setBit (s.rd R.VMON_FLT) n.val)).detect 9 0 [(8, n.val)]).envCondition 3).enterSafe.deepAbortAll) ∧
  (∀ n : Fin 8, Acts (.vmonFltClear n) fun s => s.wr R.VMON_FLT (clearBit (s.rd R.VMON_FLT) n.val)) ∧
  Does .envHoldEnd (fun s => s.rd R.ENV_HOLD ≠ 0) (fun s =>
    let t := ((s.wr R.ENV_HOLD 0).wr R.CLK_FAULT 0).event 0x3004 0 [(8, 1)]
    { t with power := { t.power with clkStopped := false, refInternal := false },
             diag := { t.diag with keeperHeld := t.diag.keeperHeld && (t.rd R.FAULT_CAUSE).testBit 4 } }.deepResume)

/-- The faults of Keeper, of the DRAM and of the TRNG (R490, R512, R513): the detector reports, Keeper is held and restarts, or the
device fails.
The model's own conventions here: log entry 57. -/
def Obligations.KeeperFaultsComplete : Prop :=
  Does .keeperLockstepMismatch (fun s => s.keeperUp = true) (fun s => ((s.injHere 1 0).detect 1 0x6000 []).keeperDown) ∧
  Does .keeperWatchdog (fun s => s.keeperUp = true) (fun s => ((s.injHere 2 0).detect 2 0x6000 []).keeperDown) ∧
  Does .keeperMachineCheck (fun s => s.keeperUp = true) (fun s => ((s.injHere 3 0).detect 3 0x6000 []).keeperDown) ∧
  Does (.keeperRestart true) (fun s => s.diag.keeperHeld = true ∧ s.diag.keeperRun = true ∧ (s.rd R.CLK_FAULT).testBit 6 = false ∧
      (s.rd R.FAULT_CAUSE).testBit 4 = false ∧ s.diag.restarts.length < 4 ∧ s.injArmed 4 0 = false)
    (fun s => { s with diag := { s.diag with keeperHeld := false } }) ∧
  Does (.keeperRestart false) (fun s => s.diag.keeperHeld = true ∧ s.diag.keeperRun = true ∧ (s.rd R.CLK_FAULT).testBit 6 = false ∧
      (s.rd R.FAULT_CAUSE).testBit 4 = false)
    (fun s => (((s.injHere 4 0).detect 4 0x6000 []).wr R.FAULT_CAUSE (setBit (s.rd R.FAULT_CAUSE) 4)).failDevice) ∧
  (∀ k : Fin 2, Does (.dramStackFailure k) (fun s => s.variant ≠ 1 ∨ k.val = 0)
    fun s => ((s.injHere 16 k.val).detect 16 0 [(8, k.val)]).failDevice) ∧
  Acts .trngHealthFail (fun s => ((s.injHere 71 0).wr R.DOME_FLT (setBit (s.rd R.DOME_FLT) 1)).detect 71 0 [])

/-! ### Meridian and network time (chapter 02) -/

/-- Meridian's controls and commits (R44, R46, R54, R56, R480, R482).
The model's own conventions here: log entry 15. -/
def Obligations.MeridianControlsComplete : Prop :=
  (∀ (r : Route) (v : BitVec 32), Writes (.rateAdjWrite r v) r.val 0x2100 4 (toLe 4 v.toNat) fun s => s.rateWrite v.toNat) ∧
  (∀ (r : Route) (v : Bool), Writes (.servoEnWrite r v) r.val 0x2100 5 (toLe 1 (boolNat v)) fun s => (s.servoEnable (boolNat v), 0)) ∧
  (∀ (r : Route) (v : BitVec 8), Writes (.srcSelWrite r v) r.val 0x2100 6 (toLe 1 v.toNat)
    fun s => ((s.wr R.SRC_SEL v.toNat).reselect, 0)) ∧
  (∀ (r : Route) (cr : CommitRec), Commits (.restep r cr) r.val 0x2100 0x0C cr restepCheck restepApply) ∧
  (∀ (r : Route) (p : Fin 16) (cr : CommitRec), Commits (.asym r p cr) r.val (0x2110 + p.val) 3 cr noCheck (keyApply (R.ASYM p.val))) ∧
  (∀ (r : Route) (t : CwParam) (cr : CommitRec), Commits (.cwParamCommit r t cr) r.val (cwEntry t).1 (cwEntry t).2 cr noCheck
    (keyApply (entryKey (cwEntry t).1 (cwEntry t).2))) ∧
  (∀ t : Nat, Does .lockoutEnd (fun s => s.routes.lockUntil = some t ∧ t ≤ s.tclk)
    fun s => { s with routes := { s.routes with lockUntil := none } })

/-- PTP messages that pass the checks of R563 are taken (R48, R49, R564), and the port's own messages and timers act when they are
due (R48, R51, R564); a PPS edge that passes its filter sets `PPS_LAST` (R47).
The model's own conventions here: log entries 10, 16 and 17. -/
def Obligations.NetworkTimeComplete : Prop :=
  (∀ (p : Fin 16) (m : PtpMsg), m.twoStep = true → Does (.sync p m) (fun s => s.ptpGood p.val m) fun s => s.takeSync p.val m) ∧
  (∀ (p : Fin 16) (m : PtpMsg), Does (.followUp p m) (fun s => s.ptpGood p.val m) fun s => s.takeFollowUp p.val m) ∧
  (∀ (p : Fin 16) (m : PtpMsg), Does (.pdelayReq p m) (fun s => s.ptpGood p.val m) fun s => s.answerPdelay p.val m) ∧
  (∀ (p : Fin 16) (m : PtpMsg), Does (.pdelayResp p m) (fun s => s.ptpGood p.val m) fun s => s.takePdelayResp p.val m) ∧
  (∀ (p : Fin 16) (m : PtpMsg), Does (.pdelayRespFollowUp p m) (fun s => s.ptpGood p.val m) fun s => s.takePdelayFollowUp p.val m) ∧
  (∀ (p : Fin 16) (m : PtpMsg), Does (.announce p m) (fun s => s.ptpGood p.val m) fun s => s.takeAnnounce p.val m) ∧
  (∀ (p : Fin 16) (m : PtpMsg), m.short = true → Does (.announce p m) (fun s => s.ptpOn p.val = true ∧ m.domain = s.rd R.DOMAIN_NUM)
    fun s => s.bump (R.BAD_MSG p.val)) ∧
  (∀ (p : Fin 16) (a : AnnInfo), Does (.announceReceiptTimeout p)
    (fun s => (s.ptpPort p.val).ann = some a ∧ a.at_ + 3 * intervalTclk a.log ≤ s.tclk)
    fun s => (s.setPtpPort p.val { s.ptpPort p.val with ann := none }).reselect) ∧
  (∀ p : Fin 16, Does (.announceTx p) (fun s => s.ptpOn p.val = true ∧ s.rd (R.PORT_STATE p.val) = 6) fun s =>
    let q := s.ptpPort p.val
    (s.setPtpPort p.val { q with seqTx := (q.seqTx + 1) % 65536 }).emit (.ptp p.val .announce (s.ptpOwn q.seqTx 0 s.now))) ∧
  (∀ p : Fin 16, Does (.syncTx p) (fun s => s.ptpOn p.val = true ∧ s.rd (R.PORT_STATE p.val) = 6) fun s =>
    let q := s.ptpPort p.val
    let log := s.rdI 8 (R.LOG_SYNC p.val)
    ((s.setPtpPort p.val { q with seqTx := (q.seqTx + 1) % 65536 }).emit (.ptp p.val .sync (s.ptpOwn q.seqTx log 0))).emit
      (.ptp p.val .followUp (s.ptpOwn q.seqTx log (s.txStamp p.val)))) ∧
  (∀ p : Fin 16, Does (.pdelayReqTx p) (fun s => s.ptpOn p.val = true) fun s =>
    let q := s.ptpPort p.val
    (s.setPtpPort p.val { q with seqTx := (q.seqTx + 1) % 65536, req := some (q.seqTx, (s.txStamp p.val : Int)), resp := none }).emit
      (.ptp p.val .pdelayReq (s.ptpOwn q.seqTx (s.rdI 8 (R.LOG_PDELAY p.val)) 0))) ∧
  (∀ a b : Nat, Does .sourceLoss (fun s => s.mer.src = some (.ptp a b) ∧
      s.mer.lastSync + s.rd R.SRC_LOSS_N * intervalTclk s.mer.syncLog ≤ s.tclk)
    fun s => { s with mer := { s.mer with syncLost := true } }.reselect) ∧
  (∀ (n : Fin 4) (rising : Bool) (hold : Nat), Does (.ppsEdge n rising hold)
    (fun s => s.replaying = false ∧ s.rd (R.PPS_FILT n.val) ≤ hold ∧ rising = (s.rd (R.PPS_EDGE_SEL n.val) == 0))
    fun s => s.takePps n.val rising (s.now - syncDelay - s.rd (R.PPS_LAT n.val) * ftNs))

/-- Launched frames and timed pins (R59, R62 to R65, R78): a frame waits for its launch time and leaves then, or slips while the MAC
is busy; a pulse starts and ends at its time; an edge that passes the filter is stamped.
The model's own conventions here: log entry 19. -/
def Obligations.TimedOutputsComplete : Prop :=
  (∀ (p : Fin 16) (w : BitVec 128) (d : Bytes) (id : Option (BitVec 16)) (t : Nat), ftOfWord w.toNat = some t →
    Does (.launchFrameSubmit p w d id) (fun s => p.val < s.ethPorts ∧ s.replaying = false ∧ s.now + 400 * ftNs ≤ t ∧ t ≤ s.now + ftSec)
      fun s => s.setLaunchQ p.val (s.launchQ p.val ++ [{ launch := t, data := d, stamp := id.map (fun x => x.toNat), slipped := false }])) ∧
  (∀ (p : Fin 16) (w : BitVec 128) (d : Bytes) (id : Option (BitVec 16)) (t : Nat), ftOfWord w.toNat = some t →
    Does (.launchFrameSubmit p w d id) (fun s => p.val < s.ethPorts ∧ s.replaying = false ∧ t < s.now + 400 * ftNs)
      fun s => s.lateLaunch p.val (id.map (fun x => x.toNat))) ∧
  (∀ (p : Fin 16) (f : LaunchFrame) (l : List LaunchFrame), Does (.launchTimeReached p false)
    (fun s => s.launchQ p.val = f :: l ∧ f.launch ≤ s.now)
    fun s => (s.setLaunchQ p.val l).sendEth p.val f.data f.stamp (if f.slipped then 2 else 1)) ∧
  (∀ (p : Fin 16) (f : LaunchFrame) (l : List LaunchFrame), Does (.launchTimeReached p true)
    (fun s => s.launchQ p.val = f :: l ∧ f.launch ≤ s.now ∧ f.slipped = false)
    fun s => (s.setLaunchQ p.val ({ f with slipped := true } :: l)).bump (R.LAUNCH_SLIP p.val)) ∧
  (∀ (p : Fin 16) (d : Bytes) (id : Option (BitVec 16)), Does (.frameTransmit p d id) (fun s => p.val < s.ethPorts)
    fun s => s.sendEth p.val d (id.map (fun x => x.toNat)) 0) ∧
  (∀ (r : Route) (p : Fin 16), Reads (.tsPop r p) r.val (0x2110 + p.val) 0x0A fun s => s.tsPop p.val) ∧
  (∀ (r : Route) (n : Fin 16) (f : TioField) (d : Bytes), Writes (.tioStartWrite r n f d) r.val (0x2120 + n.val) (tioSub f) d
    fun s => s.tioWrite n.val (tioSub f) d) ∧
  (∀ (n : Fin 16) (t : Nat), Does (.tioPulse n)
    (fun s => s.tioNext n.val = some t ∧ t ≤ s.now ∧ s.tioEnd n.val = none ∧ s.rd (R.TIO_MODE n.val) ≠ 5)
    fun s => if (s.setTioNext n.val none).replaying then (s.setTioNext n.val none).bump (R.TIO_REPLAY n.val)
      else ((s.setTioNext n.val none).setTioEnd n.val (some (t + (s.setTioNext n.val none).rd (R.TIO_WIDTH n.val) * ftNs))).emit
        (.tio n.val (!(s.setTioNext n.val none).tioIdle n.val))) ∧
  (∀ (n : Fin 16) (t : Nat), Does (.tioPulseEnd n) (fun s => s.tioEnd n.val = some t ∧ t ≤ s.now)
    fun s => (s.setTioEnd n.val none).emit (.tio n.val (s.tioIdle n.val))) ∧
  (∀ (n : Fin 16) (rising pair : Bool) (hold : Nat), Does (.tioEdge n rising hold pair)
    (fun s => s.replaying = false ∧ s.rd (R.TIO_FILT n.val) ≤ hold)
    fun s => s.tioEdge n.val (s.now - syncDelay) rising pair) ∧
  (∀ (n : Fin 16) (rising pair : Bool) (hold : Nat), Does (.tioEdge n rising hold pair)
    (fun s => s.replaying = false ∧ hold < s.rd (R.TIO_FILT n.val)) fun s => s.bump (R.TIO_GLITCH n.val))

/-! ### Sensor ingress (chapter 03) -/

/-- What arrives at a sensor port of a powered domain is taken with its stamp (R73 to R79, R95): camera packets, frames, CAN, SPI,
UART and encoders; in replay it is dropped and counted.
The model's own conventions here: log entries 20, 21, 22 and 23. -/
def Obligations.IngressComplete : Prop :=
  (∀ (p : Fin 32) (vc : Fin 4) (h : HdrEcc) (num : BitVec 16), Does (.csi2FrameStart p vc h num)
    (fun s => s.replaying = false ∧ s.portUp (0x2270 + p.val) = true ∧ (s.csiHeader p.val h).1 = true)
    fun s => ((s.csiHeader p.val h).2.csiSlots p.val vc.val).foldl (fun t i =>
      (t.lbUnit i 2 t.now (shortPacket vc.val 0 num.toNat)).frameStart i t.now num.toNat) (s.csiHeader p.val h).2) ∧
  (∀ (p : Fin 32) (vc : Fin 4) (h : HdrEcc) (num : BitVec 16), Does (.csi2FrameStart p vc h num) (fun s => s.replaying = true)
    fun s => s.bump R.RP_LIVE_DROP) ∧
  (∀ (p : Fin 32) (vc : Fin 4) (h : HdrEcc) (dt : BitVec 6) (ok : Bool) (d : Bytes), Does (.csi2LongPacket p vc h dt ok d)
    (fun s => s.replaying = false ∧ s.portUp (0x2270 + p.val) = true ∧ (s.csiHeader p.val h).1 = true)
    fun s => let u := if ok then (s.csiHeader p.val h).2 else (s.csiHeader p.val h).2.bump (R.CRC_BAD p.val)
      (u.csiSlots p.val vc.val).foldl (fun t i =>
        if dt.toNat = 0x12 then (t.lbUnit i 2 t.now d).frameEmbedded i d ok
        else if (t.tpl i).mid % 256 = dt.toNat then (t.lbUnit i 2 t.now d).frameRow i d ok
        else t) u) ∧
  (∀ (p : Fin 32) (vc : Fin 4) (h : HdrEcc) (num : BitVec 16), Does (.csi2FrameEnd p vc h num)
    (fun s => s.replaying = false ∧ s.portUp (0x2270 + p.val) = true ∧ (s.csiHeader p.val h).1 = false)
    fun s => (s.csiHeader p.val h).2) ∧
  (∀ (p : Fin 32) (vc : Fin 4) (h : HdrEcc) (num : BitVec 16), Does (.csi2FrameEnd p vc h num)
    (fun s => s.replaying = false ∧ s.portUp (0x2270 + p.val) = true ∧ (s.csiHeader p.val h).1 = true)
    fun s => ((s.csiHeader p.val h).2.csiSlots p.val vc.val).foldl (fun t i =>
      (t.lbUnit i 2 t.now (shortPacket vc.val 1 num.toNat)).frameEnd i t.now
        (t.frameSeq i (match (t.slotRt i).frame with | some f => f.num | none => 0))) (s.csiHeader p.val h).2) ∧
  (∀ (p : Fin 16) (ok : Bool) (b : Bytes), Does (.ethFrameRx p ok b)
    (fun s => s.replaying = false ∧ s.portUp (0x2290 + p.val) = true ∧ s.siu.linkDown.testBit p.val = false)
    fun s => s.rxEthFrame p.val ok b (s.now - s.rd (R.RX_LAT p.val) * ftNs)) ∧
  (∀ (c : Fin 4) (id : BitVec 29) (d : Bytes), Does (.canFrameRx c id d)
    (fun s => s.replaying = false ∧ s.portUp (0x22A0 + c.val) = true ∧ s.siu.busOff.testBit c.val = false ∧ s.rd R.USDO_EN ≠ 1)
    fun s => s.rxCan c.val id.toNat d s.now) ∧
  (∀ (m : Fin 4) (hold i : Nat), Does (.spiDataReady m hold)
    (fun s => s.replaying = false ∧ s.portUp (0x22A4 + m.val) = true ∧ s.rd (R.DRDY_FILT m.val) ≤ hold ∧
      smGet (fun _ => none) s.siu.spi m.val = none ∧ s.spiSlot m.val = some i)
    fun s => { s with siu := { s.siu with spi := smSet (fun _ => none) s.siu.spi m.val (some (s.now - syncDelay)) } }.emit (.spiStart m.val)) ∧
  (∀ (m : Fin 4) (d : Bytes) (stamp i : Nat), Does (.spiTransferDone m d)
    (fun s => smGet (fun _ => none) s.siu.spi m.val = some stamp ∧ s.replaying = false ∧ s.spiSlot m.val = some i)
    fun s => ({ s with siu := { s.siu with spi := smSet (fun _ => none) s.siu.spi m.val none } }.lbUnit i 4 stamp d).unit i d stamp) ∧
  (∀ (u : Fin 2) (n : Nat) (b : Bytes), Does (.uartSentence u n b true)
    (fun s => s.replaying = false ∧ s.portUp (0x22A8 + u.val) = true)
    fun s => s.rxSentence u.val b (s.now - n * ftNs) true) ∧
  (∀ (u : Fin 2) (n : Nat) (b : Bytes), Does (.uartSentence u n b false)
    (fun s => s.replaying = false ∧ s.portUp (0x22A8 + u.val) = true) fun s => s.bump (R.UART_ERR u.val)) ∧
  (∀ (i : Fin 96) (k : Nat), Does (.encoderSample i)
    (fun s => s.rd (R.SLOT_EN i.val) = 1 ∧ s.rd (R.SLOT_KIND i.val) = 5 ∧ k = s.now * s.rd (R.C_RATE i.val) / ftSec ∧
      (s.slotRt i.val).enc.grid < k)
    fun s => (s.setSlotRt i.val { s.slotRt i.val with enc := { (s.slotRt i.val).enc with grid := k } }).unit i.val
      (s.encRecord (s.slotRt i.val).enc) (k * ftSec / s.rd (R.C_RATE i.val)))

/-- Slots and ports (R83, R85, R100, R513): enabling, the STALE and DEAD timers, settings that wait for their port, links and buses
that go down and come back.
The model's own conventions here: log entries 15 and 23. -/
def Obligations.SlotsAndPortsComplete : Prop :=
  (∀ (r : Route) (i : Fin 96) (v : Bool), Writes (.slotEn r i v) r.val (0x2200 + i.val) 1 (toLe 1 (boolNat v)) fun s => s.enableSlot i.val v) ∧
  (∀ i : Fin 96, Does (.stale i) (fun s => s.rd (R.SLOT_STATE i.val) = 2 ∧
    (s.slotRt i.val).timer + s.rd (R.STALE_T i.val) * ftUs ≤ s.now) fun s => s.setSlotState i.val 3) ∧
  (∀ i : Fin 96, Does (.stale i) (fun s => s.now < (s.slotRt i.val).timer + s.rd (R.STALE_T i.val) * ftUs) fun s => s) ∧
  (∀ i : Fin 96, Does (.dead i) (fun s => (s.rd (R.SLOT_STATE i.val) = 1 ∨ s.rd (R.SLOT_STATE i.val) = 3) ∧
    (s.slotRt i.val).timer + s.rd (R.DEAD_T i.val) * ftUs ≤ s.now) fun s => s.setSlotState i.val 4) ∧
  (∀ i : Fin 96, Does (.dead i) (fun s => s.now < (s.slotRt i.val).timer + s.rd (R.DEAD_T i.val) * ftUs) fun s => s) ∧
  (∀ q : PortRef, Acts (.portSettingApply q) fun s =>
    { s with siu := { s.siu with portSet := (portEntries q).foldl (fun m k => smSet regDefault m k (s.rd k)) s.siu.portSet } }) ∧
  (∀ p : Fin 16, Does (.ethLinkDown p) (fun s => s.siu.linkDown.testBit p.val = false ∧
      ({ s with siu := { s.siu with linkDown := setBit s.siu.linkDown p.val } } : State).slotsOn 1 p.val ≠ [])
    fun s => ({ s with siu := { s.siu with linkDown := setBit s.siu.linkDown p.val } }.injHere 33 p.val).detect 33 0 []) ∧
  (∀ c : Fin 4, Does (.canBusOff c) (fun s => s.siu.busOff.testBit c.val = false)
    fun s => ({ s with siu := { s.siu with busOff := setBit s.siu.busOff c.val } }.injHere 35 c.val).detect 35 0 []) ∧
  (∀ p : Fin 32, Does (.startOfTransmissionError p) (fun s => s.replaying = false ∧ s.slotsOn 0 p.val ≠ []) fun s =>
    (s.slotsOn 0 p.val).foldl (fun t i => match (t.slotRt i).frame with
      | some f => t.setSlotRt i { t.slotRt i with frame := some { f with damaged := true } }
      | none => t) ((s.injHere 34 p.val).detect 34 0 [])) ∧
  (∀ c : Fin 4, Acts (.busOffRecovery c) fun s =>
    { s with siu := { s.siu with busOff := clearBit s.siu.busOff c.val, canPassive := clearBit s.siu.canPassive c.val } }) ∧
  (∀ (c : Fin 4) (passive : Bool), Acts (.canBusError c passive) fun s =>
    { s with siu := { s.siu with canPassive := if passive then setBit s.siu.canPassive c.val else clearBit s.siu.canPassive c.val } }.bump
      (R.CAN_ERR c.val)) ∧
  (∀ p : Fin 16, Acts (.ethLinkUp p) fun s => { s with siu := { s.siu with linkDown := clearBit s.siu.linkDown p.val } })

/-! ### Talus and the rulebooks (chapters 04, 08) -/

/-- Talus (R107, R112, R126, R130, R230): a point is taken from its FIFO, a set closes at its time, octrees and rulebooks are built,
a released buffer is freed, the pose ring takes an entry.
The model's own conventions here: log entries 24, 25 and 34. -/
def Obligations.TalusComplete : Prop :=
  (∀ (p : Pt) (l : List Pt), Does .talusPointTake (fun s => s.siu.fifoT = p :: l)
    fun s => ({ s with siu := { s.siu with fifoT := l } }).talusTake p) ∧
  Does .talusPointTake (fun s => s.siu.fifoT = []) (fun s => s) ∧
  (∀ (b : Nat) (v : VSet), Does .setClose (fun s => s.lowestOpen = some (b, v) ∧ s.instant v.epoch + s.lag ≤ s.now)
    fun s => (s.closeSet b v).mapTalus fun x => { x with firstEpoch := max x.firstEpoch (v.epoch + 1) }) ∧
  (∀ (b : Nat) (v : VSet), Does .setClose (fun s => s.lowestOpen = some (b, v) ∧ s.now < s.instant v.epoch + s.lag) fun s => s) ∧
  (∀ (b : Nat) (v : VSet), Does .octreeBuildDone (fun s => s.lowestBuilding = some (b, v) ∧ s.deep.rb = none) fun s => s.octreeDone b v) ∧
  (∀ (x : RbBuild) (v : VSet) (w : Nat), Does .rulebookTileDone (fun s => s.rbNow = some (x, v, w) ∧ x.fail = false) fun s => s.rbTile x v w) ∧
  (∀ (x : RbBuild) (v : VSet) (w : Nat), Does .rulebookBuildDone (fun s => s.rbNow = some (x, v, w) ∧ s.rbAllDone x v w = true)
    fun s => s.rbFinish x v w) ∧
  (∀ (b : Fin 3) (v : VSet), Does (.setRelease b) (fun s => s.vset b.val = some v ∧ v.phase = .built ∧ s.setReleased b.val = true)
    fun s => (s.freeSet b.val v).mapTalus fun t =>
      { t with relGen := smSet (fun _ => 0) t.relGen b.val (smGet (fun _ => 0) t.relGen b.val + 1) }) ∧
  (∀ e : BitVec 1024, Acts (.poseRingWrite e) fun s => s.poseEntry s.ringWriter e.toNat)

/-! ### Sentinel (chapter 05) -/

/-- Sentinel's points, slices and exchange (R134, R136, R141, R144, R148, R154, R162, R163): each acts when Sentinel runs and its
time has come.
The model's own conventions here: log entries 26, 27 and 29. -/
def Obligations.SentinelFlowCompletes : Prop :=
  (∀ (p : Pt) (l : List Pt), Does .sentinelPointTake (fun s => s.siu.fifoS = p :: l)
    fun s => { s with siu := { s.siu with fifoS := l } }.sentinelTake p (l.length + 1)) ∧
  Does .sliceEnd (fun s => s.snt.running = true ∧ s.sliceEnd s.snt.nextEnd ≤ s.now) (fun s =>
    ((s.mapSnt fun n => { n with nextEnd := s.snt.nextEnd + 1, pendSet := [] }).followSlice s.snt.nextEnd).updateSafe) ∧
  Does .sliceEnd (fun s => s.now < s.sliceEnd s.snt.nextEnd) (fun s => s) ∧
  Does .sliceClose (fun s => s.rd R.SNT_STATE = 2 ∧ s.snt.firstSlice ≤ s.snt.nextClose ∧ s.sliceCloseT s.snt.nextClose ≤ s.now)
    (fun s => s.closeSlice s.snt.nextClose) ∧
  Does .sliceClose (fun s => s.now < s.sliceCloseT s.snt.nextClose) (fun s => s) ∧
  (∀ (r : Res) (l : List Res), Does .sliceResult (fun s => s.snt.waiting = r :: l ∧ s.injArmed 23 0 = false)
    fun s => (s.mapSnt fun n => { n with waiting := l }).emitResult r) ∧
  (∀ (p : Fin 8) (k : BitVec 64) (h f : Bool) (m : Fin 8) (recs : List (BitVec 64)), Does (.exchangeFrameRx p k h f m recs)
    (fun s => s.hears p.val = true) fun s => (s.hearPeer p.val h f m.val).foldExchange p.val k.toNat recs) ∧
  (∀ (p : Fin 8) (k : BitVec 64) (h f : Bool) (m : Fin 8) (recs : List (BitVec 64)), Does (.exchangeFrameRx p k h f m recs)
    (fun s => s.hears p.val = false) fun s => s) ∧
  (∀ (p : Fin 8) (t : Nat), Does (.peerUnreachable p)
    (fun s => p.val < s.rd R.RANGE_N ∧ p.val ≠ s.host.rangeId ∧ s.reachable p.val = true ∧ (s.peer p.val).lastXch = some t ∧
      t + s.rd R.PEER_TMO * tclkUs ≤ s.tclk)
    fun s => ((s.setPeer p.val { s.peer p.val with lastXch := some t }).wr R.PEER_MASK (clearBit (s.rd R.PEER_MASK) p.val)).event 0x2507 0 []) ∧
  (∀ g : Fin 262144, Does (.evidenceExpiry g) (fun s => s.rd R.SNT_STATE = 2 ∧ s.snt.clearing = false)
    fun s => (List.range 4).foldl (fun t i => t.sweepCell (4 * g.val + i)) s) ∧
  Does .plateClearDone (fun s => s.snt.clearing = true ∧ s.rd R.SNT_STATE = 1 ∧ s.snt.selfTest = false)
    (fun s => (s.mapSnt fun n => { n with clearing := false }).startRun) ∧
  Does .plateClearDone (fun s => s.snt.clearing = true ∧ s.rd R.SNT_STATE ≠ 1) (fun s => s.mapSnt fun n => { n with clearing := false })

/-- The corridor, the safe outputs, the hazard frames and Sentinel's faults (R146, R148, R149, R157 to R161, R165).
The model's own conventions here: log entry 28. -/
def Obligations.SentinelOutputsComplete : Prop :=
  (∀ r : Route, Writes (.corCommit r) r.val 0x2510 2 (toLe 1 1) State.corCommit) ∧
  (∀ c : Corridor, Does .corridorCurrent (fun s => s.snt.corNext = some c ∧
      ceilDiv (c.committed + 20 * ftUs) s.sliceLen * s.sliceLen ≤ s.now)
    fun s => (s.mapSnt fun n => { n with cor := some c, corNext := none }).wr R.COR_SEQ_CUR c.seqNo) ∧
  (∀ c : Corridor, Does .corridorStale (fun s => s.snt.cor = some c ∧ c.stale = false ∧ s.rd R.COR_TMO * ftUs < s.now - c.t)
    fun s => (s.mapSnt fun n => { n with cor := some { c with stale := true } }).event 0x2506 0 []) ∧
  (∀ (r : Route) (m : BitVec 96), Writes (.suspectMaskClear r m) r.val 0x2500 0x0E (toLe 12 m.toNat)
    fun s => (s.w1c R.SUSPECT_MASK m.toNat, 0)) ∧
  (∀ (r : Route) (cr : CommitRec), Commits (.sntRestart r cr) r.val 0x2500 0x1F cr sntRestartCheck sntRestartApply) ∧
  Does (.selfTestDone true) (fun s => s.snt.selfTest = true ∧ s.injArmed 24 0 = false)
    (fun s => (s.mapSnt fun n => { n with selfTest := false }).clearPlate) ∧
  Does (.selfTestDone false) (fun s => s.snt.selfTest = true) (fun s => (s.mapSnt fun n => { n with selfTest := false }).sentinelFault 24) ∧
  Does .sntHb (fun s => s.snt.hbIndex < s.now / (500 * ftUs)) (fun s => s.mapSnt fun n =>
    { n with hbIndex := s.now / (500 * ftUs), hb := if s.replaying then false else if s.rd R.SNT_STATE = 2 then !n.hb else n.hb }) ∧
  Acts .safeHoldExpiry (fun s => s.updateSafe) ∧
  (∀ busy : Bool, Does (.hazardFrameWindow busy)
    (fun s => s.snt.hzHeld = none ∧ s.replaying = false ∧ s.pdOn 16 = true ∧ s.rd R.HZ_PHASE * ftUs ≤ s.now ∧
      s.snt.hzLast ≠ some s.hazardIndex) fun s => s.hazardSend busy) ∧
  (∀ (w : Nat) (d : Bytes), Does .hazardFrameWithdraw
    (fun s => s.snt.hzHeld = some (w, d) ∧ w + s.rd R.HZ_PERIOD * ftUs / 2 ≤ s.now)
    fun s => (s.mapSnt fun n => { n with hzHeld := none }).bump R.HZ_LOST) ∧
  Acts .comparatorMismatch (fun s => s.sentinelFault 20) ∧
  Acts .snclkOutOfRange (fun s => s.sentinelFault 22) ∧
  (∀ (x : Res) (l : List Res), Does .resultMissing (fun s => s.rd R.SNT_STATE = 2 ∧ s.snt.waiting = x :: l ∧
      s.snt.firstSlice ≤ x.slice ∧ s.sliceCloseT x.slice + 2 * ftUs < s.now) fun s => s.sentinelFault 23) ∧
  Does .fixedEmitterResult (fun s => s.snt.failFrom ≠ none ∧ s.sliceCloseT s.snt.nextClose ≤ s.now ∧ s.rd R.SNT_STATE ≠ 2) (fun s =>
    (s.mapSnt fun n => { n with nextClose := s.snt.nextClose + 1, nextEnd := max n.nextEnd (s.snt.nextClose + 1) }).emitResult
      { slice := s.snt.nextClose, validT := s.sliceEnd s.snt.nextClose, mask := 0, oldest := none, dist := 0xFFFF,
        flags := 32 * boolNat s.replaying, verdict := 3, changes := [], out := 0 })

/-! ### Spurs (chapter 06) -/

/-- Control instructions and the matrix instructions (R171, R176 to R179, R188, R190, R192): a word that the table does not list
traps, `NOP` goes on, `JMP` and `LOOP` go to `IMM`, `SETL` and `SETA` set a counter and an address, `EOT` ends the task's issue,
`TRAP` traps; a tile is loaded; rows are accumulated.
The model's own conventions here: log entries 9 and 31. -/
def Obligations.SpurControlAndMatrix : Prop :=
  (∀ (n : Fin 128) (w : BitVec 64), 7 ≤ wordClass w.toNat → Issues (.illegalClass n w) n.val w.toNat fun s => s.spurTrap n.val 0x01 w.toNat) ∧
  (∀ (n : Fin 128) (w : BitVec 64), wordClass w.toNat < 7 → opListed (wordClass w.toNat) (wordOp w.toNat) = false →
    Issues (.illegalOp n w) n.val w.toNat fun s => s.spurTrap n.val 0x02 w.toNat) ∧
  (∀ (n : Fin 128) (f : BitVec 54),
    Issues (.nop n f) n.val (spurWord 0 1 f.toNat) (fun s => s.spurNext n.val (spurWord 0 1 f.toNat) .control) ∧
    Issues (.jmp n f) n.val (spurWord 0 2 f.toNat) (fun s => s.spurJump n.val (spurWord 0 2 f.toNat) (fCImm f.toNat)) ∧
    Issues (.loop n f) n.val (spurWord 0 3 f.toNat) (fun s =>
      let c := (s.spur n.val).loopCnt (fLc f.toNat)
      if c = 0 then s.spurNext n.val (spurWord 0 3 f.toNat) .control
      else (s.mapSpur n.val fun x => x.setLoop (fLc f.toNat) (c - 1)).spurJump n.val (spurWord 0 3 f.toNat) (fCImm f.toNat)) ∧
    Issues (.setl n f) n.val (spurWord 0 4 f.toNat) (fun s =>
      (s.mapSpur n.val fun x => x.setLoop (fLc f.toNat) (bitsOf 15 0 f.toNat)).spurNext n.val (spurWord 0 4 f.toNat) .control) ∧
    Issues (.seta n f) n.val (spurWord 0 5 f.toNat) (fun s =>
      (s.mapSpur n.val fun x => x.setAddr (bitsOf 49 45 f.toNat) (fCImm f.toNat)).spurNext n.val (spurWord 0 5 f.toNat) .control) ∧
    Issues (.eot n f) n.val (spurWord 0 6 f.toNat) (fun s => s.mapSpur n.val fun x => { x with ended := true }) ∧
    Issues (.trap n f) n.val (spurWord 0 7 f.toNat) (fun s => s.spurTrap n.val 0x0A (spurWord 0 7 f.toNat))) ∧
  (∀ (n : Fin 128) (f : BitVec 54) (far : Option Bytes), Does (.wld n f far)
    (fun s => s.issues n.val (spurWord 1 1 f.toNat) ∧ fMmaFmt f.toNat < 0xC ∧ isMx (fMmaFmt f.toNat) = false ∧
      (s.devRead n.val ((s.spur n.val).addr (fAin f.toNat)) (32 * rowBytes (fMmaFmt f.toNat)) far).st = .ok)
    fun s => let r := s.devRead n.val ((s.spur n.val).addr (fAin f.toNat)) (32 * rowBytes (fMmaFmt f.toNat)) far
      (r.s.putTile n.val 1 f.toNat (fun _ b => b) r.data [] r.poison).spurDone) ∧
  (∀ (n : Fin 128) (f : BitVec 54) (far : Option Bytes), Does (.wldt n f far)
    (fun s => s.issues n.val (spurWord 1 2 f.toNat) ∧ fMmaFmt f.toNat < 0xC ∧ isMx (fMmaFmt f.toNat) = false ∧
      (s.devRead n.val ((s.spur n.val).addr (fAin f.toNat)) (32 * rowBytes (fMmaFmt f.toNat)) far).st = .ok)
    fun s => let r := s.devRead n.val ((s.spur n.val).addr (fAin f.toNat)) (32 * rowBytes (fMmaFmt f.toNat)) far
      (r.s.putTile n.val 2 f.toNat tileOfTransposed r.data [] r.poison).spurDone) ∧
  (∀ (n : Fin 128) (f : BitVec 54) (far : Option Bytes) (t : State), Does (.mac n f far)
    (fun s => s.issues n.val (spurWord 1 3 f.toNat) ∧ fMmaFmt f.toNat < 0xC ∧
      fmtMatch (fMmaFmt f.toNat) ((s.spur n.val).wbuf (fWb f.toNat)).fmt = true ∧ fAcc f.toNat + fRows f.toNat ≤ 512 ∧
      s.macRows n.val f.toNat (fRows f.toNat) 0 far = some t)
    fun _ => t.spurDone)

/-- The floating-point and conversion instructions of VEC, lane by lane into the masked lanes of `VD` (R181 to R185, R190, R193).
The model's own conventions here: log entries 9, 30 and 31. -/
def Obligations.SpurFloatLanes : Prop :=
  ∀ (n : Fin 128) (f : BitVec 54),
    Vec2 (.fadd n f) n.val 0x01 f.toNat fadd32 ∧ Vec2 (.fsub n f) n.val 0x02 f.toNat fsub32 ∧ Vec2 (.fmul n f) n.val 0x03 f.toNat fmul32 ∧
    Issues (.fma n f) n.val (spurWord 2 0x04 f.toNat) (fun s => s.lanesTo n.val 0x04 f.toNat [fVA f.toNat, fVB f.toNat, fVC f.toNat]
      fun x i => fma32 (laneOf (x.vec (fVA f.toNat)) i) (laneOf (x.vec (fVB f.toNat)) i) (laneOf (x.vec (fVC f.toNat)) i)) ∧
    Vec2 (.fmin n f) n.val 0x05 f.toNat (fminmax true) ∧ Vec2 (.fmax n f) n.val 0x06 f.toNat (fminmax false) ∧
    Vec1 (.fabs n f) n.val 0x07 f.toNat fabs32 ∧ Vec1 (.fneg n f) n.val 0x08 f.toNat fneg32 ∧
    Issues (.fcmp n f) n.val (spurWord 2 0x09 f.toNat) (fun s => s.maskTo n.val 0x09 f.toNat fcond) ∧
    Issues (.sel n f) n.val (spurWord 2 0x0A f.toNat) (fun s =>
      let x := s.spur n.val
      (s.setSpur n.val (x.putVec (fVD f.toNat) (2 ^ 32 - 1)
        (mergeLanes (x.mask (fMask f.toNat)) (x.vec (fVC f.toNat)) (x.vec (fVA f.toNat)))
        (x.vP.testBit (fVA f.toNat) || x.vP.testBit (fVC f.toNat)))).spurNext n.val (spurWord 2 0x0A f.toNat) .vector) ∧
    Vec1 (.rcp n f) n.val 0x0B f.toNat (fnUnit32 0x0B) ∧ Vec1 (.rsq n f) n.val 0x0C f.toNat (fnUnit32 0x0C) ∧
    Vec1 (.exp2 n f) n.val 0x0D f.toNat (fnUnit32 0x0D) ∧ Vec1 (.log2 n f) n.val 0x0E f.toNat (fnUnit32 0x0E) ∧
    Does (.cvt n f) (fun s => s.issues n.val (spurWord 2 0x10 f.toNat) ∧ cvtTarget (fVFmt f.toNat) = true) (fun s =>
      let x := s.spur n.val
      let es := (List.range 32).map fun i =>
        cvtElem (fVFmt f.toNat) ((fVImm f.toNat).testBit 0) (x.rounding (fSr f.toNat) (fVFmt f.toNat) i) (val32 (laneOf (x.vec (fVA f.toNat)) i))
      ((s.setSpur n.val ((x.drew (fSr f.toNat) (fVFmt f.toNat) 32).putVec (fVD f.toNat) (x.mask (fMask f.toNat))
        (leNat (packElems (fVFmt f.toNat) es)) (x.vP.testBit (fVA f.toNat)))).spurNext n.val (spurWord 2 0x10 f.toNat) .vector).spurDone) ∧
    Does (.qmx n f) (fun s => s.issues n.val (spurWord 2 0x11 f.toNat) ∧ isMx (fVFmt f.toNat) = true) (fun s =>
      let x := s.spur n.val
      let q := qmxBlock (fVFmt f.toNat) (fun i => x.rounding (fSr f.toNat) (fVFmt f.toNat) i)
        ((List.range 32).map fun i => val32 (laneOf (x.vec (fVA f.toNat)) i))
      ((s.setSpur n.val ((x.drew (fSr f.toNat) (fVFmt f.toNat) 32).putVec (fVD f.toNat) (x.mask (fMask f.toNat))
        (leNat (packElems (fVFmt f.toNat) q.1) + q.2 * 2 ^ 992) (x.vP.testBit (fVA f.toNat)))).spurNext n.val
          (spurWord 2 0x11 f.toNat) .vector).spurDone) ∧
    Vec1 (.itof n f) n.val 0x12 f.toNat itof32 ∧
    Issues (.fimm n f) n.val (spurWord 2 0x13 f.toNat) (fun s => s.lanesTo n.val 0x13 f.toNat []
      fun _ _ => itof32 (ofSgn 32 (sgnOf 19 (fVImm f.toNat))))

/-- The integer instructions of VEC (R179, R181, R190, R197).
The model's own conventions here: log entries 9 and 30. -/
def Obligations.SpurIntegerLanes : Prop :=
  ∀ (n : Fin 128) (f : BitVec 54),
    Vec2 (.iadd n f) n.val 0x20 f.toNat iadd32 ∧ Vec2 (.isub n f) n.val 0x21 f.toNat isub32 ∧ Vec2 (.imul n f) n.val 0x22 f.toNat imul32 ∧
    Issues (.isatadd n f) n.val (spurWord 2 0x23 f.toNat) (fun s =>
      let x := s.spur n.val
      let g := fun i => isatadd32 (laneOf (x.vec (fVA f.toNat)) i) (laneOf (x.vec (fVB f.toNat)) i)
      ((s.setSpur n.val (x.putVec (fVD f.toNat) (x.mask (fMask f.toNat)) (ofLanes fun i => (g i).1)
        (x.vP.testBit (fVA f.toNat) || x.vP.testBit (fVB f.toNat)))).spurSat n.val
          ((List.range 32).any fun i => (x.mask (fMask f.toNat)).testBit i && (g i).2)).spurNext n.val (spurWord 2 0x23 f.toNat) .vector) ∧
    Vec2 (.andOp n f) n.val 0x24 f.toNat (fun a b => a &&& b) ∧ Vec2 (.orOp n f) n.val 0x25 f.toNat (fun a b => a ||| b) ∧
    Vec2 (.xorOp n f) n.val 0x26 f.toNat (fun a b => a ^^^ b) ∧ Vec2 (.shl n f) n.val 0x27 f.toNat shl32 ∧
    Vec2 (.shr n f) n.val 0x28 f.toNat shr32 ∧
    Issues (.icmp n f) n.val (spurWord 2 0x29 f.toNat) (fun s => s.maskTo n.val 0x29 f.toNat icond)

/-- The MOV instructions (R189, R190, R192, R193): a load whose read succeeds fills the masked lanes, a store whose write is taken
stores its bytes, and the rest move between registers.
The model's own conventions here: log entries 9 and 31. -/
def Obligations.SpurMoves : Prop :=
  (∀ (n : Fin 128) (f : BitVec 54) (far : Option Bytes), Does (.ldv n f far)
    (fun s => s.issues n.val (spurWord 3 1 f.toNat) ∧ (s.devRead n.val ((s.spur n.val).movAddr f.toNat) 128 far).st = .ok)
    fun s => let r := s.devRead n.val ((s.spur n.val).movAddr f.toNat) 128 far
      ((r.s.mapSpur n.val fun x => x.putVec (fMV f.toNat) (x.mask (fMask f.toNat)) (leNat r.data) r.poison).spurNext n.val
        (spurWord 3 1 f.toNat) .move).spurDone) ∧
  (∀ (n : Fin 128) (f : BitVec 54) (far : Option Bytes), Does (.ldp n f far)
    (fun s => s.issues n.val (spurWord 3 3 f.toNat) ∧ fMFmt f.toNat < 0xE ∧
      (s.devRead n.val ((s.spur n.val).movAddr f.toNat) (packedBytes (fMFmt f.toNat)) far).st = .ok)
    fun s => let r := s.devRead n.val ((s.spur n.val).movAddr f.toNat) (packedBytes (fMFmt f.toNat)) far
      ((r.s.mapSpur n.val fun x => x.putVec (fMV f.toNat) (x.mask (fMask f.toNat))
        (ofLanes fun i => widen (fMFmt f.toNat) (elemAt (fMFmt f.toNat) r.data i)) r.poison).spurNext n.val (spurWord 3 3 f.toNat) .move).spurDone) ∧
  (∀ (n : Fin 128) (f : BitVec 54) (t : State), Does (.stv n f)
    (fun s => s.issues n.val (spurWord 3 2 f.toNat) ∧ s.devWrite n.val ((s.spur n.val).movAddr f.toNat)
      (toLe 128 ((s.spur n.val).vec (fMV f.toNat))) ((s.spur n.val).vP.testBit (fMV f.toNat)) = (.ok, t))
    fun s => ((t.spurStored n.val ((s.spur n.val).vP.testBit (fMV f.toNat))).spurNext n.val (spurWord 3 2 f.toNat) .move).spurDone) ∧
  (∀ (n : Fin 128) (f : BitVec 54) (t : State), Does (.stp n f)
    (fun s => s.issues n.val (spurWord 3 4 f.toNat) ∧ fMFmt f.toNat < 0xC ∧ s.devWrite n.val ((s.spur n.val).movAddr f.toNat)
      (toLe (packedBytes (fMFmt f.toNat)) ((s.spur n.val).vec (fMV f.toNat))) ((s.spur n.val).vP.testBit (fMV f.toNat)) = (.ok, t))
    fun s => ((t.spurStored n.val ((s.spur n.val).vP.testBit (fMV f.toNat))).spurNext n.val (spurWord 3 4 f.toNat) .move).spurDone) ∧
  (∀ (n : Fin 128) (f : BitVec 54) (t : State), Does (.stsc n f)
    (fun s => s.issues n.val (spurWord 3 8 f.toNat) ∧ s.devWrite n.val ((s.spur n.val).movAddr f.toNat)
      (toLe 1 (laneOf ((s.spur n.val).vec (fMV f.toNat)) 31)) ((s.spur n.val).vP.testBit (fMV f.toNat)) = (.ok, t))
    fun s => ((t.spurStored n.val ((s.spur n.val).vP.testBit (fMV f.toNat))).spurNext n.val (spurWord 3 8 f.toNat) .move).spurDone) ∧
  (∀ (n : Fin 128) (f : BitVec 54),
    Issues (.accrd n f) n.val (spurWord 3 5 f.toNat) (fun s => (s.mapSpur n.val fun x => x.putVec (fMV f.toNat) (x.mask (fMask f.toNat))
      (x.accRow (fMAcc f.toNat)) (x.accP.testBit (fMAcc f.toNat))).spurNext n.val (spurWord 3 5 f.toNat) .move) ∧
    Issues (.accwr n f) n.val (spurWord 3 6 f.toNat) (fun s => (s.mapSpur n.val fun x => x.putAcc (fMAcc f.toNat) (x.mask (fMask f.toNat))
      (x.vec (fMV f.toNat)) (x.vP.testBit (fMV f.toNat))).spurNext n.val (spurWord 3 6 f.toNat) .move) ∧
    Issues (.adda n f) n.val (spurWord 3 7 f.toNat) (fun s =>
      (s.mapSpur n.val fun x => x.setAddr (fMAr f.toNat) (x.movAddr f.toNat)).spurNext n.val (spurWord 3 7 f.toNat) .move) ∧
    Issues (.mova n f) n.val (spurWord 3 9 f.toNat) (fun s =>
      (s.mapSpur n.val fun x => x.setAddr (fMAr f.toNat) (bitsOf 47 0 (x.vec (fMV f.toNat)))).spurNext n.val (spurWord 3 9 f.toNat) .move))

/-- Gather and scatter, the fence, the pipes and the reseed (R171, R186, R191, R212 to R214): a list instruction whose descriptor
R212 admits runs its list, a fence stops the issue until what it waits for is done, and then lets it go on.
The model's own conventions here: log entries 9 and 32. -/
def Obligations.SpurListsAndFences : Prop :=
  (∀ (n : Fin 128) (f : BitVec 54) (far : Option Bytes) (d : Nat) (t : State),
    Does (.gath n f far) (fun s => s.issues n.val (spurWord 4 1 f.toNat) ∧ s.listDesc n.val f.toNat .gath = some d ∧
      s.listRun .gath n.val f.toNat d (fCnt f.toNat) 0 far = some t) (fun _ => t.spurDone) ∧
    Does (.scat n f far) (fun s => s.issues n.val (spurWord 4 2 f.toNat) ∧ s.listDesc n.val f.toNat .scat = some d ∧
      s.listRun .scat n.val f.toNat d (fCnt f.toNat) 0 far = some t) (fun _ => t.spurDone) ∧
    Does (.scata n f far) (fun s => s.issues n.val (spurWord 4 3 f.toNat) ∧ s.listDesc n.val f.toNat .scata = some d ∧
      s.listRun .scata n.val f.toNat d (fCnt f.toNat) 0 far = some t) (fun _ => t.spurDone)) ∧
  (∀ (n : Fin 128) (f : BitVec 54), Issues (.fence n f) n.val (spurWord 5 1 f.toNat) fun s =>
    (s.mapSpur n.val fun x => { x with fence := some (fScope f.toNat) }).spurNext n.val (spurWord 5 1 f.toNat) .control) ∧
  (∀ (n : Fin 128) (scope : Nat), Does (.fenceComplete n)
    (fun s => (s.spur n.val).fence = some scope ∧ s.fencePending n.val scope = false ∧ (s.spur n.val).failedWrite = false)
    fun s => (s.mapSpur n.val fun x => { x with fence := none, failedWrite := false }).spurDone) ∧
  (∀ (n : Fin 128) (scope : Nat), Does (.fenceComplete n)
    (fun s => (s.spur n.val).fence = some scope ∧ s.fencePending n.val scope = true) fun s => s.spurDone) ∧
  (∀ (n : Fin 128) (p : Pipe), Acts (.pipeComplete n p) fun s => (s.mapSpur n.val fun x =>
    { x with pend := smSet (fun _ => 0) x.pend (pipeNo p) (smGet (fun _ => 0) x.pend (pipeNo p) - 1) }).spurDone) ∧
  (∀ n : Fin 128, Does (.srReseed n) (fun s => (s.spur n.val).srFixed = false ∧ (s.spur n.val).srT + srPeriod ≤ s.tclk) fun s =>
    ((s.drawTrng 8).2.mapSpur n.val fun y => { y with srSeed := leNat (s.drawTrng 8).1, srN := 0, srT := s.tclk }).spurDone)

/-! ### Cairns and queues (chapters 12, 13) -/

/-- Signals and waits of spurs and of other agents, and the host's requests (R347 to R354, R361 to R367).
The model's own conventions here: log entry 45. -/
def Obligations.CairnCommandsComplete : Prop :=
  (∀ (n : Fin 128) (f : BitVec 54) (k : Nat),
    Issues (.sigadd (.spur n) f) n.val (spurWord 6 1 f.toNat) (fun s =>
      (s.signal n.val (fCairn f.toNat) true (fVal f.toNat)).spurNext n.val (spurWord 6 1 f.toNat) .control) ∧
    Issues (.sigset (.spur n) f) n.val (spurWord 6 2 f.toNat) (fun s =>
      (s.signal n.val (fCairn f.toNat) false (fVal f.toNat)).spurNext n.val (spurWord 6 2 f.toNat) .control) ∧
    Does (.waitge (.spur n) f k) (fun s => s.issues n.val (spurWord 6 3 f.toNat) ∧ (s.cairn (fCairn f.toNat)).cstate = .armed ∧
        condHolds 0 (s.cairn (fCairn f.toNat)).value (fVal f.toNat) = true)
      (fun s => (s.spurNext n.val (spurWord 6 3 f.toNat) .control).spurDone) ∧
    Does (.waiteq (.spur n) f k) (fun s => s.issues n.val (spurWord 6 4 f.toNat) ∧ (s.cairn (fCairn f.toNat)).cstate = .armed ∧
        condHolds 1 (s.cairn (fCairn f.toNat)).value (fVal f.toNat) = true)
      (fun s => (s.spurNext n.val (spurWord 6 4 f.toNat) .control).spurDone) ∧
    Does (.waitbit (.spur n) f k) (fun s => s.issues n.val (spurWord 6 5 f.toNat) ∧ (s.cairn (fCairn f.toNat)).cstate = .armed ∧
        condHolds 2 (s.cairn (fCairn f.toNat)).value (fVal f.toNat) = true)
      (fun s => (s.spurNext n.val (spurWord 6 5 f.toNat) .control).spurDone) ∧
    Does (.waitge (.spur n) f k) (fun s => s.issues n.val (spurWord 6 3 f.toNat) ∧ (s.cairn (fCairn f.toNat)).cstate ≠ .armed)
      (fun s => (s.spurFail n.val).spurDone)) ∧
  (∀ (a : BitVec 16) (f : BitVec 54) (k : Nat), a.toNat / 4096 ≠ 7 →
    Acts (.sigadd (.other a) f) (fun s => (s.signal a.toNat (fCairn f.toNat) true (fVal f.toNat)).spurDone) ∧
    Acts (.sigset (.other a) f) (fun s => (s.signal a.toNat (fCairn f.toNat) false (fVal f.toNat)).spurDone) ∧
    Acts (.waitge (.other a) f k) (fun s => (s.agentWait a.toNat f.toNat 0 k).spurDone) ∧
    Acts (.waiteq (.other a) f k) (fun s => (s.agentWait a.toNat f.toNat 1 k).spurDone) ∧
    Acts (.waitbit (.other a) f k) (fun s => (s.agentWait a.toNat f.toNat 2 k).spurDone)) ∧
  (∀ (a : BitVec 16) (st : WaitStatus) (l : List (Nat × WaitStatus)), Does (.waiterWake a)
    (fun s => takeWake a.toNat s.cs.wakes = (some st, l) ∧ a.toNat < 128 ∧ (s.spur a.toNat).waiting = true ∧ st = .ok)
    fun s => ({ s with cs := { s.cs with wakes := l } }.mapSpur a.toNat fun x => { x with waiting := false }).spurDone) ∧
  (∀ (w : Fin 8192) (x : Waiter), Does (.waitTimeout w) (fun s => s.waiter w.val = some x ∧ x.deadline ≤ s.now) fun s =>
    (((s.wakeWaiter w.val .timeout).bump R.TMO_CNT).wr R.LAST_TMO (x.cairn + x.agent * 65536)).event 0x2A01 x.agent
      [(14, x.cairn), (2, x.cond), (32, x.target)]) ∧
  (∀ (w : Fin 8192) (x : Waiter), Does (.waitTimeout w) (fun s => s.waiter w.val = some x ∧ s.now < x.deadline) fun s => s) ∧
  (∀ (a : BitVec 16) (c : Fin 16384) (v : BitVec 32), a.toNat / 4096 ≠ 7 → Does (.arm a c v true)
    (fun s => (s.cairn c.val).cstate ≠ .free ∧ (s.cairn c.val).owner = a.toNat) fun s => s.rearm c.val v.toNat) ∧
  (∀ (a : BitVec 16) (c : Fin 16384) (v : BitVec 32), a.toNat / 4096 ≠ 7 → Does (.arm a c v true)
    (fun s => (s.cairn c.val).cstate = .free ∨ (s.cairn c.val).owner ≠ a.toNat)
    fun s => (s.bump R.SIG_REFUSED).event 0x2A03 a.toNat [(14, c.val)]) ∧
  (∀ (c : Fin 16384) (v : BitVec 64), Does (.notifyWrite c v true) (fun s => s.replaying = false) fun s =>
    (s.notifyWrite c.val v.toNat true).lbRecord 0x7000 0x12 (toLe 4 (64 * c.val + 40) ++ toLe 8 v.toNat)) ∧
  (∀ (r : Route) (d : Bytes), Writes (.hwReq r d) r.val (0x2A04 + r.val) 1 d fun s => s.hwReq r.val d) ∧
  (∀ r : Route, Writes (.hwCancel r true) r.val (0x2A04 + r.val) 3 (toLe 1 1) fun s => (s.hwCancel r.val, 0)) ∧
  (∀ r : Route, Writes (.hwCancel r false) r.val (0x2A04 + r.val) 3 (toLe 1 0) fun s => (s, 0)) ∧
  (∀ c : Fin 16384, Acts (.cairnRecordError c) fun s => ((s.bump (R.UE_CNT 7)).detect 50 0 [(14, c.val)]).poisonCairn c.val) ∧
  (∀ w : Fin 8192, Acts (.waiterRecordParity w) fun s => ((s.wakeWaiter w.val .poison).bump (R.UE_CNT 11)).detect 51 0 [])

/-- Push, pop and the queue controls (R381 to R393): the declared producer pushes, commits and aborts, the declared consumer pops,
marks, rewinds and releases, from a host route or as another agent; a flush, the peak, a pointer mismatch and a waiting pop.
The model's own conventions here: log entry 46. -/
def Obligations.QueueCommandsComplete : Prop :=
  (∀ (q : Fin 256) (a : BitVec 16) (d : Bytes) (p : Bool), a.toNat / 4096 ≠ 7 → Acts (.qPush q a d p) fun s => s.qPush q.val a.toNat d p) ∧
  (∀ (q : Fin 256) (a : BitVec 16) (d : Bytes) (p : Bool), a.toNat / 4096 = 7 →
    Writes (.qPush q a d p) (a.toNat % 4096 % 4) (0x2B00 + q.val) 0x20 d fun s => (s.qPush q.val a.toNat d p, 0)) ∧
  (∀ (q : Fin 256) (a : BitVec 16) (n : Fin 257), a.toNat / 4096 ≠ 7 → Does (.qPop q a n)
    (fun s => s.qEnabled q.val = true ∧ agentMatches (s.rd (R.Q_CONS q.val)) a.toNat = true ∧ (s.queue q.val).wait = none)
    fun s => s.popServe q.val { agent := a.toNat, words := n.val, got := [], poison := false, since := s.tclk }) ∧
  (∀ (q : Fin 256) (a : BitVec 16) (n : Fin 257) (d : Bytes) (p : Bool) (t : State), a.toNat / 4096 = 7 → a ≠ 0x7001 → Does (.qPop q a n)
    (fun s => s.routeTakes (a.toNat % 4096) ∧ s.qEnabled q.val = true ∧ agentMatches (s.rd (R.Q_CONS q.val)) a.toNat = true ∧
      qTakeN q.val a.toNat n.val s = (d, p, t))
    fun _ => t.popDone q.val a.toNat (d ++ markers (n.val - d.length / 8)) p) ∧
  (∀ (q : Fin 256) (w : PopWait), Does (.popResume q)
    (fun s => (s.queue q.val).wait = some w ∧ s.qCount q.val ≠ 0 ∧ w.agent ≠ 0x7001) fun s => s.popServe q.val w) ∧
  (∀ (q : Fin 256) (w : PopWait), Does (.qemptyTo q)
    (fun s => (s.queue q.val).wait = some w ∧ w.agent = 0x7001 ∧ w.since + 8 * tclkUs ≤ s.tclk ∧ s.qCount q.val = 0)
    fun s => (s.qStat q.val 2).dpPopEnd q.val) ∧
  (∀ (q : Fin 256) (a : BitVec 16), a.toNat / 4096 ≠ 7 →
    Does (.qCommit q a true) (fun s => s.qEnabled q.val = true ∧ agentMatches (s.rd (R.Q_PROD q.val)) a.toNat = true) (fun s => s.qCommit q.val) ∧
    Does (.qAbort q a true) (fun s => s.qEnabled q.val = true ∧ agentMatches (s.rd (R.Q_PROD q.val)) a.toNat = true) (fun s => s.qAbort q.val) ∧
    Does (.qMark q a true) (fun s => s.qEnabled q.val = true ∧ agentMatches (s.rd (R.Q_CONS q.val)) a.toNat = true)
      (fun s => s.setQueue q.val { s.queue q.val with mp := (s.queue q.val).rp }) ∧
    Does (.qRewind q a true) (fun s => s.qEnabled q.val = true ∧ agentMatches (s.rd (R.Q_CONS q.val)) a.toNat = true)
      (fun s => s.setQueue q.val { s.queue q.val with rp := (s.queue q.val).mp }) ∧
    Does (.qRelease q a true) (fun s => s.qEnabled q.val = true ∧ agentMatches (s.rd (R.Q_CONS q.val)) a.toNat = true)
      (fun s => s.setQueue q.val { s.queue q.val with lp := (s.queue q.val).rp, mp := (s.queue q.val).rp })) ∧
  (∀ (r : Route) (q : Fin 256) (a : BitVec 16), a.toNat = 0x7000 + r.val →
    Does (.qCommit q a true) (fun s => s.takesWrite r.val (0x2B00 + q.val) 0x0B (toLe 1 1) ∧ s.qEnabled q.val = true ∧
        agentMatches (s.rd (R.Q_PROD q.val)) a.toNat = true)
      (fun s => (s.qCommit q.val).written r.val (0x2B00 + q.val) 0x0B (toLe 1 1)) ∧
    Does (.qRelease q a true) (fun s => s.takesWrite r.val (0x2B00 + q.val) 0x0F (toLe 1 1) ∧ s.qEnabled q.val = true ∧
        agentMatches (s.rd (R.Q_CONS q.val)) a.toNat = true)
      (fun s => (s.qRelease q.val).written r.val (0x2B00 + q.val) 0x0F (toLe 1 1))) ∧
  (∀ (r : Route) (q : Fin 256) (cr : CommitRec), Commits (.qFlush r q cr) r.val (0x2B00 + q.val) 0x10 cr (qFlushCheck q.val) (qFlushApply q.val)) ∧
  (∀ (r : Route) (q : Fin 256), Does (.qPeak r q) (fun s => s.takesRead r.val (0x2B00 + q.val) 9)
    fun s => (s.wr (R.Q_PEAK q.val) (s.qHeld q.val)).readReply r.val (toLe 4 (s.rd (R.Q_PEAK q.val))) false) ∧
  (∀ q : Fin 256, Does (.queuePointerMismatch q) (fun s => (s.queue q.val).wait = none) fun s =>
    let x := s.queue q.val
    ((((s.setQueue q.val { Queue.empty with ignoring := x.ignoring || (s.qPkt q.val && x.wp ≠ x.cp) }).injHere 44 q.val).qStat q.val 5).bump
      R.QM_RESETS).detect 44 0 [(8, q.val)])

/-- Allocations, descriptors and copies, each a deferred write that Keeper serves (R200, R201, R204, R209, R215, R216, R475).
The model's own conventions here: log entry 33. -/
def Obligations.DescriptorCommandsComplete : Prop :=
  (∀ (r : Route) (d : Bytes), WritesKeeper (.allocNew r d) r.val 0x2C30 1 d fun s => s.allocNewReq r.val d) ∧
  (∀ (r : Route) (i : BitVec 16), WritesKeeper (.allocFree r i) r.val 0x2C30 2 (toLe 2 i.toNat) fun s => s.allocFreeReq r.val i.toNat) ∧
  (∀ (r : Route) (d : Bytes), WritesKeeper (.descNew r d) r.val 0x2C40 1 d fun s => s.descNewReq r.val d) ∧
  (∀ (r : Route) (h : BitVec 32), WritesKeeper (.descFree r h) r.val 0x2C40 2 (toLe 4 h.toNat) fun s => s.descFreeReq r.val h.toNat) ∧
  (∀ (r : Route) (d : Bytes), WritesKeeper (.copyNew r d) r.val 0x2C50 1 d fun s => s.copyNewReq r.val d) ∧
  (∀ (r : Route) (i : BitVec 16), WritesKeeper (.copyFree r i) r.val 0x2C50 2 (toLe 2 i.toNat) fun s => s.copyFreeReq i.toNat)

/-! ### Timetables and the deep layer (chapters 09, 10) -/

/-- The image and the timetable (R29, R282, R286, R303 to R311): loading and admission, the epoch and the cycle's origin at their
time, a task that becomes READY, takes its inputs, runs, completes or is aborted, and an instance that is emptied.
The model's own conventions here: log entries 10, 38, 39, 40 and 41. -/
def Obligations.TimetableComplete : Prop :=
  (∀ r : Route, Does (.imgLoad r) (fun s => s.takesWrite r.val 0x2800 2 (toLe 1 1) ∧ s.replaying = false ∧ s.keeperFree ∧ s.imgLoad.2 = 0)
    fun s => s.imgLoad.1.written r.val 0x2800 2 (toLe 1 1)) ∧
  (∀ x : ImageExtra, Does (.admissionComplete x) (fun s => s.deep.tt.checking = true) fun s => s.readImage.2.admitImage s.readImage.1 x) ∧
  Does .epochInstant (fun s => s.deep.tt.loaded = true ∧ s.instant s.deep.tt.epochNext ≤ s.now) (fun s => s.epochInstant) ∧
  Does .epochInstant (fun s => s.deep.tt.loaded = false ∨ s.now < s.instant s.deep.tt.epochNext) (fun s => s) ∧
  (∀ (c : Fin 8) (q : Nat), Does (.instanceOrigin c) (fun s => s.nextOf c.val = some q ∧ s.deep.tt.loaded = true ∧ s.cycOrigin c.val q ≤ s.now)
    fun s => s.instanceOrigin c.val q) ∧
  (∀ (c : Fin 8) (i : Nat) (t : BitVec 16) (e : SbEntry) (r : TaskRec), Does (.startMin c i t)
    (fun s => s.entry c.val i t.toNat = some e ∧ s.taskRec c.val t.toNat = some r ∧ e.st = 1 ∧ e.inrdy = 2 ^ r.inputs.length - 1 ∧
      s.cycOrigin c.val i + r.startMin * ftNs ≤ s.now)
    fun s => s.mapEntry (c.val, i, t.toNat) fun x => { x with st := 2 }) ∧
  (∀ (c : Fin 8) (i : Nat) (t : BitVec 16) (k : Fin 8) (e : SbEntry) (r : TaskRec) (x : InEnt) (o : Int), Does (.inputResolve c i t k)
    (fun s => s.openInput c.val i t.toNat k.val = some (e, r, x) ∧ s.inputNow e x = .ready o)
    fun s => s.resolveInput c.val i t.toNat k.val (some o) false) ∧
  (∀ (c : Fin 8) (i : Nat) (t : BitVec 16) (k : Fin 8) (e : SbEntry) (r : TaskRec) (x : InEnt), Does (.inputResolve c i t k)
    (fun s => s.openInput c.val i t.toNat k.val = some (e, r, x) ∧ s.inputNow e x = .no) fun s => s) ∧
  (∀ (c : Fin 8) (i : Nat) (t : BitVec 16) (k : Fin 8) (e : SbEntry) (r : TaskRec) (x : InEnt), Does (.inDl c i t k)
    (fun s => s.openInput c.val i t.toNat k.val = some (e, r, x) ∧ s.cycOrigin c.val i + r.inDl * ftNs ≤ s.now ∧ 3 ≤ x.kind ∧ x.fb ≠ 0 ∧
      s.inputNow e x = .no)
    fun s => (s.resolveInput c.val i t.toNat k.val (some noOldest) true).fellBack c.val i t.toNat k.val) ∧
  (∀ (c : Fin 8) (i : Nat) (t : BitVec 16) (e : SbEntry) (r : TaskRec), Does (.taskDispatch c i t)
    (fun s => s.entry c.val i t.toNat = some e ∧ s.taskRec c.val t.toNat = some r ∧ e.st = 2 ∧ s.unitIdle r = true ∧
      s.unitsClear e.key r = true ∧ s.unitsEnded r = true)
    fun s => (s.mapEntry e.key fun x => { x with st := 3 }).unitStart r e.key) ∧
  (∀ (c : Fin 8) (i : Nat) (t : BitVec 16) (e : SbEntry) (r : TaskRec) (f : Bool), Does (.taskComplete c i t)
    (fun s => s.entry c.val i t.toNat = some e ∧ s.taskRec c.val t.toNat = some r ∧ e.st = 3 ∧ s.taskEnd e r = some f)
    fun s => s.taskFinish e r f) ∧
  (∀ (c : Fin 8) (i : Nat) (t : BitVec 16) (e : SbEntry) (r : TaskRec), Does (.taskAbort c i t)
    (fun s => s.entry c.val i t.toNat = some e ∧ s.taskRec c.val t.toNat = some r ∧ 1 ≤ e.st ∧ e.st ≤ 3 ∧ s.injArmed 41 r.unit = false ∧
      s.cycOrigin c.val i + r.doneDl * ftNs ≤ s.now ∧ (e.st = 3 → s.taskEnd e r = none))
    fun s => ((s.abortEntry e s.now).bump R.ABORT_CNT).detect 41 r.unit [(16, e.task)]) ∧
  (∀ (c : Fin 8) (i : Nat), c.val ≠ 0 → Does (.instanceEmpty c i)
    (fun s => s.deep.tt.loaded = true ∧ s.cycOrigin c.val i + 2 * s.cycleQ c.val ≤ s.now ∧
      s.deep.tt.sb.filter (fun e => (decide (e.cycle = c.val) && decide (e.inst = i)) && decide (e.st = 3)) = [])
    fun s => s.mapTt fun t =>
      { t with sb := t.sb.filter (fun e => !(e.cycle = c.val && e.inst = i)), fbInst := t.fbInst.filter (fun p => p ≠ (c.val, i)) })

/-- Deep results, and accesses under the slot table (R278, R291, R294): the result of a finished epoch, the stopped result, an access
in its own slot or out of it, a faulty slot record and its repair.
The model's own conventions here: log entries 37 and 42. -/
def Obligations.ResultsAndSlotsComplete : Prop :=
  (∀ (l : List PeerStream) (e : SbEntry), Does (.deepResult l) (fun s => s.deepTask = some e ∧ s.emitsDeep = true) fun s =>
    ((s.deepEmit (s.instEpoch e.cycle e.inst) l).mapEpoch (s.instEpoch e.cycle e.inst) fun x => { x with sent := true }).mapEntry e.key
      fun x => { x with report := 1 }) ∧
  Does .stoppedDeepResult (fun s => s.deep.tt.stoppedNext ≠ 0 ∧ s.deepStopped = true ∧ s.instant s.deep.tt.stoppedNext ≤ s.now ∧
      s.emitsDeep = true)
    (fun s => (s.deepPacket (s.deep.tt.stoppedNext - 1) 0 noAge (16 * boolNat s.partitioned + 32 * boolNat s.replaying) 3 []).mapTt
      fun t => { t with stoppedNext := s.deep.tt.stoppedNext + 1 }) ∧
  (∀ (x : BitVec 16) (k : Fin 1024) (a : BitVec 16) (addr : BitVec 48) (n : Nat) (p : Bool), Does (.resourceAccess x k a addr (.read n) p)
    (fun s => k.val < wheelLen x.toNat ∧ s.gateAccepts x.toNat k.val a.toNat false = true ∧ s.injArmed 40 a.toNat = false)
    fun s => s.serveAccess a.toNat addr.toNat (.read n) p) ∧
  (∀ (x : BitVec 16) (k : Fin 1024) (a : BitVec 16) (addr : BitVec 48) (d : Bytes) (p : Bool), Does (.resourceAccess x k a addr (.write d) p)
    (fun s => k.val < wheelLen x.toNat ∧ s.gateAccepts x.toNat k.val a.toNat true = true ∧ s.injArmed 40 a.toNat = false)
    fun s => s.serveAccess a.toNat addr.toNat (.write d) p) ∧
  (∀ (x : BitVec 16) (k : Fin 1024) (a : BitVec 16) (addr : BitVec 48) (d : Bytes) (p : Bool), Does (.resourceAccess x k a addr (.write d) p)
    (fun s => k.val < wheelLen x.toNat ∧ s.gateAccepts x.toNat k.val a.toNat true = false)
    fun s => ((s.injHere 40 a.toNat).slotViolation x.toNat k.val a.toNat).accessFailed a.toNat addr.toNat true .slot) ∧
  (∀ (x : BitVec 16) (k : Fin 1024), Does (.slotTableParity x k)
    (fun s => k.val < wheelLen x.toNat ∧ s.deep.tt.gateBad.contains (x.toNat, k.val) = false)
    fun s => (s.mapTt fun t => { t with gateBad := t.gateBad ++ [(x.toNat, k.val)] }).detect 42 0 [(16, x.toNat), (16, k.val)]) ∧
  (∀ (x : BitVec 16) (k : Fin 1024), Does (.gateRewrite x k) (fun s => s.keeperUp = true)
    fun s => (s.disarmFlip 11).mapTt fun t => { t with gateBad := t.gateBad.filter (fun j => j ≠ (x.toNat, k.val)) })

/-- Astrograph's operations run for their task, and the Almanac is written, cloned and switched (R251 to R253, R260 to R262, R270).
The model's own conventions here: log entries 35 and 36. -/
def Obligations.AstrographComplete : Prop :=
  (∀ (i : Fin 32) (b : Bytes) (e : SbEntry) (r : TaskRec),
    Does (.liftDepth i) (fun s => s.agSpec i.val = b ∧ b.isEmpty = false ∧ gOp (specHead b) = 0 ∧ s.agTask i.val = some (e, r))
      (fun s => (s.liftRun b e.inst State.liftDepthCam).2.agDone (specHead b) e (s.liftRun b e.inst State.liftDepthCam).1) ∧
    Does (.liftAttn i) (fun s => s.agSpec i.val = b ∧ b.isEmpty = false ∧ gOp (specHead b) = 1 ∧ s.agTask i.val = some (e, r))
      (fun s => (s.liftRun b e.inst State.liftAttnCam).2.agDone (specHead b) e (s.liftRun b e.inst State.liftAttnCam).1) ∧
    Does (.voxPool i) (fun s => s.agSpec i.val = b ∧ b.isEmpty = false ∧ gOp (specHead b) = 2 ∧ s.agTask i.val = some (e, r))
      (fun s => (s.voxPoolRun b e.inst).2.agDone (specHead b) e (s.voxPoolRun b e.inst).1) ∧
    Does (.warp i) (fun s => s.agSpec i.val = b ∧ b.isEmpty = false ∧ gOp (specHead b) = 3 ∧ s.agTask i.val = some (e, r))
      (fun s => (s.warpRun b e.inst).2.agDone (specHead b) e (s.warpRun b e.inst).1)) ∧
  (∀ (r : Route) (i : BitVec 16) (d : Bytes), isAlm i.toNat = true → WritesKeeper (.almanacObjectWrite r i d) r.val i.toNat 0 d
    fun s => s.almWrite i.toNat d) ∧
  (∀ r : Route, WritesKeeper (.almClone r) r.val 0x2700 8 [1] fun s => s.almCloneRun) ∧
  (∀ (r : Route) (cr : CommitRec), Commits (.almSwitch r cr) r.val 0x2700 4 cr State.almSwitchCheck State.almSwitchApply) ∧
  (∀ g m : Nat, Does .almanacSwitched (fun s => s.deep.ag.almPend = some (g, m) ∧ s.instant m ≤ s.now) fun s => s.almTake g m) ∧
  (∀ g m : Nat, Does .almanacSwitched (fun s => s.deep.ag.almPend = some (g, m) ∧ s.now < s.instant m) fun s => s)

/-! ### Theodolite (chapter 11) -/

/-- Theodolite's units (R318, R319, R331, R332, R337, R338): the command of a kind acts on every problem of the wave while the unit
runs a program of that kind; the wave's end, the stop, the propagator and the origin.
The model's own conventions here: log entries 43 and 44. -/
def Obligations.TheodoliteComplete : Prop :=
  (∀ (u : Fin 2) (x : ThUnit),
    Does (.llt u) (fun s => s.thUnit u.val = some x ∧ pKind (s.thProg x.prog) = 0) (fun s => s.thWave u.val x State.probDirect) ∧
    Does (.ldlt u) (fun s => s.thUnit u.val = some x ∧ pKind (s.thProg x.prog) = 1) (fun s => s.thWave u.val x State.probDirect) ∧
    Does (.householderQr u) (fun s => s.thUnit u.val = some x ∧ pKind (s.thProg x.prog) = 2) (fun s => s.thWave u.val x State.probDirect) ∧
    Does (.lu u) (fun s => s.thUnit u.val = some x ∧ pKind (s.thProg x.prog) = 3) (fun s => s.thWave u.val x State.probDirect) ∧
    Does (.triangularSolve u) (fun s => s.thUnit u.val = some x ∧ pKind (s.thProg x.prog) = 4) (fun s => s.thWave u.val x State.probDirect) ∧
    (∀ k : Fin 256,
      Does (.gaussNewton u k) (fun s => s.thUnit u.val = some x ∧ pKind (s.thProg x.prog) = 5)
        (fun s => s.thWave u.val x (thSteps k.val gaussStep)) ∧
      Does (.levenbergMarquardt u k) (fun s => s.thUnit u.val = some x ∧ pKind (s.thProg x.prog) = 6)
        (fun s => s.thWave u.val x (thSteps k.val levenbergStep)) ∧
      Does (.pcg u k) (fun s => s.thUnit u.val = some x ∧ pKind (s.thProg x.prog) = 7)
        (fun s => s.thWave u.val x (thSteps k.val pcgStep)) ∧
      Does (.llt u) (fun s => s.thUnit u.val = some x ∧ pKind (s.thProg x.prog) ≠ 0) (fun s => s)) ∧
    Does (.waveComplete u) (fun s => s.thUnit u.val = some x ∧
        (s.waveIx x).all x.probDone = true)
      (fun s => s.waveDone u.val x) ∧
    Does (.tStop u) (fun s => s.thUnit u.val = some x ∧ s.tStopAt x ≤ s.now) (fun s => s.theoStop u.val x) ∧
    Does (.tStop u) (fun s => s.thUnit u.val = some x ∧ s.now < s.tStopAt x) (fun s => s)) ∧
  (∀ (v : Sample) (l : List Sample) (b : PropBase), Does .propagatorSample (fun s => s.deep.th.propQ = v :: l ∧ s.deep.th.base = some b)
    fun s => s.propagate v l b) ∧
  (∀ (r : Route) (d : Bytes), Writes (.gnssOriginWrite r d) r.val 0x2900 4 d fun s =>
    ((s.wr R.GNSS_ORIGIN (leNat d)).mapTheo fun th => { th with resetDue := true }, 0))

/-! ### Memory protection (chapter 14) -/

/-- Scrubbers, passes, the error log, weights and flip masks (R408, R411, R413, R414, R418, R419).
The model's own conventions here: log entries 12 and 55. -/
def Obligations.MemoryCommandsComplete : Prop :=
  (∀ (k : Fin 3) (c : Fin 16) (m : BitVec 144), Does (.scrubberSlot k c m)
    (fun s => s.scrubberOwns k.val c.val = true ∧ (k.val = 2 → c.val < 2) ∧ (k.val = 1 → s.variant ≠ 1) ∧ s.mem.verify = none ∧
      s.storeOpen (if k.val = 2 then 166 else k.val) = true)
    fun s => s.scrubSlot k.val c.val m.toNat) ∧
  (∀ (r : Route) (d : Bytes), Writes (.scrubReq r d) r.val 0x2C00 0x0C d fun s => s.scrubReq d) ∧
  (∀ (q : PassReq) (l : List PassReq), Does .scrubPassEnd (fun s => s.mem.passes = q :: l) fun s => s.endPass q l) ∧
  Does .scrubPassEnd (fun s => s.mem.passes = []) (fun s => s) ∧
  (∀ r : Route, Reads (.errPop r) r.val 0x2C00 3 State.errPop) ∧
  (∀ (r : Route) (i : BitVec 16), WritesKeeper (.wtClear r i) r.val 0x2C00 7 (toLe 2 i.toNat) fun s => s.wtClear i.toNat) ∧
  (∀ i : Nat, Does .wtVerifyDone (fun s => s.mem.verify = some i) fun s => s.endVerify i) ∧
  Does .degradedEnd (fun s => s.mem.degradedEnds = true) (fun s =>
    let t := { s with mem := { s.mem with degradedEnds := false } }.wr R.WT_STATE 0
    (if t.rd R.DEV_STATE = 3 then t.setDev 2 else t).event 0x2C04 0 []) ∧
  (∀ (r : Route) (c : Fin 12) (cr : CommitRec), Commits (.flipMask r c cr) r.val (0x2C10 + c.val) 1 cr flipMaskCheck (flipMaskApply c.val))

/-! ### Host links, DMA, Range (chapter 15) -/

/-- The PCIe link and the host (R428 to R430, R442, R452): resets, training, errors, the bus master bit, held vectors, the host's
heartbeat and its end.
The model's own conventions here: log entry 47. -/
def Obligations.HostLinkComplete : Prop :=
  (∀ k : PcieResetKind, Acts (.pcieReset k) fun s => s.pcieReset k) ∧
  (∀ (g : Fin 5) (w : Fin 9), Does (.pcieTrained g w) (fun s => g.val ≠ 0 ∧ laneWidth w.val = true ∧ s.entryPowered 0x2D00 = true) fun s =>
    let t := ((s.wr R.PCIE_STATE 2).wr R.PCIE_SPEED g.val).wr R.PCIE_WIDTH w.val
    if g.val < 4 ∨ w.val < 8 then t.event 0x2D02 0 [] else t) ∧
  Acts .pcieUncorrectable (fun s => ((s.injHere 32 0).bump R.AER_UE).detect 32 0 []) ∧
  Acts .correctableAerError (fun s => s.bump R.AER_CE) ∧
  (∀ b d : Bool, Acts (.busMasterEnable b d) fun s => (s.mapHost fun h => { h with bme := b, d3hot := !d }).sendHeld) ∧
  (∀ v : Fin 256, Acts (.msixUnmask v) fun s =>
    (s.mapHost fun h => { h with vecMask := smSet (fun _ => true) h.vecMask v.val false }).sendHeld) ∧
  (∀ r : Route, Writes (.hostHb r) r.val 0x2D00 5 [1] fun s => (s.hostBeat, 0)) ∧
  (∀ t : Nat, Does .hostTmo (fun s => s.host.hbTime = some t ∧ t + s.rd R.HOST_TMO * tclkUs < s.tclk)
    fun s => s.mapHost fun h => { h with hbTime := none }) ∧
  (∀ t : Nat, Does .hostTmo (fun s => s.host.hbTime = some t ∧ s.tclk ≤ t + s.rd R.HOST_TMO * tclkUs) fun s => s)

/-- The data port and DMA (R215 to R218, R357, R433, R434, R437 to R441, R448): accesses in their turn, the fence, remote timeouts;
tails, records of rings, copies, the end of a transfer, a channel's reset.
The model's own conventions here: log entries 48 and 52. -/
def Obligations.DataPortAndDmaComplete : Prop :=
  (∀ acc : AccessKind, accLen acc % 8 = 0 → Does (.dpData true acc)
    (fun s => s.host.dpRun = none ∧ s.fenceHeld = false) fun s => s.dpBurst acc) ∧
  (∀ acc : AccessKind, Does (.dpData false acc) (fun s => s.host.dpRun = none ∧ s.fenceHeld = false) fun s => s.dpMisaligned acc) ∧
  (∀ (o : Fin 65536) (acc : AccessKind), Does (.burstAperture o acc)
    (fun s => s.host.dpRun = none ∧ s.fenceHeld = false) fun s => s.apertureRun o.val acc) ∧
  (∀ r : Route, Does (.dpFence r) (fun s => s.host.dpRun = none ∧ s.fenceHeld = false ∧ s.takesRead r.val 0x2D20 8)
    fun s => (s.mapHost fun h => { h with readAhead := [] }).readReply r.val (toLe 8 0) false) ∧
  (∀ r : Route, Does (.dpFence r) (fun s => s.host.dpRun = none ∧ s.fenceHeld = true) fun s => s) ∧
  (∀ (t : BitVec 16) (a : RemoteAcc), Does (.remoteTimeout t)
    (fun s => s.host.remote.find? (fun x => x.tag = t.toNat) = some a ∧ a.start + 40 * tclkUs ≤ s.tclk)
    fun s => (s.dropRemote a.tag).remoteFailed a) ∧
  (∀ (r : Route) (c : Fin 64) (v : BitVec 32), Writes (.dmaTail r c v) r.val (0x2D40 + c.val) 8 (toLe 4 v.toNat)
    fun s => s.dmaTail c.val v.toNat) ∧
  (∀ (c : Fin 64) (d : Option Bytes), Does (.linearTransfer c d)
    (fun s => s.ringReady c.val = true ∧ (s.ringRecord c.val).fail = none ∧ xfKind (leNat (s.ringRecord c.val).data) ≠ 1)
    fun s => (s.ringRecord c.val).s.dmaLinear c.val (leNat (s.ringRecord c.val).data) d) ∧
  (∀ c : Fin 64, Does (.copyObjectTransfer c)
    (fun s => s.ringReady c.val = true ∧ (s.ringRecord c.val).fail = none ∧ xfKind (leNat (s.ringRecord c.val).data) = 1)
    fun s => (s.ringRecord c.val).s.dmaCopy c.val (xfCopy (leNat (s.ringRecord c.val).data)) (leNat (s.ringRecord c.val).data)) ∧
  (∀ (c : Fin 64) (x : DmaCur), Does (.copyObjectTransfer c)
    (fun s => s.ringReady c.val = false ∧ s.rd (R.DMA_MODE c.val) ≠ 2 ∧ s.rd (R.DMA_STATE c.val) = 1 ∧ s.dmaCur c.val = some x ∧
      x.moved = false)
    fun s => s.dmaCopy c.val (x.word % 2 ^ 10) x.word) ∧
  (∀ (c : Fin 64) (x : DmaCur), Does (.dmaTransferComplete c)
    (fun s => s.dmaCur c.val = some x ∧ x.moved = true ∧ s.host.remote.any (fun a => a.agent = 0x5000 + c.val && a.write) = false)
    fun s => if s.rd (R.DMA_MODE c.val) = 2 then s.ringDone c.val x.word
      else ((s.setDma c.val none).wr (R.DMA_STATE c.val) 0).unitEnded (0x5000 + c.val)) ∧
  (∀ (r : Route) (c : Fin 64) (v : Bool), Writes (.dmaReset r c v) r.val (0x2D40 + c.val) 9 (toLe 1 (boolNat v))
    fun s => s.dmaResetReq c.val v)

/-- Col links and the Range (R368, R443 to R456): training, a link that goes down, flits that arrive in order for this device, the
map, peers and the Range ID.
The model's own conventions here: log entry 49. -/
def Obligations.ColAndRangeComplete : Prop :=
  (∀ (l : Fin 6) (p : Fin 8) (i : BitVec 64) (v : Fin 4), Does (.colLinkTrained l p i v)
    (fun s => s.linkOn l.val = true ∧ s.rd (R.LINK_STATE l.val) ≠ 2 ∧ v.val ≠ 0 ∧ p.val ≠ s.host.rangeId) fun s =>
    ((s.wr (R.LINK_STATE l.val) 2).wr (R.LINK_PEER l.val) p.val).mapHost fun h =>
      { h with linkImage := smSet (fun _ => 0) h.linkImage l.val i.toNat, seqRx := smSet (fun _ => 65536) h.seqRx l.val 65536,
               seqTx := smSet (fun _ => 0) h.seqTx l.val 0, badRun := smSet (fun _ => 0) h.badRun l.val 0 }) ∧
  (∀ (l : Fin 6) (p : Fin 8) (i : BitVec 64) (v : Fin 4), Does (.colLinkTrained l p i v)
    (fun s => s.linkOn l.val = true ∧ s.rd (R.LINK_STATE l.val) ≠ 2 ∧ v.val ≠ 0 ∧ p.val = s.host.rangeId)
    fun s => (s.wr (R.LINK_STATE l.val) 3).event 0x2D22 0 []) ∧
  (∀ l : Fin 6, Does (.colLinkDown l) (fun s => s.rd (R.LINK_STATE l.val) = 2) fun s => (s.injHere 31 l.val).linkDown l.val) ∧
  (∀ l : Fin 6, Does (.colLinkDown l) (fun s => s.rd (R.LINK_STATE l.val) ≠ 2) fun s => s) ∧
  (∀ (l : Fin 6) (f : Flit),
    Does (.colWrite l f) (fun s => s.flitArrives l.val f 1) (fun s => (s.flitTaken l.val f).peerWrite f) ∧
    Does (.colWriteAck l f) (fun s => s.flitArrives l.val f 2) (fun s => (s.flitTaken l.val f).peerAck f) ∧
    Does (.colReadRequest l f) (fun s => s.flitArrives l.val f 3) (fun s => (s.flitTaken l.val f).peerRead f) ∧
    Does (.colReadResponse l f) (fun s => s.flitArrives l.val f 4) (fun s => (s.flitTaken l.val f).peerData f) ∧
    Does (.colCairnOperation l f) (fun s => s.flitArrives l.val f 5)
      (fun s => (s.flitTaken l.val f).sigAdd (colAgent f) (f.addr.toNat % 2 ^ 14) (leAt f.payload 0 4))) ∧
  (∀ (r : Route) (cr : CommitRec), Commits (.mapSel r cr) r.val 0x2DA0 5 cr mapSelCheck mapSelApply) ∧
  Acts .mapSwitch (fun s => s.mapDue) ∧
  (∀ (r : Route) (cr : CommitRec), Commits (.peerAdmit r cr) r.val 0x2DA0 4 cr peerAdmitCheck peerAdmitApply) ∧
  Acts .peerReadmission (fun s => s.peersDue) ∧
  (∀ (r : Route) (cr : CommitRec), Commits (.rangeId r cr) r.val 0x2DA0 1 cr noCheck (keyApply R.RANGE_ID))

/-! ### Routes (chapter 16) -/

/-- Requests of any entry on a route, deferred requests and the counter record (R461, R465, R467, R473, R475, R477, R481).
The model's own conventions here: log entries 14, 50, 51 and 54. -/
def Obligations.RouteCommandsComplete : Prop :=
  (∀ (r : Route) (i : BitVec 16) (b : BitVec 8) (d : Bytes) (t : State) (c : Nat), Does (.registerWrite r i b d)
    (fun s => s.routeTakes r.val ∧ s.reqWrite r.val i.toNat b.toNat d (.write i.toNat b.toNat d) = (t, c))
    fun _ => (t.answer r.val i.toNat b.toNat c).applySettings) ∧
  (∀ (r : Route) (i : BitVec 16) (b : BitVec 8) (d : Bytes), isCw i.toNat b.toNat = true →
    (i.toNat < 0x2010 ∨ 0x2013 < i.toNat ∨ b.toNat ≠ 9) → Does (.cwShadowWrite r i b d)
    (fun s => s.takesWrite r.val i.toNat b.toNat d)
    fun s => ((s.setShadow r.val (some (entryKey i.toNat b.toNat, d))).succeed r.val).applySettings) ∧
  (∀ (r : Route) (t : State) (c : Nat), Does (.dwGoRead r)
    (fun s => s.takesWrite r.val (0x2010 + r.val) 9 [1] ∧ s.dwGo r.val r.val 1 = (t, c))
    fun _ => (t.answer r.val (0x2010 + r.val) 9 c).applySettings) ∧
  (∀ (r : Route) (t : State) (c : Nat), Does (.dwGoWrite r)
    (fun s => s.takesWrite r.val (0x2010 + r.val) 9 [2] ∧ s.dwGo r.val r.val 2 = (t, c))
    fun _ => (t.answer r.val (0x2010 + r.val) 9 c).applySettings) ∧
  (∀ (r k : Nat) (q : DefReq) (l : List (Nat × DefReq × Nat)), q.writes = false → Does .deferredStart
    (fun s => s.routes.queue = (r, q, k) :: l ∧ s.keeperUp = true ∧ s.routes.started = none ∧ s.dome.waitCommit = none)
    fun s => ({ s with routes := { s.routes with queue := l } } : State).draw.2.setStarted (some (r, q, none))) ∧
  (∀ (r : Nat) (q : DefReq) (a : ReadAns), a.reason ≠ queuedReason → Does .deferredDone
    (fun s => s.routes.started = some (r, q, none) ∧ s.keeperUp = true ∧ s.dome.waitCommit = none ∧ s.runDef r q = a)
    fun s => s.defEnd r q a) ∧
  Does .deferredDone (fun s => s.routes.started = none) (fun s => s) ∧
  Acts .defTimeout (fun s => ((defExpire s.routes.queue { s with routes := { s.routes with queue := [] } }).applySettings).dpResume) ∧
  (∀ (r i b : Nat) (cr : CommitRec), Does .flashWriteDone (fun s => s.dome.waitCommit = some (r, i, b, cr))
    fun s => (s.wr R.FLASH_BUSY 0).finishCommit r i b cr) ∧
  Does .flashWriteDone (fun s => s.dome.waitCommit = none) (fun s => s.wr R.FLASH_BUSY 0)

/-- The CANopen and UDP routes (R469 to R471): a transfer while no session is open, segments, the session's timeout, the node's
commands and heartbeat, datagrams.
The model's own conventions here: log entry 53. -/
def Obligations.FieldRoutesComplete : Prop :=
  (∀ (i : BitVec 16) (b : BitVec 8) (d : Bytes), Does (.usdoDownload i b d true) (fun s => s.usdoUp = true ∧ s.usdoOpen = false)
    fun s => s.routeWrite 2 i.toNat b.toNat d) ∧
  (∀ (i : BitVec 16) (b : BitVec 8) (d : Bytes), Does (.usdoDownload i b d false) (fun s => s.usdoUp = true ∧ s.usdoOpen = false)
    fun s => s.setUsdo (some { idx := i.toNat, sub := b.toNat, download := true, data := d, last := s.tclk })) ∧
  (∀ (i : BitVec 16) (b : BitVec 8) (d : Bytes) (l : Bool), Does (.usdoDownload i b d l) (fun s => s.usdoUp = true ∧ s.usdoOpen = true)
    fun s => s.usdoBusy) ∧
  (∀ (i : BitVec 16) (b : BitVec 8), Does (.usdoUpload i b)
    (fun s => s.usdoUp = true ∧ s.usdoOpen = false ∧ s.fenceWaits i.toNat b.toNat = false ∧ s.readReason i.toNat b.toNat = 0 ∧
      entryDeferred i.toNat b.toNat = false ∧ ownEntry 2 i.toNat = false)
    fun s => (s.readEntry 2 i.toNat b.toNat).s.readReply 2 (s.readEntry 2 i.toNat b.toNat).data (s.readEntry 2 i.toNat b.toNat).poison) ∧
  (∀ (d : Bytes) (x : UsdoSession), Does (.usdoSegment d true)
    (fun s => s.usdoUp = true ∧ s.routes.usdo = some x ∧ s.tclk ≤ x.last + tclkSec / 10)
    fun s => (s.setUsdo none).routeWrite 2 x.idx x.sub (x.data ++ d)) ∧
  (∀ (d : Bytes) (x : UsdoSession), Does (.usdoSegment d false)
    (fun s => s.usdoUp = true ∧ s.routes.usdo = some x ∧ s.tclk ≤ x.last + tclkSec / 10)
    fun s => s.setUsdo (some { x with data := x.data ++ d, last := s.tclk })) ∧
  (∀ x : UsdoSession, Does .usdoSessionTimeout (fun s => s.routes.usdo = some x ∧ x.last + tclkSec / 10 < s.tclk)
    fun s => ((s.setUsdo none).emit (.usdo false 0x05040000 [])).applySettings) ∧
  Does .nmtStart (fun s => s.rd R.USDO_EN = 1 ∧ s.usdoPort = true) (fun s => { s with routes := { s.routes with nmt := 5 } }) ∧
  Does .nmtStop (fun s => s.rd R.USDO_EN = 1 ∧ s.usdoPort = true) (fun s => { s with routes := { s.routes with nmt := 4 } }) ∧
  Does .nmtEnterPreOperational (fun s => s.rd R.USDO_EN = 1 ∧ s.usdoPort = true) (fun s => { s with routes := { s.routes with nmt := 127 } }) ∧
  Does .nmtResetCommunication (fun s => s.rd R.USDO_EN = 1 ∧ s.usdoPort = true) (fun s => ((s.setUsdo none).nmtSet 127).applySettings) ∧
  Does .heartbeat (fun s => s.rd R.HEARTBEAT ≠ 0 ∧ s.usdoPort = true ∧
      s.routes.lastBeat + s.rd R.HEARTBEAT * (tclkUs * 1000) ≤ s.tclk)
    (fun s => ({ s with routes := { s.routes with lastBeat := s.tclk } }).emit (.nmt s.routes.nmt)) ∧
  (∀ q : UdpReq, Does (.udpRead q) (fun s => s.fenceWaits q.index.toNat q.sub.toNat = false ∧ s.routeTakes 3 ∧ s.udpBad q = false ∧
      (smGet (fun _ => ({ txn := 2 ^ 32, resp := [] } : UdpLast)) s.routes.udpLast (udpKey q)).txn ≠ q.txn.toNat)
    fun s => (s.udpReadRun q).applySettings) ∧
  (∀ q : UdpReq, Does (.udpWrite q) (fun s => s.routeTakes 3 ∧ s.udpBad q = false ∧
      (smGet (fun _ => ({ txn := 2 ^ 32, resp := [] } : UdpLast)) s.routes.udpLast (udpKey q)).txn ≠ q.txn.toNat)
    fun s => (s.udpWriteRun q).applySettings) ∧
  (∀ q : UdpReq, Does (.udpWrite q) (fun s => s.routeUp 3 = true ∧ s.udpBad q = true) fun s => s.udpDiscard q)

/-! ### Dome (chapter 17) -/

/-- Rollback, keys, measurements, quotes, envelopes and JTAG (R488, R495 to R501).
The model's own conventions here: log entries 10 and 56. -/
def Obligations.DomeComplete : Prop :=
  (∀ (r : Route) (cr : CommitRec), Commits (.rbAdv r cr) r.val 0x2E00 0x0A cr rbAdvCheck rbAdvApply) ∧
  (∀ i n : Nat, Does .fuseBurnDone (fun s => s.dome.burn = some (i, n)) fun s =>
    { s with nv := { s.nv with rollback := smSet (fun _ => 0) s.nv.rollback i n },
             dome := { s.dome with burn := none } }.event 0x2E09 0 [(8, i), (8, n)]) ∧
  (∀ (r : Route) (i : Fin 4) (cr : CommitRec), Commits (.fkRevoke r i cr) r.val (0x2E04 + i.val) 4 cr (fkRevokeCheck i.val) (fkRevokeApply i.val)) ∧
  (∀ (r : Route) (d : Bytes), Writes (.mr7Extend r d) r.val 0x2E02 9 d fun s => (s.extendMr 7 d, 0)) ∧
  (∀ r : Route, Writes (.attGo r) r.val 0x2E02 0x0B (toLe 1 1) State.attGo) ∧
  (∀ b : Bytes, Does .quoteReady (fun s => s.dome.quote = some b) fun s =>
    ({ s with dome := { s.dome with quote := none } }.wr R.ATT_QUOTE (leNat (b ++ edSign s.idSeed (shake256 b 64)))).wr R.ATT_STATE 2) ∧
  (∀ (r : Route) (d : Bytes), Writes (.keyEnv r d) r.val 0x2E01 1 d fun s => s.keyEnv d) ∧
  (∀ e : Bytes, Does .keyEnvelopeDone (fun s => s.dome.envelope = some e ∧
      ({ s with dome := { s.dome with envelope := none } } : State).envelopeReason e = 0)
    fun s => ({ s with dome := { s.dome with envelope := none } } : State).installKey e) ∧
  (∀ (e : Bytes) (c : Nat), c ≠ 0 → Does .keyEnvelopeDone (fun s => s.dome.envelope = some e ∧
      ({ s with dome := { s.dome with envelope := none } } : State).envelopeReason e = c)
    fun s => (({ s with dome := { s.dome with envelope := none } } : State).wr R.KEY_STATUS c).event 0x2E06 0 [(8, c)]) ∧
  (∀ (r : Route) (l : Fin 3), Writes (.jtagReq r l) r.val 0x2E03 2 (toLe 1 l.val) fun s => s.jtagReq l.val) ∧
  (∀ r : Route, Writes (.jtagRelock r) r.val 0x2E03 2 (toLe 1 0) fun s => (s.jtagRelock, 0)) ∧
  (∀ (r : Route) (d : Bytes), Writes (.jtagResp r d) r.val 0x2E03 4 d fun s => s.jtagResp d) ∧
  (∀ (b : Bytes) (l t : Nat), Does .jtagChallengeExpire (fun s => s.dome.chal = some (b, l, t) ∧ t + 60 * tclkSec ≤ s.tclk)
    fun s => { s with dome := { s.dome with chal := none } }) ∧
  (∀ (b : Bytes) (l t : Nat), Does .jtagChallengeExpire (fun s => s.dome.chal = some (b, l, t) ∧ s.tclk < t + 60 * tclkSec) fun s => s) ∧
  (∀ i : JtagInstr, Does (.jtagInstructionLoad i) (fun s => jtagLevelOf i ≤ s.dome.jtagLevel ∧ s.rd R.SNT_STATE ≠ 2)
    fun s => { s with dome := { s.dome with jtagInstr := i } }) ∧
  (∀ i : JtagInstr, Does (.jtagInstructionLoad i) (fun s => s.dome.jtagLevel < jtagLevelOf i)
    fun s => { s with dome := { s.dome with jtagInstr := .bypass } })

/-! ### Diagnostics and the Logbook (chapter 18) -/

/-- Events, injections, the Logbook and replay (R508, R509, R514 to R522).
The model's own conventions here: log entries 57 and 58. -/
def Obligations.DiagnosticsComplete : Prop :=
  (∀ r : Route, Reads (.evtPop r) r.val 0x2F00 1 State.evtPop) ∧
  (∀ (e : EventRecord) (l : List EventRecord), Does .eventFrameTx
    (fun s => s.diag.canQ = e :: l ∧ s.replaying = false ∧ s.portUp (0x22A0 + s.rd R.EVT_CAN_PORT) = true ∧
      s.siu.busOff.testBit (s.rd R.EVT_CAN_PORT) = false)
    fun s => { s with diag := { s.diag with canQ := l } }.emit (.canFrame (s.rd R.EVT_CAN_PORT) (s.rd R.EVT_CAN_ID) (eventFrame e))) ∧
  Does .eventFrameTx (fun s => s.replaying = true) (fun s => s) ∧
  (∀ (r : Route) (cr : CommitRec), Commits (.injReq r cr) r.val 0x2F00 0x0E cr injReqCheck injReqApply) ∧
  (∀ d i t : Nat, Does .injectionExpire (fun s => s.diag.inj = some (d, i, t) ∧ t + tclkSec ≤ s.tclk)
    fun s => { s with diag := { s.diag with inj := none } }.wr R.INJ_STATE 3) ∧
  (∀ (r : Route) (v : Bool), Writes (.lbEn r v) r.val 0x2F60 1 (toLe 1 (boolNat v)) fun s => s.lbEnable (boolNat v)) ∧
  (∀ (e : LbRec) (l : List LbRec), Does .hostRingWrite (fun s => s.lb.ring = e :: l ∧ s.ringFits e = true) fun s =>
    let t : State := { s with lb := { s.lb with ring := l } }
    (if s.ringPadLen e = 0 then t else t.ringPad (s.ringPadLen e)).ringPut (lbRecBytes e)) ∧
  (∀ (e : LbRec) (l : List LbRec), Does .hostRingWrite (fun s => s.lb.ring = e :: l ∧ s.ringFits e = false) fun s => s) ∧
  Does .timebaseRecord (fun s => s.rd R.LB_EN ≠ 0 ∧ s.lb.lastBase + 500000 ≤ s.tclk)
    (fun s => { s with lb := { s.lb with lastBase := s.tclk } }.lbTimebase) ∧
  (∀ (r : Route) (cr : CommitRec), Commits (.rpGo r cr) r.val 0x2F70 1 cr rpGoCheck rpGoApply) ∧
  (∀ (x : LbRec) (l : List LbRec), Does .replayRecordApply
    (fun s => s.lb.rpRecs = x :: l ∧ s.replaying = true ∧ s.lb.rpStart + (x.tclk - s.lb.rpFirst) ≤ s.tclk)
    fun s => ({ s with lb := { s.lb with rpRecs := l } }).replayRecord x) ∧
  (∀ r : Route, Writes (.rpStop r) r.val 0x2F70 2 [1] fun s => s.rpStop 1) ∧
  Does .replayUnderrun (fun s => s.replaying = true ∧ s.lb.rpRecs = []) (fun s => s.replayEnd 4) ∧
  Does .replayUnderrun (fun s => s.replaying = false) (fun s => s) ∧
  (∀ l : List LbRec, Does (.replayRingRead (some l)) (fun s => lbBytes l ≤ (s.rd R.RP_HOST_WR + 2 ^ 64 - s.rd R.RP_HOST_RD) % 2 ^ 64)
    fun s => { s with lb := { s.lb with rpRecs := s.lb.rpRecs ++ l } }.wr R.RP_HOST_RD ((s.rd R.RP_HOST_RD + lbBytes l) % 2 ^ 64)) ∧
  Acts (.replayRingRead none) (fun s => s.replayEnd 5)
end
end

