-- ==== Sys2Proof/Laws/State.lean ====
section
/-! SUPPORT. Every field of the state after every named update that leaves it alone. -/
namespace Sys2Proof.Machine

variable (s : State)

@[simp] theorem State.fresh_variant : s.fresh.variant = s.variant := rfl
@[simp] theorem State.fresh_tclk : s.fresh.tclk = s.tclk := rfl
@[simp] theorem State.fresh_clock : s.fresh.clock = s.clock := rfl
@[simp] theorem State.fresh_mer : s.fresh.mer = s.mer := rfl
@[simp] theorem State.fresh_net : s.fresh.net = s.net := rfl
@[simp] theorem State.fresh_objs : s.fresh.objs = s.objs := rfl
@[simp] theorem State.fresh_siu : s.fresh.siu = s.siu := rfl
@[simp] theorem State.fresh_talus : s.fresh.talus = s.talus := rfl
@[simp] theorem State.fresh_snt : s.fresh.snt = s.snt := rfl
@[simp] theorem State.fresh_almSw : s.fresh.almSw = s.almSw := rfl
@[simp] theorem State.fresh_dict : s.fresh.dict = s.dict := rfl
@[simp] theorem State.fresh_power : s.fresh.power = s.power := rfl
@[simp] theorem State.fresh_nv : s.fresh.nv = s.nv := rfl
@[simp] theorem State.fresh_dome : s.fresh.dome = s.dome := rfl
@[simp] theorem State.fresh_diag : s.fresh.diag = s.diag := rfl
@[simp] theorem State.fresh_lb : s.fresh.lb = s.lb := rfl
@[simp] theorem State.fresh_mem : s.fresh.mem = s.mem := rfl
@[simp] theorem State.fresh_routes : s.fresh.routes = s.routes := rfl
@[simp] theorem State.fresh_host : s.fresh.host = s.host := rfl
@[simp] theorem State.fresh_cs : s.fresh.cs = s.cs := rfl
@[simp] theorem State.fresh_queues : s.fresh.queues = s.queues := rfl
@[simp] theorem State.fresh_allocs : s.fresh.allocs = s.allocs := rfl
@[simp] theorem State.fresh_deep : s.fresh.deep = s.deep := rfl
@[simp] theorem State.fresh_free : s.fresh.free = s.free := rfl
@[simp] theorem State.fresh_pending : s.fresh.pending = s.pending := rfl

@[simp] theorem State.wr_variant (k v : Nat) : (s.wr k v).variant = s.variant := rfl
@[simp] theorem State.wr_tclk (k v : Nat) : (s.wr k v).tclk = s.tclk := rfl
@[simp] theorem State.wr_clock (k v : Nat) : (s.wr k v).clock = s.clock := rfl
@[simp] theorem State.wr_mer (k v : Nat) : (s.wr k v).mer = s.mer := rfl
@[simp] theorem State.wr_net (k v : Nat) : (s.wr k v).net = s.net := rfl
@[simp] theorem State.wr_objs (k v : Nat) : (s.wr k v).objs = s.objs := rfl
@[simp] theorem State.wr_siu (k v : Nat) : (s.wr k v).siu = s.siu := rfl
@[simp] theorem State.wr_talus (k v : Nat) : (s.wr k v).talus = s.talus := rfl
@[simp] theorem State.wr_snt (k v : Nat) : (s.wr k v).snt = s.snt := rfl
@[simp] theorem State.wr_almSw (k v : Nat) : (s.wr k v).almSw = s.almSw := rfl
@[simp] theorem State.wr_power (k v : Nat) : (s.wr k v).power = s.power := rfl
@[simp] theorem State.wr_nv (k v : Nat) : (s.wr k v).nv = s.nv := rfl
@[simp] theorem State.wr_dome (k v : Nat) : (s.wr k v).dome = s.dome := rfl
@[simp] theorem State.wr_diag (k v : Nat) : (s.wr k v).diag = s.diag := rfl
@[simp] theorem State.wr_lb (k v : Nat) : (s.wr k v).lb = s.lb := rfl
@[simp] theorem State.wr_mem (k v : Nat) : (s.wr k v).mem = s.mem := rfl
@[simp] theorem State.wr_routes (k v : Nat) : (s.wr k v).routes = s.routes := rfl
@[simp] theorem State.wr_host (k v : Nat) : (s.wr k v).host = s.host := rfl
@[simp] theorem State.wr_cs (k v : Nat) : (s.wr k v).cs = s.cs := rfl
@[simp] theorem State.wr_queues (k v : Nat) : (s.wr k v).queues = s.queues := rfl
@[simp] theorem State.wr_allocs (k v : Nat) : (s.wr k v).allocs = s.allocs := rfl
@[simp] theorem State.wr_deep (k v : Nat) : (s.wr k v).deep = s.deep := rfl
@[simp] theorem State.wr_out (k v : Nat) : (s.wr k v).out = s.out := rfl
@[simp] theorem State.wr_free (k v : Nat) : (s.wr k v).free = s.free := rfl
@[simp] theorem State.wr_pending (k v : Nat) : (s.wr k v).pending = s.pending := rfl

@[simp] theorem State.bumpN_variant (k n : Nat) : (s.bumpN k n).variant = s.variant := rfl
@[simp] theorem State.bumpN_tclk (k n : Nat) : (s.bumpN k n).tclk = s.tclk := rfl
@[simp] theorem State.bumpN_clock (k n : Nat) : (s.bumpN k n).clock = s.clock := rfl
@[simp] theorem State.bumpN_mer (k n : Nat) : (s.bumpN k n).mer = s.mer := rfl
@[simp] theorem State.bumpN_net (k n : Nat) : (s.bumpN k n).net = s.net := rfl
@[simp] theorem State.bumpN_objs (k n : Nat) : (s.bumpN k n).objs = s.objs := rfl
@[simp] theorem State.bumpN_siu (k n : Nat) : (s.bumpN k n).siu = s.siu := rfl
@[simp] theorem State.bumpN_talus (k n : Nat) : (s.bumpN k n).talus = s.talus := rfl
@[simp] theorem State.bumpN_snt (k n : Nat) : (s.bumpN k n).snt = s.snt := rfl
@[simp] theorem State.bumpN_almSw (k n : Nat) : (s.bumpN k n).almSw = s.almSw := rfl
@[simp] theorem State.bumpN_power (k n : Nat) : (s.bumpN k n).power = s.power := rfl
@[simp] theorem State.bumpN_nv (k n : Nat) : (s.bumpN k n).nv = s.nv := rfl
@[simp] theorem State.bumpN_dome (k n : Nat) : (s.bumpN k n).dome = s.dome := rfl
@[simp] theorem State.bumpN_diag (k n : Nat) : (s.bumpN k n).diag = s.diag := rfl
@[simp] theorem State.bumpN_lb (k n : Nat) : (s.bumpN k n).lb = s.lb := rfl
@[simp] theorem State.bumpN_mem (k n : Nat) : (s.bumpN k n).mem = s.mem := rfl
@[simp] theorem State.bumpN_routes (k n : Nat) : (s.bumpN k n).routes = s.routes := rfl
@[simp] theorem State.bumpN_host (k n : Nat) : (s.bumpN k n).host = s.host := rfl
@[simp] theorem State.bumpN_cs (k n : Nat) : (s.bumpN k n).cs = s.cs := rfl
@[simp] theorem State.bumpN_queues (k n : Nat) : (s.bumpN k n).queues = s.queues := rfl
@[simp] theorem State.bumpN_allocs (k n : Nat) : (s.bumpN k n).allocs = s.allocs := rfl
@[simp] theorem State.bumpN_deep (k n : Nat) : (s.bumpN k n).deep = s.deep := rfl
@[simp] theorem State.bumpN_out (k n : Nat) : (s.bumpN k n).out = s.out := rfl
@[simp] theorem State.bumpN_free (k n : Nat) : (s.bumpN k n).free = s.free := rfl
@[simp] theorem State.bumpN_pending (k n : Nat) : (s.bumpN k n).pending = s.pending := rfl

@[simp] theorem State.bump_variant (k : Nat) : (s.bump k).variant = s.variant := rfl
@[simp] theorem State.bump_tclk (k : Nat) : (s.bump k).tclk = s.tclk := rfl
@[simp] theorem State.bump_clock (k : Nat) : (s.bump k).clock = s.clock := rfl
@[simp] theorem State.bump_mer (k : Nat) : (s.bump k).mer = s.mer := rfl
@[simp] theorem State.bump_net (k : Nat) : (s.bump k).net = s.net := rfl
@[simp] theorem State.bump_objs (k : Nat) : (s.bump k).objs = s.objs := rfl
@[simp] theorem State.bump_siu (k : Nat) : (s.bump k).siu = s.siu := rfl
@[simp] theorem State.bump_talus (k : Nat) : (s.bump k).talus = s.talus := rfl
@[simp] theorem State.bump_snt (k : Nat) : (s.bump k).snt = s.snt := rfl
@[simp] theorem State.bump_almSw (k : Nat) : (s.bump k).almSw = s.almSw := rfl
@[simp] theorem State.bump_power (k : Nat) : (s.bump k).power = s.power := rfl
@[simp] theorem State.bump_nv (k : Nat) : (s.bump k).nv = s.nv := rfl
@[simp] theorem State.bump_dome (k : Nat) : (s.bump k).dome = s.dome := rfl
@[simp] theorem State.bump_diag (k : Nat) : (s.bump k).diag = s.diag := rfl
@[simp] theorem State.bump_lb (k : Nat) : (s.bump k).lb = s.lb := rfl
@[simp] theorem State.bump_mem (k : Nat) : (s.bump k).mem = s.mem := rfl
@[simp] theorem State.bump_routes (k : Nat) : (s.bump k).routes = s.routes := rfl
@[simp] theorem State.bump_host (k : Nat) : (s.bump k).host = s.host := rfl
@[simp] theorem State.bump_cs (k : Nat) : (s.bump k).cs = s.cs := rfl
@[simp] theorem State.bump_queues (k : Nat) : (s.bump k).queues = s.queues := rfl
@[simp] theorem State.bump_allocs (k : Nat) : (s.bump k).allocs = s.allocs := rfl
@[simp] theorem State.bump_deep (k : Nat) : (s.bump k).deep = s.deep := rfl
@[simp] theorem State.bump_out (k : Nat) : (s.bump k).out = s.out := rfl
@[simp] theorem State.bump_free (k : Nat) : (s.bump k).free = s.free := rfl
@[simp] theorem State.bump_pending (k : Nat) : (s.bump k).pending = s.pending := rfl

@[simp] theorem State.emit_variant (o : Out) : (s.emit o).variant = s.variant := rfl
@[simp] theorem State.emit_tclk (o : Out) : (s.emit o).tclk = s.tclk := rfl
@[simp] theorem State.emit_clock (o : Out) : (s.emit o).clock = s.clock := rfl
@[simp] theorem State.emit_mer (o : Out) : (s.emit o).mer = s.mer := rfl
@[simp] theorem State.emit_net (o : Out) : (s.emit o).net = s.net := rfl
@[simp] theorem State.emit_objs (o : Out) : (s.emit o).objs = s.objs := rfl
@[simp] theorem State.emit_siu (o : Out) : (s.emit o).siu = s.siu := rfl
@[simp] theorem State.emit_talus (o : Out) : (s.emit o).talus = s.talus := rfl
@[simp] theorem State.emit_snt (o : Out) : (s.emit o).snt = s.snt := rfl
@[simp] theorem State.emit_almSw (o : Out) : (s.emit o).almSw = s.almSw := rfl
@[simp] theorem State.emit_dict (o : Out) : (s.emit o).dict = s.dict := rfl
@[simp] theorem State.emit_power (o : Out) : (s.emit o).power = s.power := rfl
@[simp] theorem State.emit_nv (o : Out) : (s.emit o).nv = s.nv := rfl
@[simp] theorem State.emit_dome (o : Out) : (s.emit o).dome = s.dome := rfl
@[simp] theorem State.emit_diag (o : Out) : (s.emit o).diag = s.diag := rfl
@[simp] theorem State.emit_lb (o : Out) : (s.emit o).lb = s.lb := rfl
@[simp] theorem State.emit_mem (o : Out) : (s.emit o).mem = s.mem := rfl
@[simp] theorem State.emit_routes (o : Out) : (s.emit o).routes = s.routes := rfl
@[simp] theorem State.emit_host (o : Out) : (s.emit o).host = s.host := rfl
@[simp] theorem State.emit_cs (o : Out) : (s.emit o).cs = s.cs := rfl
@[simp] theorem State.emit_queues (o : Out) : (s.emit o).queues = s.queues := rfl
@[simp] theorem State.emit_allocs (o : Out) : (s.emit o).allocs = s.allocs := rfl
@[simp] theorem State.emit_deep (o : Out) : (s.emit o).deep = s.deep := rfl
@[simp] theorem State.emit_free (o : Out) : (s.emit o).free = s.free := rfl
@[simp] theorem State.emit_pending (o : Out) : (s.emit o).pending = s.pending := rfl

@[simp] theorem State.raise_variant (c a x y : Nat) : (s.raise c a x y).variant = s.variant := rfl
@[simp] theorem State.raise_tclk (c a x y : Nat) : (s.raise c a x y).tclk = s.tclk := rfl
@[simp] theorem State.raise_clock (c a x y : Nat) : (s.raise c a x y).clock = s.clock := rfl
@[simp] theorem State.raise_mer (c a x y : Nat) : (s.raise c a x y).mer = s.mer := rfl
@[simp] theorem State.raise_net (c a x y : Nat) : (s.raise c a x y).net = s.net := rfl
@[simp] theorem State.raise_objs (c a x y : Nat) : (s.raise c a x y).objs = s.objs := rfl
@[simp] theorem State.raise_siu (c a x y : Nat) : (s.raise c a x y).siu = s.siu := rfl
@[simp] theorem State.raise_talus (c a x y : Nat) : (s.raise c a x y).talus = s.talus := rfl
@[simp] theorem State.raise_snt (c a x y : Nat) : (s.raise c a x y).snt = s.snt := rfl
@[simp] theorem State.raise_almSw (c a x y : Nat) : (s.raise c a x y).almSw = s.almSw := rfl
@[simp] theorem State.raise_dict (c a x y : Nat) : (s.raise c a x y).dict = s.dict := rfl
@[simp] theorem State.raise_power (c a x y : Nat) : (s.raise c a x y).power = s.power := rfl
@[simp] theorem State.raise_nv (c a x y : Nat) : (s.raise c a x y).nv = s.nv := rfl
@[simp] theorem State.raise_dome (c a x y : Nat) : (s.raise c a x y).dome = s.dome := rfl
@[simp] theorem State.raise_lb (c a x y : Nat) : (s.raise c a x y).lb = s.lb := rfl
@[simp] theorem State.raise_mem (c a x y : Nat) : (s.raise c a x y).mem = s.mem := rfl
@[simp] theorem State.raise_routes (c a x y : Nat) : (s.raise c a x y).routes = s.routes := rfl
@[simp] theorem State.raise_host (c a x y : Nat) : (s.raise c a x y).host = s.host := rfl
@[simp] theorem State.raise_cs (c a x y : Nat) : (s.raise c a x y).cs = s.cs := rfl
@[simp] theorem State.raise_queues (c a x y : Nat) : (s.raise c a x y).queues = s.queues := rfl
@[simp] theorem State.raise_allocs (c a x y : Nat) : (s.raise c a x y).allocs = s.allocs := rfl
@[simp] theorem State.raise_deep (c a x y : Nat) : (s.raise c a x y).deep = s.deep := rfl
@[simp] theorem State.raise_out (c a x y : Nat) : (s.raise c a x y).out = s.out := rfl
@[simp] theorem State.raise_free (c a x y : Nat) : (s.raise c a x y).free = s.free := rfl
@[simp] theorem State.raise_pending (c a x y : Nat) : (s.raise c a x y).pending = s.pending := rfl

@[simp] theorem State.setByte_variant (a : Nat) (b : Byte) : (s.setByte a b).variant = s.variant := rfl
@[simp] theorem State.setByte_tclk (a : Nat) (b : Byte) : (s.setByte a b).tclk = s.tclk := rfl
@[simp] theorem State.setByte_clock (a : Nat) (b : Byte) : (s.setByte a b).clock = s.clock := rfl
@[simp] theorem State.setByte_mer (a : Nat) (b : Byte) : (s.setByte a b).mer = s.mer := rfl
@[simp] theorem State.setByte_net (a : Nat) (b : Byte) : (s.setByte a b).net = s.net := rfl
@[simp] theorem State.setByte_objs (a : Nat) (b : Byte) : (s.setByte a b).objs = s.objs := rfl
@[simp] theorem State.setByte_siu (a : Nat) (b : Byte) : (s.setByte a b).siu = s.siu := rfl
@[simp] theorem State.setByte_talus (a : Nat) (b : Byte) : (s.setByte a b).talus = s.talus := rfl
@[simp] theorem State.setByte_snt (a : Nat) (b : Byte) : (s.setByte a b).snt = s.snt := rfl
@[simp] theorem State.setByte_almSw (a : Nat) (b : Byte) : (s.setByte a b).almSw = s.almSw := rfl
@[simp] theorem State.setByte_dict (a : Nat) (b : Byte) : (s.setByte a b).dict = s.dict := rfl
@[simp] theorem State.setByte_power (a : Nat) (b : Byte) : (s.setByte a b).power = s.power := rfl
@[simp] theorem State.setByte_nv (a : Nat) (b : Byte) : (s.setByte a b).nv = s.nv := rfl
@[simp] theorem State.setByte_dome (a : Nat) (b : Byte) : (s.setByte a b).dome = s.dome := rfl
@[simp] theorem State.setByte_diag (a : Nat) (b : Byte) : (s.setByte a b).diag = s.diag := rfl
@[simp] theorem State.setByte_lb (a : Nat) (b : Byte) : (s.setByte a b).lb = s.lb := rfl
@[simp] theorem State.setByte_routes (a : Nat) (b : Byte) : (s.setByte a b).routes = s.routes := rfl
@[simp] theorem State.setByte_host (a : Nat) (b : Byte) : (s.setByte a b).host = s.host := rfl
@[simp] theorem State.setByte_cs (a : Nat) (b : Byte) : (s.setByte a b).cs = s.cs := rfl
@[simp] theorem State.setByte_queues (a : Nat) (b : Byte) : (s.setByte a b).queues = s.queues := rfl
@[simp] theorem State.setByte_allocs (a : Nat) (b : Byte) : (s.setByte a b).allocs = s.allocs := rfl
@[simp] theorem State.setByte_deep (a : Nat) (b : Byte) : (s.setByte a b).deep = s.deep := rfl
@[simp] theorem State.setByte_out (a : Nat) (b : Byte) : (s.setByte a b).out = s.out := rfl
@[simp] theorem State.setByte_free (a : Nat) (b : Byte) : (s.setByte a b).free = s.free := rfl
@[simp] theorem State.setByte_pending (a : Nat) (b : Byte) : (s.setByte a b).pending = s.pending := rfl

@[simp] theorem State.setWerr_variant (a : Nat) (e : WordErr) : (s.setWerr a e).variant = s.variant := rfl
@[simp] theorem State.setWerr_tclk (a : Nat) (e : WordErr) : (s.setWerr a e).tclk = s.tclk := rfl
@[simp] theorem State.setWerr_clock (a : Nat) (e : WordErr) : (s.setWerr a e).clock = s.clock := rfl
@[simp] theorem State.setWerr_mer (a : Nat) (e : WordErr) : (s.setWerr a e).mer = s.mer := rfl
@[simp] theorem State.setWerr_net (a : Nat) (e : WordErr) : (s.setWerr a e).net = s.net := rfl
@[simp] theorem State.setWerr_objs (a : Nat) (e : WordErr) : (s.setWerr a e).objs = s.objs := rfl
@[simp] theorem State.setWerr_siu (a : Nat) (e : WordErr) : (s.setWerr a e).siu = s.siu := rfl
@[simp] theorem State.setWerr_talus (a : Nat) (e : WordErr) : (s.setWerr a e).talus = s.talus := rfl
@[simp] theorem State.setWerr_snt (a : Nat) (e : WordErr) : (s.setWerr a e).snt = s.snt := rfl
@[simp] theorem State.setWerr_almSw (a : Nat) (e : WordErr) : (s.setWerr a e).almSw = s.almSw := rfl
@[simp] theorem State.setWerr_dict (a : Nat) (e : WordErr) : (s.setWerr a e).dict = s.dict := rfl
@[simp] theorem State.setWerr_power (a : Nat) (e : WordErr) : (s.setWerr a e).power = s.power := rfl
@[simp] theorem State.setWerr_nv (a : Nat) (e : WordErr) : (s.setWerr a e).nv = s.nv := rfl
@[simp] theorem State.setWerr_dome (a : Nat) (e : WordErr) : (s.setWerr a e).dome = s.dome := rfl
@[simp] theorem State.setWerr_diag (a : Nat) (e : WordErr) : (s.setWerr a e).diag = s.diag := rfl
@[simp] theorem State.setWerr_lb (a : Nat) (e : WordErr) : (s.setWerr a e).lb = s.lb := rfl
@[simp] theorem State.setWerr_routes (a : Nat) (e : WordErr) : (s.setWerr a e).routes = s.routes := rfl
@[simp] theorem State.setWerr_host (a : Nat) (e : WordErr) : (s.setWerr a e).host = s.host := rfl
@[simp] theorem State.setWerr_cs (a : Nat) (e : WordErr) : (s.setWerr a e).cs = s.cs := rfl
@[simp] theorem State.setWerr_queues (a : Nat) (e : WordErr) : (s.setWerr a e).queues = s.queues := rfl
@[simp] theorem State.setWerr_allocs (a : Nat) (e : WordErr) : (s.setWerr a e).allocs = s.allocs := rfl
@[simp] theorem State.setWerr_deep (a : Nat) (e : WordErr) : (s.setWerr a e).deep = s.deep := rfl
@[simp] theorem State.setWerr_out (a : Nat) (e : WordErr) : (s.setWerr a e).out = s.out := rfl
@[simp] theorem State.setWerr_free (a : Nat) (e : WordErr) : (s.setWerr a e).free = s.free := rfl
@[simp] theorem State.setWerr_pending (a : Nat) (e : WordErr) : (s.setWerr a e).pending = s.pending := rfl

@[simp] theorem State.setQueue_variant (q : Nat) (v : Queue) : (s.setQueue q v).variant = s.variant := rfl
@[simp] theorem State.setQueue_tclk (q : Nat) (v : Queue) : (s.setQueue q v).tclk = s.tclk := rfl
@[simp] theorem State.setQueue_clock (q : Nat) (v : Queue) : (s.setQueue q v).clock = s.clock := rfl
@[simp] theorem State.setQueue_mer (q : Nat) (v : Queue) : (s.setQueue q v).mer = s.mer := rfl
@[simp] theorem State.setQueue_net (q : Nat) (v : Queue) : (s.setQueue q v).net = s.net := rfl
@[simp] theorem State.setQueue_objs (q : Nat) (v : Queue) : (s.setQueue q v).objs = s.objs := rfl
@[simp] theorem State.setQueue_siu (q : Nat) (v : Queue) : (s.setQueue q v).siu = s.siu := rfl
@[simp] theorem State.setQueue_talus (q : Nat) (v : Queue) : (s.setQueue q v).talus = s.talus := rfl
@[simp] theorem State.setQueue_snt (q : Nat) (v : Queue) : (s.setQueue q v).snt = s.snt := rfl
@[simp] theorem State.setQueue_almSw (q : Nat) (v : Queue) : (s.setQueue q v).almSw = s.almSw := rfl
@[simp] theorem State.setQueue_dict (q : Nat) (v : Queue) : (s.setQueue q v).dict = s.dict := rfl
@[simp] theorem State.setQueue_power (q : Nat) (v : Queue) : (s.setQueue q v).power = s.power := rfl
@[simp] theorem State.setQueue_nv (q : Nat) (v : Queue) : (s.setQueue q v).nv = s.nv := rfl
@[simp] theorem State.setQueue_dome (q : Nat) (v : Queue) : (s.setQueue q v).dome = s.dome := rfl
@[simp] theorem State.setQueue_diag (q : Nat) (v : Queue) : (s.setQueue q v).diag = s.diag := rfl
@[simp] theorem State.setQueue_lb (q : Nat) (v : Queue) : (s.setQueue q v).lb = s.lb := rfl
@[simp] theorem State.setQueue_mem (q : Nat) (v : Queue) : (s.setQueue q v).mem = s.mem := rfl
@[simp] theorem State.setQueue_routes (q : Nat) (v : Queue) : (s.setQueue q v).routes = s.routes := rfl
@[simp] theorem State.setQueue_host (q : Nat) (v : Queue) : (s.setQueue q v).host = s.host := rfl
@[simp] theorem State.setQueue_cs (q : Nat) (v : Queue) : (s.setQueue q v).cs = s.cs := rfl
@[simp] theorem State.setQueue_allocs (q : Nat) (v : Queue) : (s.setQueue q v).allocs = s.allocs := rfl
@[simp] theorem State.setQueue_deep (q : Nat) (v : Queue) : (s.setQueue q v).deep = s.deep := rfl
@[simp] theorem State.setQueue_out (q : Nat) (v : Queue) : (s.setQueue q v).out = s.out := rfl
@[simp] theorem State.setQueue_free (q : Nat) (v : Queue) : (s.setQueue q v).free = s.free := rfl
@[simp] theorem State.setQueue_pending (q : Nat) (v : Queue) : (s.setQueue q v).pending = s.pending := rfl

@[simp] theorem State.setCairn_variant (c : Nat) (v : Cairn) : (s.setCairn c v).variant = s.variant := rfl
@[simp] theorem State.setCairn_tclk (c : Nat) (v : Cairn) : (s.setCairn c v).tclk = s.tclk := rfl
@[simp] theorem State.setCairn_clock (c : Nat) (v : Cairn) : (s.setCairn c v).clock = s.clock := rfl
@[simp] theorem State.setCairn_mer (c : Nat) (v : Cairn) : (s.setCairn c v).mer = s.mer := rfl
@[simp] theorem State.setCairn_net (c : Nat) (v : Cairn) : (s.setCairn c v).net = s.net := rfl
@[simp] theorem State.setCairn_objs (c : Nat) (v : Cairn) : (s.setCairn c v).objs = s.objs := rfl
@[simp] theorem State.setCairn_siu (c : Nat) (v : Cairn) : (s.setCairn c v).siu = s.siu := rfl
@[simp] theorem State.setCairn_talus (c : Nat) (v : Cairn) : (s.setCairn c v).talus = s.talus := rfl
@[simp] theorem State.setCairn_snt (c : Nat) (v : Cairn) : (s.setCairn c v).snt = s.snt := rfl
@[simp] theorem State.setCairn_almSw (c : Nat) (v : Cairn) : (s.setCairn c v).almSw = s.almSw := rfl
@[simp] theorem State.setCairn_dict (c : Nat) (v : Cairn) : (s.setCairn c v).dict = s.dict := rfl
@[simp] theorem State.setCairn_power (c : Nat) (v : Cairn) : (s.setCairn c v).power = s.power := rfl
@[simp] theorem State.setCairn_nv (c : Nat) (v : Cairn) : (s.setCairn c v).nv = s.nv := rfl
@[simp] theorem State.setCairn_dome (c : Nat) (v : Cairn) : (s.setCairn c v).dome = s.dome := rfl
@[simp] theorem State.setCairn_diag (c : Nat) (v : Cairn) : (s.setCairn c v).diag = s.diag := rfl
@[simp] theorem State.setCairn_lb (c : Nat) (v : Cairn) : (s.setCairn c v).lb = s.lb := rfl
@[simp] theorem State.setCairn_mem (c : Nat) (v : Cairn) : (s.setCairn c v).mem = s.mem := rfl
@[simp] theorem State.setCairn_routes (c : Nat) (v : Cairn) : (s.setCairn c v).routes = s.routes := rfl
@[simp] theorem State.setCairn_host (c : Nat) (v : Cairn) : (s.setCairn c v).host = s.host := rfl
@[simp] theorem State.setCairn_queues (c : Nat) (v : Cairn) : (s.setCairn c v).queues = s.queues := rfl
@[simp] theorem State.setCairn_allocs (c : Nat) (v : Cairn) : (s.setCairn c v).allocs = s.allocs := rfl
@[simp] theorem State.setCairn_deep (c : Nat) (v : Cairn) : (s.setCairn c v).deep = s.deep := rfl
@[simp] theorem State.setCairn_out (c : Nat) (v : Cairn) : (s.setCairn c v).out = s.out := rfl
@[simp] theorem State.setCairn_free (c : Nat) (v : Cairn) : (s.setCairn c v).free = s.free := rfl
@[simp] theorem State.setCairn_pending (c : Nat) (v : Cairn) : (s.setCairn c v).pending = s.pending := rfl

@[simp] theorem State.setWaiter_variant (w : Nat) (v : Option Waiter) : (s.setWaiter w v).variant = s.variant := rfl
@[simp] theorem State.setWaiter_tclk (w : Nat) (v : Option Waiter) : (s.setWaiter w v).tclk = s.tclk := rfl
@[simp] theorem State.setWaiter_clock (w : Nat) (v : Option Waiter) : (s.setWaiter w v).clock = s.clock := rfl
@[simp] theorem State.setWaiter_mer (w : Nat) (v : Option Waiter) : (s.setWaiter w v).mer = s.mer := rfl
@[simp] theorem State.setWaiter_net (w : Nat) (v : Option Waiter) : (s.setWaiter w v).net = s.net := rfl
@[simp] theorem State.setWaiter_objs (w : Nat) (v : Option Waiter) : (s.setWaiter w v).objs = s.objs := rfl
@[simp] theorem State.setWaiter_siu (w : Nat) (v : Option Waiter) : (s.setWaiter w v).siu = s.siu := rfl
@[simp] theorem State.setWaiter_talus (w : Nat) (v : Option Waiter) : (s.setWaiter w v).talus = s.talus := rfl
@[simp] theorem State.setWaiter_snt (w : Nat) (v : Option Waiter) : (s.setWaiter w v).snt = s.snt := rfl
@[simp] theorem State.setWaiter_almSw (w : Nat) (v : Option Waiter) : (s.setWaiter w v).almSw = s.almSw := rfl
@[simp] theorem State.setWaiter_dict (w : Nat) (v : Option Waiter) : (s.setWaiter w v).dict = s.dict := rfl
@[simp] theorem State.setWaiter_power (w : Nat) (v : Option Waiter) : (s.setWaiter w v).power = s.power := rfl
@[simp] theorem State.setWaiter_nv (w : Nat) (v : Option Waiter) : (s.setWaiter w v).nv = s.nv := rfl
@[simp] theorem State.setWaiter_dome (w : Nat) (v : Option Waiter) : (s.setWaiter w v).dome = s.dome := rfl
@[simp] theorem State.setWaiter_diag (w : Nat) (v : Option Waiter) : (s.setWaiter w v).diag = s.diag := rfl
@[simp] theorem State.setWaiter_lb (w : Nat) (v : Option Waiter) : (s.setWaiter w v).lb = s.lb := rfl
@[simp] theorem State.setWaiter_mem (w : Nat) (v : Option Waiter) : (s.setWaiter w v).mem = s.mem := rfl
@[simp] theorem State.setWaiter_routes (w : Nat) (v : Option Waiter) : (s.setWaiter w v).routes = s.routes := rfl
@[simp] theorem State.setWaiter_host (w : Nat) (v : Option Waiter) : (s.setWaiter w v).host = s.host := rfl
@[simp] theorem State.setWaiter_queues (w : Nat) (v : Option Waiter) : (s.setWaiter w v).queues = s.queues := rfl
@[simp] theorem State.setWaiter_allocs (w : Nat) (v : Option Waiter) : (s.setWaiter w v).allocs = s.allocs := rfl
@[simp] theorem State.setWaiter_deep (w : Nat) (v : Option Waiter) : (s.setWaiter w v).deep = s.deep := rfl
@[simp] theorem State.setWaiter_out (w : Nat) (v : Option Waiter) : (s.setWaiter w v).out = s.out := rfl
@[simp] theorem State.setWaiter_free (w : Nat) (v : Option Waiter) : (s.setWaiter w v).free = s.free := rfl
@[simp] theorem State.setWaiter_pending (w : Nat) (v : Option Waiter) : (s.setWaiter w v).pending = s.pending := rfl

@[simp] theorem State.setShadow_variant (r : Nat) (v : Option (Nat × Bytes)) : (s.setShadow r v).variant = s.variant := rfl
@[simp] theorem State.setShadow_tclk (r : Nat) (v : Option (Nat × Bytes)) : (s.setShadow r v).tclk = s.tclk := rfl
@[simp] theorem State.setShadow_clock (r : Nat) (v : Option (Nat × Bytes)) : (s.setShadow r v).clock = s.clock := rfl
@[simp] theorem State.setShadow_mer (r : Nat) (v : Option (Nat × Bytes)) : (s.setShadow r v).mer = s.mer := rfl
@[simp] theorem State.setShadow_net (r : Nat) (v : Option (Nat × Bytes)) : (s.setShadow r v).net = s.net := rfl
@[simp] theorem State.setShadow_objs (r : Nat) (v : Option (Nat × Bytes)) : (s.setShadow r v).objs = s.objs := rfl
@[simp] theorem State.setShadow_siu (r : Nat) (v : Option (Nat × Bytes)) : (s.setShadow r v).siu = s.siu := rfl
@[simp] theorem State.setShadow_talus (r : Nat) (v : Option (Nat × Bytes)) : (s.setShadow r v).talus = s.talus := rfl
@[simp] theorem State.setShadow_snt (r : Nat) (v : Option (Nat × Bytes)) : (s.setShadow r v).snt = s.snt := rfl
@[simp] theorem State.setShadow_almSw (r : Nat) (v : Option (Nat × Bytes)) : (s.setShadow r v).almSw = s.almSw := rfl
@[simp] theorem State.setShadow_dict (r : Nat) (v : Option (Nat × Bytes)) : (s.setShadow r v).dict = s.dict := rfl
@[simp] theorem State.setShadow_power (r : Nat) (v : Option (Nat × Bytes)) : (s.setShadow r v).power = s.power := rfl
@[simp] theorem State.setShadow_nv (r : Nat) (v : Option (Nat × Bytes)) : (s.setShadow r v).nv = s.nv := rfl
@[simp] theorem State.setShadow_dome (r : Nat) (v : Option (Nat × Bytes)) : (s.setShadow r v).dome = s.dome := rfl
@[simp] theorem State.setShadow_diag (r : Nat) (v : Option (Nat × Bytes)) : (s.setShadow r v).diag = s.diag := rfl
@[simp] theorem State.setShadow_lb (r : Nat) (v : Option (Nat × Bytes)) : (s.setShadow r v).lb = s.lb := rfl
@[simp] theorem State.setShadow_mem (r : Nat) (v : Option (Nat × Bytes)) : (s.setShadow r v).mem = s.mem := rfl
@[simp] theorem State.setShadow_host (r : Nat) (v : Option (Nat × Bytes)) : (s.setShadow r v).host = s.host := rfl
@[simp] theorem State.setShadow_cs (r : Nat) (v : Option (Nat × Bytes)) : (s.setShadow r v).cs = s.cs := rfl
@[simp] theorem State.setShadow_queues (r : Nat) (v : Option (Nat × Bytes)) : (s.setShadow r v).queues = s.queues := rfl
@[simp] theorem State.setShadow_allocs (r : Nat) (v : Option (Nat × Bytes)) : (s.setShadow r v).allocs = s.allocs := rfl
@[simp] theorem State.setShadow_deep (r : Nat) (v : Option (Nat × Bytes)) : (s.setShadow r v).deep = s.deep := rfl
@[simp] theorem State.setShadow_out (r : Nat) (v : Option (Nat × Bytes)) : (s.setShadow r v).out = s.out := rfl
@[simp] theorem State.setShadow_free (r : Nat) (v : Option (Nat × Bytes)) : (s.setShadow r v).free = s.free := rfl
@[simp] theorem State.setShadow_pending (r : Nat) (v : Option (Nat × Bytes)) : (s.setShadow r v).pending = s.pending := rfl

@[simp] theorem State.setStarted_variant (x : Option (Nat × DefReq × Option Nat)) : (s.setStarted x).variant = s.variant := rfl
@[simp] theorem State.setStarted_tclk (x : Option (Nat × DefReq × Option Nat)) : (s.setStarted x).tclk = s.tclk := rfl
@[simp] theorem State.setStarted_clock (x : Option (Nat × DefReq × Option Nat)) : (s.setStarted x).clock = s.clock := rfl
@[simp] theorem State.setStarted_mer (x : Option (Nat × DefReq × Option Nat)) : (s.setStarted x).mer = s.mer := rfl
@[simp] theorem State.setStarted_net (x : Option (Nat × DefReq × Option Nat)) : (s.setStarted x).net = s.net := rfl
@[simp] theorem State.setStarted_objs (x : Option (Nat × DefReq × Option Nat)) : (s.setStarted x).objs = s.objs := rfl
@[simp] theorem State.setStarted_siu (x : Option (Nat × DefReq × Option Nat)) : (s.setStarted x).siu = s.siu := rfl
@[simp] theorem State.setStarted_talus (x : Option (Nat × DefReq × Option Nat)) : (s.setStarted x).talus = s.talus := rfl
@[simp] theorem State.setStarted_snt (x : Option (Nat × DefReq × Option Nat)) : (s.setStarted x).snt = s.snt := rfl
@[simp] theorem State.setStarted_almSw (x : Option (Nat × DefReq × Option Nat)) : (s.setStarted x).almSw = s.almSw := rfl
@[simp] theorem State.setStarted_dict (x : Option (Nat × DefReq × Option Nat)) : (s.setStarted x).dict = s.dict := rfl
@[simp] theorem State.setStarted_power (x : Option (Nat × DefReq × Option Nat)) : (s.setStarted x).power = s.power := rfl
@[simp] theorem State.setStarted_nv (x : Option (Nat × DefReq × Option Nat)) : (s.setStarted x).nv = s.nv := rfl
@[simp] theorem State.setStarted_dome (x : Option (Nat × DefReq × Option Nat)) : (s.setStarted x).dome = s.dome := rfl
@[simp] theorem State.setStarted_diag (x : Option (Nat × DefReq × Option Nat)) : (s.setStarted x).diag = s.diag := rfl
@[simp] theorem State.setStarted_lb (x : Option (Nat × DefReq × Option Nat)) : (s.setStarted x).lb = s.lb := rfl
@[simp] theorem State.setStarted_mem (x : Option (Nat × DefReq × Option Nat)) : (s.setStarted x).mem = s.mem := rfl
@[simp] theorem State.setStarted_host (x : Option (Nat × DefReq × Option Nat)) : (s.setStarted x).host = s.host := rfl
@[simp] theorem State.setStarted_cs (x : Option (Nat × DefReq × Option Nat)) : (s.setStarted x).cs = s.cs := rfl
@[simp] theorem State.setStarted_queues (x : Option (Nat × DefReq × Option Nat)) : (s.setStarted x).queues = s.queues := rfl
@[simp] theorem State.setStarted_allocs (x : Option (Nat × DefReq × Option Nat)) : (s.setStarted x).allocs = s.allocs := rfl
@[simp] theorem State.setStarted_deep (x : Option (Nat × DefReq × Option Nat)) : (s.setStarted x).deep = s.deep := rfl
@[simp] theorem State.setStarted_out (x : Option (Nat × DefReq × Option Nat)) : (s.setStarted x).out = s.out := rfl
@[simp] theorem State.setStarted_free (x : Option (Nat × DefReq × Option Nat)) : (s.setStarted x).free = s.free := rfl
@[simp] theorem State.setStarted_pending (x : Option (Nat × DefReq × Option Nat)) : (s.setStarted x).pending = s.pending := rfl

@[simp] theorem State.setUsdo_variant (x : Option UsdoSession) : (s.setUsdo x).variant = s.variant := rfl
@[simp] theorem State.setUsdo_tclk (x : Option UsdoSession) : (s.setUsdo x).tclk = s.tclk := rfl
@[simp] theorem State.setUsdo_clock (x : Option UsdoSession) : (s.setUsdo x).clock = s.clock := rfl
@[simp] theorem State.setUsdo_mer (x : Option UsdoSession) : (s.setUsdo x).mer = s.mer := rfl
@[simp] theorem State.setUsdo_net (x : Option UsdoSession) : (s.setUsdo x).net = s.net := rfl
@[simp] theorem State.setUsdo_objs (x : Option UsdoSession) : (s.setUsdo x).objs = s.objs := rfl
@[simp] theorem State.setUsdo_siu (x : Option UsdoSession) : (s.setUsdo x).siu = s.siu := rfl
@[simp] theorem State.setUsdo_talus (x : Option UsdoSession) : (s.setUsdo x).talus = s.talus := rfl
@[simp] theorem State.setUsdo_snt (x : Option UsdoSession) : (s.setUsdo x).snt = s.snt := rfl
@[simp] theorem State.setUsdo_almSw (x : Option UsdoSession) : (s.setUsdo x).almSw = s.almSw := rfl
@[simp] theorem State.setUsdo_dict (x : Option UsdoSession) : (s.setUsdo x).dict = s.dict := rfl
@[simp] theorem State.setUsdo_power (x : Option UsdoSession) : (s.setUsdo x).power = s.power := rfl
@[simp] theorem State.setUsdo_nv (x : Option UsdoSession) : (s.setUsdo x).nv = s.nv := rfl
@[simp] theorem State.setUsdo_dome (x : Option UsdoSession) : (s.setUsdo x).dome = s.dome := rfl
@[simp] theorem State.setUsdo_diag (x : Option UsdoSession) : (s.setUsdo x).diag = s.diag := rfl
@[simp] theorem State.setUsdo_lb (x : Option UsdoSession) : (s.setUsdo x).lb = s.lb := rfl
@[simp] theorem State.setUsdo_mem (x : Option UsdoSession) : (s.setUsdo x).mem = s.mem := rfl
@[simp] theorem State.setUsdo_host (x : Option UsdoSession) : (s.setUsdo x).host = s.host := rfl
@[simp] theorem State.setUsdo_cs (x : Option UsdoSession) : (s.setUsdo x).cs = s.cs := rfl
@[simp] theorem State.setUsdo_queues (x : Option UsdoSession) : (s.setUsdo x).queues = s.queues := rfl
@[simp] theorem State.setUsdo_allocs (x : Option UsdoSession) : (s.setUsdo x).allocs = s.allocs := rfl
@[simp] theorem State.setUsdo_deep (x : Option UsdoSession) : (s.setUsdo x).deep = s.deep := rfl
@[simp] theorem State.setUsdo_out (x : Option UsdoSession) : (s.setUsdo x).out = s.out := rfl
@[simp] theorem State.setUsdo_free (x : Option UsdoSession) : (s.setUsdo x).free = s.free := rfl
@[simp] theorem State.setUsdo_pending (x : Option UsdoSession) : (s.setUsdo x).pending = s.pending := rfl

@[simp] theorem State.mapHost_variant (f : HostIf → HostIf) : (s.mapHost f).variant = s.variant := rfl
@[simp] theorem State.mapHost_tclk (f : HostIf → HostIf) : (s.mapHost f).tclk = s.tclk := rfl
@[simp] theorem State.mapHost_clock (f : HostIf → HostIf) : (s.mapHost f).clock = s.clock := rfl
@[simp] theorem State.mapHost_mer (f : HostIf → HostIf) : (s.mapHost f).mer = s.mer := rfl
@[simp] theorem State.mapHost_net (f : HostIf → HostIf) : (s.mapHost f).net = s.net := rfl
@[simp] theorem State.mapHost_objs (f : HostIf → HostIf) : (s.mapHost f).objs = s.objs := rfl
@[simp] theorem State.mapHost_siu (f : HostIf → HostIf) : (s.mapHost f).siu = s.siu := rfl
@[simp] theorem State.mapHost_talus (f : HostIf → HostIf) : (s.mapHost f).talus = s.talus := rfl
@[simp] theorem State.mapHost_snt (f : HostIf → HostIf) : (s.mapHost f).snt = s.snt := rfl
@[simp] theorem State.mapHost_almSw (f : HostIf → HostIf) : (s.mapHost f).almSw = s.almSw := rfl
@[simp] theorem State.mapHost_dict (f : HostIf → HostIf) : (s.mapHost f).dict = s.dict := rfl
@[simp] theorem State.mapHost_power (f : HostIf → HostIf) : (s.mapHost f).power = s.power := rfl
@[simp] theorem State.mapHost_nv (f : HostIf → HostIf) : (s.mapHost f).nv = s.nv := rfl
@[simp] theorem State.mapHost_dome (f : HostIf → HostIf) : (s.mapHost f).dome = s.dome := rfl
@[simp] theorem State.mapHost_diag (f : HostIf → HostIf) : (s.mapHost f).diag = s.diag := rfl
@[simp] theorem State.mapHost_lb (f : HostIf → HostIf) : (s.mapHost f).lb = s.lb := rfl
@[simp] theorem State.mapHost_mem (f : HostIf → HostIf) : (s.mapHost f).mem = s.mem := rfl
@[simp] theorem State.mapHost_routes (f : HostIf → HostIf) : (s.mapHost f).routes = s.routes := rfl
@[simp] theorem State.mapHost_cs (f : HostIf → HostIf) : (s.mapHost f).cs = s.cs := rfl
@[simp] theorem State.mapHost_queues (f : HostIf → HostIf) : (s.mapHost f).queues = s.queues := rfl
@[simp] theorem State.mapHost_allocs (f : HostIf → HostIf) : (s.mapHost f).allocs = s.allocs := rfl
@[simp] theorem State.mapHost_deep (f : HostIf → HostIf) : (s.mapHost f).deep = s.deep := rfl
@[simp] theorem State.mapHost_out (f : HostIf → HostIf) : (s.mapHost f).out = s.out := rfl
@[simp] theorem State.mapHost_free (f : HostIf → HostIf) : (s.mapHost f).free = s.free := rfl
@[simp] theorem State.mapHost_pending (f : HostIf → HostIf) : (s.mapHost f).pending = s.pending := rfl

@[simp] theorem State.mapSnt_variant (f : Snt → Snt) : (s.mapSnt f).variant = s.variant := rfl
@[simp] theorem State.mapSnt_tclk (f : Snt → Snt) : (s.mapSnt f).tclk = s.tclk := rfl
@[simp] theorem State.mapSnt_clock (f : Snt → Snt) : (s.mapSnt f).clock = s.clock := rfl
@[simp] theorem State.mapSnt_mer (f : Snt → Snt) : (s.mapSnt f).mer = s.mer := rfl
@[simp] theorem State.mapSnt_net (f : Snt → Snt) : (s.mapSnt f).net = s.net := rfl
@[simp] theorem State.mapSnt_objs (f : Snt → Snt) : (s.mapSnt f).objs = s.objs := rfl
@[simp] theorem State.mapSnt_siu (f : Snt → Snt) : (s.mapSnt f).siu = s.siu := rfl
@[simp] theorem State.mapSnt_talus (f : Snt → Snt) : (s.mapSnt f).talus = s.talus := rfl
@[simp] theorem State.mapSnt_almSw (f : Snt → Snt) : (s.mapSnt f).almSw = s.almSw := rfl
@[simp] theorem State.mapSnt_dict (f : Snt → Snt) : (s.mapSnt f).dict = s.dict := rfl
@[simp] theorem State.mapSnt_power (f : Snt → Snt) : (s.mapSnt f).power = s.power := rfl
@[simp] theorem State.mapSnt_nv (f : Snt → Snt) : (s.mapSnt f).nv = s.nv := rfl
@[simp] theorem State.mapSnt_dome (f : Snt → Snt) : (s.mapSnt f).dome = s.dome := rfl
@[simp] theorem State.mapSnt_diag (f : Snt → Snt) : (s.mapSnt f).diag = s.diag := rfl
@[simp] theorem State.mapSnt_lb (f : Snt → Snt) : (s.mapSnt f).lb = s.lb := rfl
@[simp] theorem State.mapSnt_mem (f : Snt → Snt) : (s.mapSnt f).mem = s.mem := rfl
@[simp] theorem State.mapSnt_routes (f : Snt → Snt) : (s.mapSnt f).routes = s.routes := rfl
@[simp] theorem State.mapSnt_host (f : Snt → Snt) : (s.mapSnt f).host = s.host := rfl
@[simp] theorem State.mapSnt_cs (f : Snt → Snt) : (s.mapSnt f).cs = s.cs := rfl
@[simp] theorem State.mapSnt_queues (f : Snt → Snt) : (s.mapSnt f).queues = s.queues := rfl
@[simp] theorem State.mapSnt_allocs (f : Snt → Snt) : (s.mapSnt f).allocs = s.allocs := rfl
@[simp] theorem State.mapSnt_deep (f : Snt → Snt) : (s.mapSnt f).deep = s.deep := rfl
@[simp] theorem State.mapSnt_out (f : Snt → Snt) : (s.mapSnt f).out = s.out := rfl
@[simp] theorem State.mapSnt_free (f : Snt → Snt) : (s.mapSnt f).free = s.free := rfl
@[simp] theorem State.mapSnt_pending (f : Snt → Snt) : (s.mapSnt f).pending = s.pending := rfl

@[simp] theorem State.mapTalus_variant (f : Talus → Talus) : (s.mapTalus f).variant = s.variant := rfl
@[simp] theorem State.mapTalus_tclk (f : Talus → Talus) : (s.mapTalus f).tclk = s.tclk := rfl
@[simp] theorem State.mapTalus_clock (f : Talus → Talus) : (s.mapTalus f).clock = s.clock := rfl
@[simp] theorem State.mapTalus_mer (f : Talus → Talus) : (s.mapTalus f).mer = s.mer := rfl
@[simp] theorem State.mapTalus_net (f : Talus → Talus) : (s.mapTalus f).net = s.net := rfl
@[simp] theorem State.mapTalus_objs (f : Talus → Talus) : (s.mapTalus f).objs = s.objs := rfl
@[simp] theorem State.mapTalus_siu (f : Talus → Talus) : (s.mapTalus f).siu = s.siu := rfl
@[simp] theorem State.mapTalus_snt (f : Talus → Talus) : (s.mapTalus f).snt = s.snt := rfl
@[simp] theorem State.mapTalus_almSw (f : Talus → Talus) : (s.mapTalus f).almSw = s.almSw := rfl
@[simp] theorem State.mapTalus_dict (f : Talus → Talus) : (s.mapTalus f).dict = s.dict := rfl
@[simp] theorem State.mapTalus_power (f : Talus → Talus) : (s.mapTalus f).power = s.power := rfl
@[simp] theorem State.mapTalus_nv (f : Talus → Talus) : (s.mapTalus f).nv = s.nv := rfl
@[simp] theorem State.mapTalus_dome (f : Talus → Talus) : (s.mapTalus f).dome = s.dome := rfl
@[simp] theorem State.mapTalus_diag (f : Talus → Talus) : (s.mapTalus f).diag = s.diag := rfl
@[simp] theorem State.mapTalus_lb (f : Talus → Talus) : (s.mapTalus f).lb = s.lb := rfl
@[simp] theorem State.mapTalus_mem (f : Talus → Talus) : (s.mapTalus f).mem = s.mem := rfl
@[simp] theorem State.mapTalus_routes (f : Talus → Talus) : (s.mapTalus f).routes = s.routes := rfl
@[simp] theorem State.mapTalus_host (f : Talus → Talus) : (s.mapTalus f).host = s.host := rfl
@[simp] theorem State.mapTalus_cs (f : Talus → Talus) : (s.mapTalus f).cs = s.cs := rfl
@[simp] theorem State.mapTalus_queues (f : Talus → Talus) : (s.mapTalus f).queues = s.queues := rfl
@[simp] theorem State.mapTalus_allocs (f : Talus → Talus) : (s.mapTalus f).allocs = s.allocs := rfl
@[simp] theorem State.mapTalus_deep (f : Talus → Talus) : (s.mapTalus f).deep = s.deep := rfl
@[simp] theorem State.mapTalus_out (f : Talus → Talus) : (s.mapTalus f).out = s.out := rfl
@[simp] theorem State.mapTalus_free (f : Talus → Talus) : (s.mapTalus f).free = s.free := rfl
@[simp] theorem State.mapTalus_pending (f : Talus → Talus) : (s.mapTalus f).pending = s.pending := rfl

@[simp] theorem State.mapDeep_variant (f : Deep → Deep) : (s.mapDeep f).variant = s.variant := rfl
@[simp] theorem State.mapDeep_tclk (f : Deep → Deep) : (s.mapDeep f).tclk = s.tclk := rfl
@[simp] theorem State.mapDeep_clock (f : Deep → Deep) : (s.mapDeep f).clock = s.clock := rfl
@[simp] theorem State.mapDeep_mer (f : Deep → Deep) : (s.mapDeep f).mer = s.mer := rfl
@[simp] theorem State.mapDeep_net (f : Deep → Deep) : (s.mapDeep f).net = s.net := rfl
@[simp] theorem State.mapDeep_objs (f : Deep → Deep) : (s.mapDeep f).objs = s.objs := rfl
@[simp] theorem State.mapDeep_siu (f : Deep → Deep) : (s.mapDeep f).siu = s.siu := rfl
@[simp] theorem State.mapDeep_talus (f : Deep → Deep) : (s.mapDeep f).talus = s.talus := rfl
@[simp] theorem State.mapDeep_snt (f : Deep → Deep) : (s.mapDeep f).snt = s.snt := rfl
@[simp] theorem State.mapDeep_almSw (f : Deep → Deep) : (s.mapDeep f).almSw = s.almSw := rfl
@[simp] theorem State.mapDeep_dict (f : Deep → Deep) : (s.mapDeep f).dict = s.dict := rfl
@[simp] theorem State.mapDeep_power (f : Deep → Deep) : (s.mapDeep f).power = s.power := rfl
@[simp] theorem State.mapDeep_nv (f : Deep → Deep) : (s.mapDeep f).nv = s.nv := rfl
@[simp] theorem State.mapDeep_dome (f : Deep → Deep) : (s.mapDeep f).dome = s.dome := rfl
@[simp] theorem State.mapDeep_diag (f : Deep → Deep) : (s.mapDeep f).diag = s.diag := rfl
@[simp] theorem State.mapDeep_lb (f : Deep → Deep) : (s.mapDeep f).lb = s.lb := rfl
@[simp] theorem State.mapDeep_mem (f : Deep → Deep) : (s.mapDeep f).mem = s.mem := rfl
@[simp] theorem State.mapDeep_routes (f : Deep → Deep) : (s.mapDeep f).routes = s.routes := rfl
@[simp] theorem State.mapDeep_host (f : Deep → Deep) : (s.mapDeep f).host = s.host := rfl
@[simp] theorem State.mapDeep_cs (f : Deep → Deep) : (s.mapDeep f).cs = s.cs := rfl
@[simp] theorem State.mapDeep_queues (f : Deep → Deep) : (s.mapDeep f).queues = s.queues := rfl
@[simp] theorem State.mapDeep_allocs (f : Deep → Deep) : (s.mapDeep f).allocs = s.allocs := rfl
@[simp] theorem State.mapDeep_out (f : Deep → Deep) : (s.mapDeep f).out = s.out := rfl
@[simp] theorem State.mapDeep_free (f : Deep → Deep) : (s.mapDeep f).free = s.free := rfl
@[simp] theorem State.mapDeep_pending (f : Deep → Deep) : (s.mapDeep f).pending = s.pending := rfl

@[simp] theorem State.mapTt_variant (f : Tt → Tt) : (s.mapTt f).variant = s.variant := rfl
@[simp] theorem State.mapTt_tclk (f : Tt → Tt) : (s.mapTt f).tclk = s.tclk := rfl
@[simp] theorem State.mapTt_clock (f : Tt → Tt) : (s.mapTt f).clock = s.clock := rfl
@[simp] theorem State.mapTt_mer (f : Tt → Tt) : (s.mapTt f).mer = s.mer := rfl
@[simp] theorem State.mapTt_net (f : Tt → Tt) : (s.mapTt f).net = s.net := rfl
@[simp] theorem State.mapTt_objs (f : Tt → Tt) : (s.mapTt f).objs = s.objs := rfl
@[simp] theorem State.mapTt_siu (f : Tt → Tt) : (s.mapTt f).siu = s.siu := rfl
@[simp] theorem State.mapTt_talus (f : Tt → Tt) : (s.mapTt f).talus = s.talus := rfl
@[simp] theorem State.mapTt_snt (f : Tt → Tt) : (s.mapTt f).snt = s.snt := rfl
@[simp] theorem State.mapTt_almSw (f : Tt → Tt) : (s.mapTt f).almSw = s.almSw := rfl
@[simp] theorem State.mapTt_dict (f : Tt → Tt) : (s.mapTt f).dict = s.dict := rfl
@[simp] theorem State.mapTt_power (f : Tt → Tt) : (s.mapTt f).power = s.power := rfl
@[simp] theorem State.mapTt_nv (f : Tt → Tt) : (s.mapTt f).nv = s.nv := rfl
@[simp] theorem State.mapTt_dome (f : Tt → Tt) : (s.mapTt f).dome = s.dome := rfl
@[simp] theorem State.mapTt_diag (f : Tt → Tt) : (s.mapTt f).diag = s.diag := rfl
@[simp] theorem State.mapTt_lb (f : Tt → Tt) : (s.mapTt f).lb = s.lb := rfl
@[simp] theorem State.mapTt_mem (f : Tt → Tt) : (s.mapTt f).mem = s.mem := rfl
@[simp] theorem State.mapTt_routes (f : Tt → Tt) : (s.mapTt f).routes = s.routes := rfl
@[simp] theorem State.mapTt_host (f : Tt → Tt) : (s.mapTt f).host = s.host := rfl
@[simp] theorem State.mapTt_cs (f : Tt → Tt) : (s.mapTt f).cs = s.cs := rfl
@[simp] theorem State.mapTt_queues (f : Tt → Tt) : (s.mapTt f).queues = s.queues := rfl
@[simp] theorem State.mapTt_allocs (f : Tt → Tt) : (s.mapTt f).allocs = s.allocs := rfl
@[simp] theorem State.mapTt_out (f : Tt → Tt) : (s.mapTt f).out = s.out := rfl
@[simp] theorem State.mapTt_free (f : Tt → Tt) : (s.mapTt f).free = s.free := rfl
@[simp] theorem State.mapTt_pending (f : Tt → Tt) : (s.mapTt f).pending = s.pending := rfl

@[simp] theorem State.mapTheo_variant (f : Theo → Theo) : (s.mapTheo f).variant = s.variant := rfl
@[simp] theorem State.mapTheo_tclk (f : Theo → Theo) : (s.mapTheo f).tclk = s.tclk := rfl
@[simp] theorem State.mapTheo_clock (f : Theo → Theo) : (s.mapTheo f).clock = s.clock := rfl
@[simp] theorem State.mapTheo_mer (f : Theo → Theo) : (s.mapTheo f).mer = s.mer := rfl
@[simp] theorem State.mapTheo_net (f : Theo → Theo) : (s.mapTheo f).net = s.net := rfl
@[simp] theorem State.mapTheo_objs (f : Theo → Theo) : (s.mapTheo f).objs = s.objs := rfl
@[simp] theorem State.mapTheo_siu (f : Theo → Theo) : (s.mapTheo f).siu = s.siu := rfl
@[simp] theorem State.mapTheo_talus (f : Theo → Theo) : (s.mapTheo f).talus = s.talus := rfl
@[simp] theorem State.mapTheo_snt (f : Theo → Theo) : (s.mapTheo f).snt = s.snt := rfl
@[simp] theorem State.mapTheo_almSw (f : Theo → Theo) : (s.mapTheo f).almSw = s.almSw := rfl
@[simp] theorem State.mapTheo_dict (f : Theo → Theo) : (s.mapTheo f).dict = s.dict := rfl
@[simp] theorem State.mapTheo_power (f : Theo → Theo) : (s.mapTheo f).power = s.power := rfl
@[simp] theorem State.mapTheo_nv (f : Theo → Theo) : (s.mapTheo f).nv = s.nv := rfl
@[simp] theorem State.mapTheo_dome (f : Theo → Theo) : (s.mapTheo f).dome = s.dome := rfl
@[simp] theorem State.mapTheo_diag (f : Theo → Theo) : (s.mapTheo f).diag = s.diag := rfl
@[simp] theorem State.mapTheo_lb (f : Theo → Theo) : (s.mapTheo f).lb = s.lb := rfl
@[simp] theorem State.mapTheo_mem (f : Theo → Theo) : (s.mapTheo f).mem = s.mem := rfl
@[simp] theorem State.mapTheo_routes (f : Theo → Theo) : (s.mapTheo f).routes = s.routes := rfl
@[simp] theorem State.mapTheo_host (f : Theo → Theo) : (s.mapTheo f).host = s.host := rfl
@[simp] theorem State.mapTheo_cs (f : Theo → Theo) : (s.mapTheo f).cs = s.cs := rfl
@[simp] theorem State.mapTheo_queues (f : Theo → Theo) : (s.mapTheo f).queues = s.queues := rfl
@[simp] theorem State.mapTheo_allocs (f : Theo → Theo) : (s.mapTheo f).allocs = s.allocs := rfl
@[simp] theorem State.mapTheo_out (f : Theo → Theo) : (s.mapTheo f).out = s.out := rfl
@[simp] theorem State.mapTheo_free (f : Theo → Theo) : (s.mapTheo f).free = s.free := rfl
@[simp] theorem State.mapTheo_pending (f : Theo → Theo) : (s.mapTheo f).pending = s.pending := rfl

@[simp] theorem State.setSpur_variant (n : Nat) (v : Spur) : (s.setSpur n v).variant = s.variant := rfl
@[simp] theorem State.setSpur_tclk (n : Nat) (v : Spur) : (s.setSpur n v).tclk = s.tclk := rfl
@[simp] theorem State.setSpur_clock (n : Nat) (v : Spur) : (s.setSpur n v).clock = s.clock := rfl
@[simp] theorem State.setSpur_mer (n : Nat) (v : Spur) : (s.setSpur n v).mer = s.mer := rfl
@[simp] theorem State.setSpur_net (n : Nat) (v : Spur) : (s.setSpur n v).net = s.net := rfl
@[simp] theorem State.setSpur_objs (n : Nat) (v : Spur) : (s.setSpur n v).objs = s.objs := rfl
@[simp] theorem State.setSpur_siu (n : Nat) (v : Spur) : (s.setSpur n v).siu = s.siu := rfl
@[simp] theorem State.setSpur_talus (n : Nat) (v : Spur) : (s.setSpur n v).talus = s.talus := rfl
@[simp] theorem State.setSpur_snt (n : Nat) (v : Spur) : (s.setSpur n v).snt = s.snt := rfl
@[simp] theorem State.setSpur_almSw (n : Nat) (v : Spur) : (s.setSpur n v).almSw = s.almSw := rfl
@[simp] theorem State.setSpur_dict (n : Nat) (v : Spur) : (s.setSpur n v).dict = s.dict := rfl
@[simp] theorem State.setSpur_power (n : Nat) (v : Spur) : (s.setSpur n v).power = s.power := rfl
@[simp] theorem State.setSpur_nv (n : Nat) (v : Spur) : (s.setSpur n v).nv = s.nv := rfl
@[simp] theorem State.setSpur_dome (n : Nat) (v : Spur) : (s.setSpur n v).dome = s.dome := rfl
@[simp] theorem State.setSpur_diag (n : Nat) (v : Spur) : (s.setSpur n v).diag = s.diag := rfl
@[simp] theorem State.setSpur_lb (n : Nat) (v : Spur) : (s.setSpur n v).lb = s.lb := rfl
@[simp] theorem State.setSpur_mem (n : Nat) (v : Spur) : (s.setSpur n v).mem = s.mem := rfl
@[simp] theorem State.setSpur_routes (n : Nat) (v : Spur) : (s.setSpur n v).routes = s.routes := rfl
@[simp] theorem State.setSpur_host (n : Nat) (v : Spur) : (s.setSpur n v).host = s.host := rfl
@[simp] theorem State.setSpur_cs (n : Nat) (v : Spur) : (s.setSpur n v).cs = s.cs := rfl
@[simp] theorem State.setSpur_queues (n : Nat) (v : Spur) : (s.setSpur n v).queues = s.queues := rfl
@[simp] theorem State.setSpur_allocs (n : Nat) (v : Spur) : (s.setSpur n v).allocs = s.allocs := rfl
@[simp] theorem State.setSpur_out (n : Nat) (v : Spur) : (s.setSpur n v).out = s.out := rfl
@[simp] theorem State.setSpur_free (n : Nat) (v : Spur) : (s.setSpur n v).free = s.free := rfl
@[simp] theorem State.setSpur_pending (n : Nat) (v : Spur) : (s.setSpur n v).pending = s.pending := rfl

@[simp] theorem State.setSlotRt_variant (i : Nat) (v : SlotRt) : (s.setSlotRt i v).variant = s.variant := rfl
@[simp] theorem State.setSlotRt_tclk (i : Nat) (v : SlotRt) : (s.setSlotRt i v).tclk = s.tclk := rfl
@[simp] theorem State.setSlotRt_clock (i : Nat) (v : SlotRt) : (s.setSlotRt i v).clock = s.clock := rfl
@[simp] theorem State.setSlotRt_mer (i : Nat) (v : SlotRt) : (s.setSlotRt i v).mer = s.mer := rfl
@[simp] theorem State.setSlotRt_net (i : Nat) (v : SlotRt) : (s.setSlotRt i v).net = s.net := rfl
@[simp] theorem State.setSlotRt_objs (i : Nat) (v : SlotRt) : (s.setSlotRt i v).objs = s.objs := rfl
@[simp] theorem State.setSlotRt_talus (i : Nat) (v : SlotRt) : (s.setSlotRt i v).talus = s.talus := rfl
@[simp] theorem State.setSlotRt_snt (i : Nat) (v : SlotRt) : (s.setSlotRt i v).snt = s.snt := rfl
@[simp] theorem State.setSlotRt_almSw (i : Nat) (v : SlotRt) : (s.setSlotRt i v).almSw = s.almSw := rfl
@[simp] theorem State.setSlotRt_dict (i : Nat) (v : SlotRt) : (s.setSlotRt i v).dict = s.dict := rfl
@[simp] theorem State.setSlotRt_power (i : Nat) (v : SlotRt) : (s.setSlotRt i v).power = s.power := rfl
@[simp] theorem State.setSlotRt_nv (i : Nat) (v : SlotRt) : (s.setSlotRt i v).nv = s.nv := rfl
@[simp] theorem State.setSlotRt_dome (i : Nat) (v : SlotRt) : (s.setSlotRt i v).dome = s.dome := rfl
@[simp] theorem State.setSlotRt_diag (i : Nat) (v : SlotRt) : (s.setSlotRt i v).diag = s.diag := rfl
@[simp] theorem State.setSlotRt_lb (i : Nat) (v : SlotRt) : (s.setSlotRt i v).lb = s.lb := rfl
@[simp] theorem State.setSlotRt_mem (i : Nat) (v : SlotRt) : (s.setSlotRt i v).mem = s.mem := rfl
@[simp] theorem State.setSlotRt_routes (i : Nat) (v : SlotRt) : (s.setSlotRt i v).routes = s.routes := rfl
@[simp] theorem State.setSlotRt_host (i : Nat) (v : SlotRt) : (s.setSlotRt i v).host = s.host := rfl
@[simp] theorem State.setSlotRt_cs (i : Nat) (v : SlotRt) : (s.setSlotRt i v).cs = s.cs := rfl
@[simp] theorem State.setSlotRt_queues (i : Nat) (v : SlotRt) : (s.setSlotRt i v).queues = s.queues := rfl
@[simp] theorem State.setSlotRt_allocs (i : Nat) (v : SlotRt) : (s.setSlotRt i v).allocs = s.allocs := rfl
@[simp] theorem State.setSlotRt_deep (i : Nat) (v : SlotRt) : (s.setSlotRt i v).deep = s.deep := rfl
@[simp] theorem State.setSlotRt_out (i : Nat) (v : SlotRt) : (s.setSlotRt i v).out = s.out := rfl
@[simp] theorem State.setSlotRt_free (i : Nat) (v : SlotRt) : (s.setSlotRt i v).free = s.free := rfl
@[simp] theorem State.setSlotRt_pending (i : Nat) (v : SlotRt) : (s.setSlotRt i v).pending = s.pending := rfl

@[simp] theorem State.setPtpPort_variant (p : Nat) (v : PtpPort) : (s.setPtpPort p v).variant = s.variant := rfl
@[simp] theorem State.setPtpPort_tclk (p : Nat) (v : PtpPort) : (s.setPtpPort p v).tclk = s.tclk := rfl
@[simp] theorem State.setPtpPort_clock (p : Nat) (v : PtpPort) : (s.setPtpPort p v).clock = s.clock := rfl
@[simp] theorem State.setPtpPort_objs (p : Nat) (v : PtpPort) : (s.setPtpPort p v).objs = s.objs := rfl
@[simp] theorem State.setPtpPort_siu (p : Nat) (v : PtpPort) : (s.setPtpPort p v).siu = s.siu := rfl
@[simp] theorem State.setPtpPort_talus (p : Nat) (v : PtpPort) : (s.setPtpPort p v).talus = s.talus := rfl
@[simp] theorem State.setPtpPort_snt (p : Nat) (v : PtpPort) : (s.setPtpPort p v).snt = s.snt := rfl
@[simp] theorem State.setPtpPort_almSw (p : Nat) (v : PtpPort) : (s.setPtpPort p v).almSw = s.almSw := rfl
@[simp] theorem State.setPtpPort_dict (p : Nat) (v : PtpPort) : (s.setPtpPort p v).dict = s.dict := rfl
@[simp] theorem State.setPtpPort_power (p : Nat) (v : PtpPort) : (s.setPtpPort p v).power = s.power := rfl
@[simp] theorem State.setPtpPort_nv (p : Nat) (v : PtpPort) : (s.setPtpPort p v).nv = s.nv := rfl
@[simp] theorem State.setPtpPort_dome (p : Nat) (v : PtpPort) : (s.setPtpPort p v).dome = s.dome := rfl
@[simp] theorem State.setPtpPort_diag (p : Nat) (v : PtpPort) : (s.setPtpPort p v).diag = s.diag := rfl
@[simp] theorem State.setPtpPort_lb (p : Nat) (v : PtpPort) : (s.setPtpPort p v).lb = s.lb := rfl
@[simp] theorem State.setPtpPort_mem (p : Nat) (v : PtpPort) : (s.setPtpPort p v).mem = s.mem := rfl
@[simp] theorem State.setPtpPort_routes (p : Nat) (v : PtpPort) : (s.setPtpPort p v).routes = s.routes := rfl
@[simp] theorem State.setPtpPort_host (p : Nat) (v : PtpPort) : (s.setPtpPort p v).host = s.host := rfl
@[simp] theorem State.setPtpPort_cs (p : Nat) (v : PtpPort) : (s.setPtpPort p v).cs = s.cs := rfl
@[simp] theorem State.setPtpPort_queues (p : Nat) (v : PtpPort) : (s.setPtpPort p v).queues = s.queues := rfl
@[simp] theorem State.setPtpPort_allocs (p : Nat) (v : PtpPort) : (s.setPtpPort p v).allocs = s.allocs := rfl
@[simp] theorem State.setPtpPort_deep (p : Nat) (v : PtpPort) : (s.setPtpPort p v).deep = s.deep := rfl
@[simp] theorem State.setPtpPort_out (p : Nat) (v : PtpPort) : (s.setPtpPort p v).out = s.out := rfl
@[simp] theorem State.setPtpPort_free (p : Nat) (v : PtpPort) : (s.setPtpPort p v).free = s.free := rfl
@[simp] theorem State.setPtpPort_pending (p : Nat) (v : PtpPort) : (s.setPtpPort p v).pending = s.pending := rfl

@[simp] theorem State.setLaunchQ_variant (p : Nat) (v : List LaunchFrame) : (s.setLaunchQ p v).variant = s.variant := rfl
@[simp] theorem State.setLaunchQ_tclk (p : Nat) (v : List LaunchFrame) : (s.setLaunchQ p v).tclk = s.tclk := rfl
@[simp] theorem State.setLaunchQ_clock (p : Nat) (v : List LaunchFrame) : (s.setLaunchQ p v).clock = s.clock := rfl
@[simp] theorem State.setLaunchQ_mer (p : Nat) (v : List LaunchFrame) : (s.setLaunchQ p v).mer = s.mer := rfl
@[simp] theorem State.setLaunchQ_objs (p : Nat) (v : List LaunchFrame) : (s.setLaunchQ p v).objs = s.objs := rfl
@[simp] theorem State.setLaunchQ_siu (p : Nat) (v : List LaunchFrame) : (s.setLaunchQ p v).siu = s.siu := rfl
@[simp] theorem State.setLaunchQ_talus (p : Nat) (v : List LaunchFrame) : (s.setLaunchQ p v).talus = s.talus := rfl
@[simp] theorem State.setLaunchQ_snt (p : Nat) (v : List LaunchFrame) : (s.setLaunchQ p v).snt = s.snt := rfl
@[simp] theorem State.setLaunchQ_almSw (p : Nat) (v : List LaunchFrame) : (s.setLaunchQ p v).almSw = s.almSw := rfl
@[simp] theorem State.setLaunchQ_dict (p : Nat) (v : List LaunchFrame) : (s.setLaunchQ p v).dict = s.dict := rfl
@[simp] theorem State.setLaunchQ_power (p : Nat) (v : List LaunchFrame) : (s.setLaunchQ p v).power = s.power := rfl
@[simp] theorem State.setLaunchQ_nv (p : Nat) (v : List LaunchFrame) : (s.setLaunchQ p v).nv = s.nv := rfl
@[simp] theorem State.setLaunchQ_dome (p : Nat) (v : List LaunchFrame) : (s.setLaunchQ p v).dome = s.dome := rfl
@[simp] theorem State.setLaunchQ_diag (p : Nat) (v : List LaunchFrame) : (s.setLaunchQ p v).diag = s.diag := rfl
@[simp] theorem State.setLaunchQ_lb (p : Nat) (v : List LaunchFrame) : (s.setLaunchQ p v).lb = s.lb := rfl
@[simp] theorem State.setLaunchQ_mem (p : Nat) (v : List LaunchFrame) : (s.setLaunchQ p v).mem = s.mem := rfl
@[simp] theorem State.setLaunchQ_routes (p : Nat) (v : List LaunchFrame) : (s.setLaunchQ p v).routes = s.routes := rfl
@[simp] theorem State.setLaunchQ_host (p : Nat) (v : List LaunchFrame) : (s.setLaunchQ p v).host = s.host := rfl
@[simp] theorem State.setLaunchQ_cs (p : Nat) (v : List LaunchFrame) : (s.setLaunchQ p v).cs = s.cs := rfl
@[simp] theorem State.setLaunchQ_queues (p : Nat) (v : List LaunchFrame) : (s.setLaunchQ p v).queues = s.queues := rfl
@[simp] theorem State.setLaunchQ_allocs (p : Nat) (v : List LaunchFrame) : (s.setLaunchQ p v).allocs = s.allocs := rfl
@[simp] theorem State.setLaunchQ_deep (p : Nat) (v : List LaunchFrame) : (s.setLaunchQ p v).deep = s.deep := rfl
@[simp] theorem State.setLaunchQ_out (p : Nat) (v : List LaunchFrame) : (s.setLaunchQ p v).out = s.out := rfl
@[simp] theorem State.setLaunchQ_free (p : Nat) (v : List LaunchFrame) : (s.setLaunchQ p v).free = s.free := rfl
@[simp] theorem State.setLaunchQ_pending (p : Nat) (v : List LaunchFrame) : (s.setLaunchQ p v).pending = s.pending := rfl

@[simp] theorem State.event_variant (c a : Nat) (l : List (Nat × Nat)) : (s.event c a l).variant = s.variant := by
  unfold State.event; split <;> rfl
@[simp] theorem State.event_tclk (c a : Nat) (l : List (Nat × Nat)) : (s.event c a l).tclk = s.tclk := by
  unfold State.event; split <;> rfl
@[simp] theorem State.event_clock (c a : Nat) (l : List (Nat × Nat)) : (s.event c a l).clock = s.clock := by
  unfold State.event; split <;> rfl
@[simp] theorem State.event_mer (c a : Nat) (l : List (Nat × Nat)) : (s.event c a l).mer = s.mer := by
  unfold State.event; split <;> rfl
@[simp] theorem State.event_net (c a : Nat) (l : List (Nat × Nat)) : (s.event c a l).net = s.net := by
  unfold State.event; split <;> rfl
@[simp] theorem State.event_objs (c a : Nat) (l : List (Nat × Nat)) : (s.event c a l).objs = s.objs := by
  unfold State.event; split <;> rfl
@[simp] theorem State.event_siu (c a : Nat) (l : List (Nat × Nat)) : (s.event c a l).siu = s.siu := by
  unfold State.event; split <;> rfl
@[simp] theorem State.event_talus (c a : Nat) (l : List (Nat × Nat)) : (s.event c a l).talus = s.talus := by
  unfold State.event; split <;> rfl
@[simp] theorem State.event_snt (c a : Nat) (l : List (Nat × Nat)) : (s.event c a l).snt = s.snt := by
  unfold State.event; split <;> rfl
@[simp] theorem State.event_almSw (c a : Nat) (l : List (Nat × Nat)) : (s.event c a l).almSw = s.almSw := by
  unfold State.event; split <;> rfl
@[simp] theorem State.event_dict (c a : Nat) (l : List (Nat × Nat)) : (s.event c a l).dict = s.dict := by
  unfold State.event; split <;> rfl
@[simp] theorem State.event_power (c a : Nat) (l : List (Nat × Nat)) : (s.event c a l).power = s.power := by
  unfold State.event; split <;> rfl
@[simp] theorem State.event_nv (c a : Nat) (l : List (Nat × Nat)) : (s.event c a l).nv = s.nv := by
  unfold State.event; split <;> rfl
@[simp] theorem State.event_dome (c a : Nat) (l : List (Nat × Nat)) : (s.event c a l).dome = s.dome := by
  unfold State.event; split <;> rfl
@[simp] theorem State.event_lb (c a : Nat) (l : List (Nat × Nat)) : (s.event c a l).lb = s.lb := by
  unfold State.event; split <;> rfl
@[simp] theorem State.event_mem (c a : Nat) (l : List (Nat × Nat)) : (s.event c a l).mem = s.mem := by
  unfold State.event; split <;> rfl
@[simp] theorem State.event_routes (c a : Nat) (l : List (Nat × Nat)) : (s.event c a l).routes = s.routes := by
  unfold State.event; split <;> rfl
@[simp] theorem State.event_host (c a : Nat) (l : List (Nat × Nat)) : (s.event c a l).host = s.host := by
  unfold State.event; split <;> rfl
@[simp] theorem State.event_cs (c a : Nat) (l : List (Nat × Nat)) : (s.event c a l).cs = s.cs := by
  unfold State.event; split <;> rfl
@[simp] theorem State.event_queues (c a : Nat) (l : List (Nat × Nat)) : (s.event c a l).queues = s.queues := by
  unfold State.event; split <;> rfl
@[simp] theorem State.event_allocs (c a : Nat) (l : List (Nat × Nat)) : (s.event c a l).allocs = s.allocs := by
  unfold State.event; split <;> rfl
@[simp] theorem State.event_deep (c a : Nat) (l : List (Nat × Nat)) : (s.event c a l).deep = s.deep := by
  unfold State.event; split <;> rfl
@[simp] theorem State.event_out (c a : Nat) (l : List (Nat × Nat)) : (s.event c a l).out = s.out := by
  unfold State.event; split <;> rfl
@[simp] theorem State.event_free (c a : Nat) (l : List (Nat × Nat)) : (s.event c a l).free = s.free := by
  unfold State.event; split <;> rfl
@[simp] theorem State.event_pending (c a : Nat) (l : List (Nat × Nat)) : (s.event c a l).pending = s.pending := by
  unfold State.event; split <;> rfl

@[simp] theorem State.detect_variant (n a : Nat) (l : List (Nat × Nat)) : (s.detect n a l).variant = s.variant := State.event_variant s _ a l
@[simp] theorem State.detect_tclk (n a : Nat) (l : List (Nat × Nat)) : (s.detect n a l).tclk = s.tclk := State.event_tclk s _ a l
@[simp] theorem State.detect_clock (n a : Nat) (l : List (Nat × Nat)) : (s.detect n a l).clock = s.clock := State.event_clock s _ a l
@[simp] theorem State.detect_mer (n a : Nat) (l : List (Nat × Nat)) : (s.detect n a l).mer = s.mer := State.event_mer s _ a l
@[simp] theorem State.detect_net (n a : Nat) (l : List (Nat × Nat)) : (s.detect n a l).net = s.net := State.event_net s _ a l
@[simp] theorem State.detect_objs (n a : Nat) (l : List (Nat × Nat)) : (s.detect n a l).objs = s.objs := State.event_objs s _ a l
@[simp] theorem State.detect_siu (n a : Nat) (l : List (Nat × Nat)) : (s.detect n a l).siu = s.siu := State.event_siu s _ a l
@[simp] theorem State.detect_talus (n a : Nat) (l : List (Nat × Nat)) : (s.detect n a l).talus = s.talus := State.event_talus s _ a l
@[simp] theorem State.detect_snt (n a : Nat) (l : List (Nat × Nat)) : (s.detect n a l).snt = s.snt := State.event_snt s _ a l
@[simp] theorem State.detect_almSw (n a : Nat) (l : List (Nat × Nat)) : (s.detect n a l).almSw = s.almSw := State.event_almSw s _ a l
@[simp] theorem State.detect_dict (n a : Nat) (l : List (Nat × Nat)) : (s.detect n a l).dict = s.dict := State.event_dict s _ a l
@[simp] theorem State.detect_power (n a : Nat) (l : List (Nat × Nat)) : (s.detect n a l).power = s.power := State.event_power s _ a l
@[simp] theorem State.detect_nv (n a : Nat) (l : List (Nat × Nat)) : (s.detect n a l).nv = s.nv := State.event_nv s _ a l
@[simp] theorem State.detect_dome (n a : Nat) (l : List (Nat × Nat)) : (s.detect n a l).dome = s.dome := State.event_dome s _ a l
@[simp] theorem State.detect_lb (n a : Nat) (l : List (Nat × Nat)) : (s.detect n a l).lb = s.lb := State.event_lb s _ a l
@[simp] theorem State.detect_mem (n a : Nat) (l : List (Nat × Nat)) : (s.detect n a l).mem = s.mem := State.event_mem s _ a l
@[simp] theorem State.detect_routes (n a : Nat) (l : List (Nat × Nat)) : (s.detect n a l).routes = s.routes := State.event_routes s _ a l
@[simp] theorem State.detect_host (n a : Nat) (l : List (Nat × Nat)) : (s.detect n a l).host = s.host := State.event_host s _ a l
@[simp] theorem State.detect_cs (n a : Nat) (l : List (Nat × Nat)) : (s.detect n a l).cs = s.cs := State.event_cs s _ a l
@[simp] theorem State.detect_queues (n a : Nat) (l : List (Nat × Nat)) : (s.detect n a l).queues = s.queues := State.event_queues s _ a l
@[simp] theorem State.detect_allocs (n a : Nat) (l : List (Nat × Nat)) : (s.detect n a l).allocs = s.allocs := State.event_allocs s _ a l
@[simp] theorem State.detect_deep (n a : Nat) (l : List (Nat × Nat)) : (s.detect n a l).deep = s.deep := State.event_deep s _ a l
@[simp] theorem State.detect_out (n a : Nat) (l : List (Nat × Nat)) : (s.detect n a l).out = s.out := State.event_out s _ a l
@[simp] theorem State.detect_free (n a : Nat) (l : List (Nat × Nat)) : (s.detect n a l).free = s.free := State.event_free s _ a l
@[simp] theorem State.detect_pending (n a : Nat) (l : List (Nat × Nat)) : (s.detect n a l).pending = s.pending := State.event_pending s _ a l

/-! ### What an update leaves of its own field -/

@[simp] theorem State.fresh_out : s.fresh.out = [] := rfl
@[simp] theorem State.emit_out (o : Out) : (s.emit o).out = s.out ++ [o] := rfl
@[simp] theorem State.after_pending (t : State) : (s.after t).pending = s.pending := rfl
@[simp] theorem State.setStarted_started (x : Option (Nat × DefReq × Option Nat)) : (s.setStarted x).routes.started = x := rfl
@[simp] theorem State.setUsdo_usdo (x : Option UsdoSession) : (s.setUsdo x).routes.usdo = x := rfl
@[simp] theorem State.mapHost_host (f : HostIf → HostIf) : (s.mapHost f).host = f s.host := rfl
@[simp] theorem State.mapSnt_snt (f : Snt → Snt) : (s.mapSnt f).snt = f s.snt := rfl
@[simp] theorem State.mapTalus_talus (f : Talus → Talus) : (s.mapTalus f).talus = f s.talus := rfl
@[simp] theorem State.mapDeep_deep (f : Deep → Deep) : (s.mapDeep f).deep = f s.deep := rfl
@[simp] theorem State.mapTt_tt (f : Tt → Tt) : (s.mapTt f).deep.tt = f s.deep.tt := rfl
@[simp] theorem State.mapTheo_th (f : Theo → Theo) : (s.mapTheo f).deep.th = f s.deep.th := rfl

end Sys2Proof.Machine
end

