-- ==== Sys2Proof/Laws/Core.lean ====
section
/-! SUPPORT. What the shared operations never touch: the parts of the state that an event, a signal, a push, a message or a write of
memory leaves alone. -/
namespace Sys2Proof.Machine

/-- The state without its registers, diagnostics, host interface, Cairn Store, queues and memory contents, and without what is sent. -/
def State.core (s : State) : State :=
  { s with dict := [], diag := Diag.reset, mem := { Memory.reset with openMask := s.mem.openMask }, host := HostIf.reset,
           cs := CairnStore.reset, queues := [], out := [], pending := [] }

variable (s : State)

theorem State.core_foldl {β : Type} (f : State → β → State) (hf : ∀ s b, (f s b).core = s.core) (l : List β) :
    ∀ s, (l.foldl f s).core = s.core := by
  induction l with
  | nil => intro s; rfl
  | cons b t ih => intro s; rw [List.foldl_cons, ih, hf]

@[simp] theorem State.core_wr (k v : Nat) : (s.wr k v).core = s.core := rfl
@[simp] theorem State.core_bump (k : Nat) : (s.bump k).core = s.core := rfl
@[simp] theorem State.core_emit (o : Out) : (s.emit o).core = s.core := rfl
@[simp] theorem State.core_setCairn (c : Nat) (v : Cairn) : (s.setCairn c v).core = s.core := rfl
@[simp] theorem State.core_setWaiter (w : Nat) (v : Option Waiter) : (s.setWaiter w v).core = s.core := rfl
@[simp] theorem State.core_setQueue (q : Nat) (v : Queue) : (s.setQueue q v).core = s.core := rfl
@[simp] theorem State.core_setByte (a : Nat) (b : Byte) : (s.setByte a b).core = s.core := rfl
@[simp] theorem State.core_setWerr (a : Nat) (e : WordErr) : (s.setWerr a e).core = s.core := rfl
@[simp] theorem State.core_qStat (q b : Nat) : (s.qStat q b).core = s.core := rfl

@[simp] theorem State.core_event (c a : Nat) (l : List (Nat × Nat)) : (s.event c a l).core = s.core := by
  unfold State.event; split <;> rfl

@[simp] theorem State.core_detect (n a : Nat) (l : List (Nat × Nat)) : (s.detect n a l).core = s.core :=
  State.core_event s _ a l

@[simp] theorem State.core_msix (v : Nat) : (s.msix v).core = s.core := by
  unfold State.msix; split <;> rfl

@[simp] theorem State.core_setBytes (d : Bytes) : ∀ (s : State) (a : Nat), (s.setBytes a d).core = s.core := by
  induction d with
  | nil => intro s a; rfl
  | cons b t ih => intro s a; rw [State.setBytes, ih, State.core_setByte]

@[simp] theorem State.core_logError (a g x c k n : Nat) : (s.logError a g x c k n).core = s.core := by
  unfold State.logError
  split
  · rfl
  · dsimp only; split
    · rfl
    · rw [State.core_event]; rfl

@[simp] theorem State.core_repairCandidate (r n : Nat) (u : Bool) : (s.repairCandidate r n u).core = s.core := by
  unfold State.repairCandidate
  dsimp only
  split
  · rfl
  · split
    · rw [State.core_event]; rfl
    · rfl

@[simp] theorem State.core_setDev (n : Nat) : (s.setDev n).core = s.core := by
  unfold State.setDev; dsimp only; split <;> simp

@[simp] theorem State.core_weightsHit (a : Nat) : (s.weightsHit a).core = s.core := by
  unfold State.weightsHit
  dsimp only
  split
  · split
    · rfl
    · split
      · rfl
      · rw [State.core_event]
        show State.core _ = _
        generalize he : (List.range 16).find? _ = o
        have h1 : ∀ t : State, t.core = s.core → (if t.rd R.WT_STATE = 0 then t.wr R.WT_STATE 1 else t).core = s.core := by
          intro t ht; split <;> simpa using ht
        have h2 : ∀ t : State, t.core = s.core → (if t.rd R.DEV_STATE = 2 then t.setDev 3 else t).core = s.core := by
          intro t ht; split <;> simpa using ht
        cases o <;> exact h2 _ (h1 _ rfl)
  · rfl

@[simp] theorem State.core_countRow (r : Nat) : (s.countRow r).core = s.core := by
  unfold State.countRow; dsimp only; split
  · rw [State.core_repairCandidate]; rfl
  · rfl

@[simp] theorem State.core_detectWord (a g : Nat) (o : WordOutcome) : (s.detectWord a g o).core = s.core := by
  cases o <;> simp only [State.detectWord] <;> repeat' split
  all_goals simp

@[simp] theorem State.core_writeWord (g w o : Nat) (d : Bytes) (p : Bool) : (s.writeWord g w o d p).core = s.core := by
  have h : ∀ t : State, t.core = s.core → (match t.flipFor (classOf (regionOf s.variant w)) w g with
      | some m => (t.setWerr w { mask := (t.werr w).mask ^^^ m, poison := (t.werr w).poison }).wr
          (R.FLIP_ARMED (classOf (regionOf s.variant w))) 0
      | none => t).core = s.core := by
    intro t ht; split <;> simpa using ht
  unfold State.writeWord
  dsimp only
  apply h
  split
  · simp
  · split
    · simp
    · split <;> simp

@[simp] theorem State.core_writeWords (g a : Nat) (d : Bytes) (p : Bool) : (s.writeWords g p a d).core = s.core :=
  State.core_foldl _ (fun _ _ => by simp) _ s

@[simp] theorem State.core_injFire : s.injFire.core = s.core := by
  unfold State.injFire; split
  · rw [State.core_event, State.core_wr]; rfl
  · rfl

@[simp] theorem State.core_injHere (n i : Nat) : (s.injHere n i).core = s.core := by
  unfold State.injHere; split <;> simp

@[simp] theorem State.core_writeMem (g a : Nat) (d : Bytes) (p : Bool) : (s.writeMem g a d p).2.core = s.core := by
  unfold State.writeMem State.closedAccess
  split
  · rfl
  · simp
  · split <;> simp

@[simp] theorem State.core_readMem (g a n : Nat) : (s.readMem g a n).s.core = s.core := by
  unfold State.readMem State.closedAccess
  split
  · rfl
  · simp
  · split
    · simp
    · exact State.core_foldl (fun t w => t.detectWord w g (s.wordOutcome w)) (fun t w => State.core_detectWord t w g _) _ s

@[simp] theorem State.core_endWait (a : Nat) (v : Option Nat) (st : WaitStatus) : (s.endWait a v st).core = s.core := by
  unfold State.endWait
  split
  · dsimp only; split <;> simp
  · rfl

@[simp] theorem State.core_wakeWaiter (w : Nat) (st : WaitStatus) : (s.wakeWaiter w st).core = s.core := by
  unfold State.wakeWaiter; split <;> simp

@[simp] theorem State.core_testWaiters (c : Nat) : (s.testWaiters c).core = s.core := by
  unfold State.testWaiters
  refine State.core_foldl _ (fun t b => ?_) _ s
  split
  · split <;> simp
  · rfl

@[simp] theorem State.core_testNotify (c : Nat) : (s.testNotify c).core = s.core := by
  unfold State.testNotify
  dsimp only
  repeat' split
  all_goals simp

@[simp] theorem State.core_sendFlit (typ g d tag a : Nat) (p : Bool) (b : Bytes) : (s.sendFlit typ g d tag a p b).core = s.core := rfl

@[simp] theorem State.core_disarmFlip (k : Nat) : (s.disarmFlip k).core = s.core := by
  unfold State.disarmFlip; split <;> simp

@[simp] theorem State.core_disarmCairn (c : Nat) : (s.disarmCairn c).core = s.core := by
  unfold State.disarmCairn; split <;> simp

@[simp] theorem State.core_applySignal (g c : Nat) (a : Bool) (v : Nat) : (s.applySignal g c a v).1.core = s.core := by
  unfold State.applySignal
  dsimp only
  split <;> simp

@[simp] theorem State.core_forwardTest (c : Nat) : (s.forwardTest c).1.core = s.core := by
  have hf : ∀ (p : CairnPlan) (t : State) (r : Nat), (if t.reachable r = true then t.sendFlit 5 0xC008 r 0 p.fwdCairn false (toLe 4 p.fwdAdd)
      else t.event 0x2A06 0 [(14, c), (14, p.fwdCairn)]).core = t.core := by
    intro p t r; split <;> simp
  unfold State.forwardTest
  dsimp only
  split
  · rfl
  · rename_i p _
    split
    · rfl
    · split
      · simp
      · split
        · split
          · simp
          · rw [hf]; simp
        · rw [State.core_foldl _ (fun t b => hf p t b)]; simp

theorem State.core_runCairnItems : ∀ (n : Nat) (l : List CairnItem) (s : State), (runCairnItems n l s).core = s.core := by
  intro n
  induction n with
  | zero => intro l s; rfl
  | succ n ih =>
    intro l s
    match l with
    | [] => rfl
    | .sig g c a v src :: t =>
      have h := State.core_applySignal s g c a v
      simp only [runCairnItems]
      split
      · rename_i s1 he; rw [he] at h; rw [ih]; exact h
      · rename_i s1 he
        rw [he] at h
        split
        · rw [ih, State.core_event]; exact h
        · rw [ih]; exact h
    | .test c :: t => simp only [runCairnItems]; rw [ih]; simp

@[simp] theorem State.core_signal (g c : Nat) (a : Bool) (v : Nat) : (s.signal g c a v).core = s.core := State.core_runCairnItems _ _ _

@[simp] theorem State.core_sigAdd (g c v : Nat) : (s.sigAdd g c v).core = s.core := State.core_signal s g c true v

@[simp] theorem State.core_qStore (q : Nat) (w : Bytes) (p : Bool) : (s.qStore q w p).core = s.core := by
  unfold State.qStore; simp

@[simp] theorem State.core_qOverrun (q : Nat) : (s.qOverrun q).core = s.core := by
  unfold State.qOverrun
  dsimp only
  repeat' split
  all_goals simp

@[simp] theorem State.core_qPushWord (q : Nat) (w : Bytes) (p : Bool) : (s.qPushWord q w p).core = s.core := by
  unfold State.qPushWord
  repeat' split
  all_goals simp

@[simp] theorem State.core_qSignal (q : Nat) : (s.qSignal q).core = s.core := by
  unfold State.qSignal; dsimp only; split <;> simp

@[simp] theorem State.core_qForeign (q a : Nat) : (s.qForeign q a).core = s.core := by
  unfold State.qForeign; simp

@[simp] theorem State.core_qPush (q a : Nat) (d : Bytes) (p : Bool) : (s.qPush q a d p).core = s.core := by
  have h : ((words8 d).foldl (fun t w => t.qPushWord q w p) s).core = s.core := State.core_foldl _ (fun _ _ => by simp) _ s
  unfold State.qPush
  split
  · rfl
  · split
    · rfl
    · split
      · simp
      · dsimp only
        split
        · exact h
        · split
          · exact h
          · rw [State.core_qSignal]; exact h

@[simp] theorem State.core_qCommit (q : Nat) : (s.qCommit q).core = s.core := by
  unfold State.qCommit State.qRewindBad
  dsimp only
  repeat' split
  all_goals simp

@[simp] theorem State.core_qPacket (q a : Nat) (d : Bytes) : (s.qPacket q a d).core = s.core := by
  unfold State.qPacket; dsimp only; split <;> simp

@[simp] theorem State.core_logEvent (r : Nat) : (s.logEvent r).core = s.core := by
  unfold State.logEvent
  dsimp only
  split
  · split
    · split
      · rw [State.core_qPacket]; rfl
      · rfl
    · rfl
  · rfl

end Sys2Proof.Machine
end

