-- ==== Sys2Proof/Laws/Crypto.lean ====
section
/-! SUPPORT. Byte strings and sponges: a number's bytes and back, and how many bytes SHAKE256 and KMAC256 answer (R479, R487). -/
namespace Sys2Proof.Machine

theorem keccakRound_length (a : List Lane) (rc : Lane) : (keccakRound a rc).length = 25 := by
  unfold keccakRound
  simp only
  split
  · next h r e => simpa using congrArg List.length e.symm
  · next e => simpa using congrArg List.length e

theorem keccakF_length (a : List Lane) : (keccakF a).length = 25 := by
  unfold keccakF keccakRc
  simp only [List.foldl_cons, List.foldl_nil, keccakRound_length]

theorem absorb_length (n : Nat) (m : Bytes) (a : List Lane) (h : a.length = 25) : (absorb n m a).length = 25 := by
  induction n generalizing m a with
  | zero => exact h
  | succ n ih => exact ih _ _ (keccakF_length _)

theorem toLe_length (n v : Nat) : (toLe n v).length = n := by
  induction n generalizing v with
  | zero => rfl
  | succ n ih => simp [toLe, ih]

theorem stateBytes_length (a : List Lane) : (stateBytes a).length = 8 * a.length := by
  induction a with
  | nil => rfl
  | cons l r ih =>
    have : stateBytes (l :: r) = toLe 8 l.toNat ++ stateBytes r := rfl
    rw [this, List.length_append, ih, toLe_length, List.length_cons]; omega

/-- Up to one block, a sponge answers as many bytes as it is asked for. -/
theorem sponge_length (ds : Byte) (m : Bytes) (n : Nat) (h0 : 0 < n) (h : n ≤ 136) : (sponge ds m n).length = n := by
  have h1 : ceilDiv n shakeRate = 1 := by unfold ceilDiv shakeRate; omega
  unfold sponge
  simp only [h1, squeeze, List.append_nil, List.length_take, stateBytes_length]
  rw [absorb_length _ _ _ (by simp)]
  unfold shakeRate; omega

theorem toLe_leNat (b : Bytes) : toLe b.length (leNat b) = b := by
  induction b with
  | nil => rfl
  | cons x r ih =>
    have hx : x.toNat < 256 := x.isLt
    simp only [List.length_cons, toLe, leNat]
    congr 1
    · apply BitVec.eq_of_toNat_eq; simp; omega
    · rw [show (x.toNat + 256 * leNat r) / 256 = leNat r by omega]; exact ih

theorem leNat_lt (b : Bytes) : leNat b < 256 ^ b.length := by
  induction b with
  | nil => simp [leNat]
  | cons x r ih =>
    have hx : x.toNat < 256 := x.isLt
    simp only [List.length_cons, leNat, Nat.pow_succ]
    omega

/-- KMAC256 answers as many bytes as it is asked for, up to one block. -/
theorem kmac256_length (k x cust : Bytes) (n : Nat) (h0 : 0 < n) (h : n ≤ 136) : (kmac256 k x cust n).length = n :=
  sponge_length _ _ _ h0 h

/-- SHAKE256 answers as many bytes as it is asked for, up to one block. -/
theorem shake256_length (m : Bytes) (n : Nat) (h0 : 0 < n) (h : n ≤ 136) : (shake256 m n).length = n :=
  sponge_length _ _ _ h0 h

/-- Sixteen bytes, as a 128-bit number and back. -/
theorem toLe_ofNat_leNat (b : Bytes) (h : b.length = 16) : toLe 16 (BitVec.ofNat 128 (leNat b)).toNat = b := by
  have hl := leNat_lt b
  rw [h] at hl
  rw [BitVec.toNat_ofNat, Nat.mod_eq_of_lt (by simpa using hl)]
  simpa [h] using toLe_leNat b

end Sys2Proof.Machine
end

