-- ==== Sys2Proof/Laws/SMap.lean ====
section
/-! SUPPORT. The laws of the sparse map: a read after a write, and the canonical form. -/
namespace Sys2Proof.Laws
open Sys2Proof.Machine

variable {α : Type}

theorem smGet_del_same (d : Nat → α) (m : SMap α) (k : Nat) : smGet d (smDel m k) k = d k := by
  induction m with
  | nil => rfl
  | cons e m ih =>
    obtain ⟨k', v⟩ := e
    by_cases h : k = k' <;> simp [smDel, smGet, h]
    · exact h ▸ ih
    · exact ih

theorem smGet_del_ne (d : Nat → α) (m : SMap α) {k j : Nat} (h : j ≠ k) :
    smGet d (smDel m k) j = smGet d m j := by
  induction m with
  | nil => rfl
  | cons e m ih =>
    obtain ⟨k', v⟩ := e
    by_cases hk : k = k'
    · subst hk; simp [smDel, smGet, h, ih]
    · simp only [smDel, if_neg hk, smGet, ih]

theorem smGet_ins_same (d : Nat → α) (m : SMap α) (k : Nat) (v : α) (h : smDel m k = m) :
    smGet d (smIns m k v) k = v := by
  induction m with
  | nil => simp [smIns, smGet]
  | cons e m ih =>
    obtain ⟨k', w⟩ := e
    have hk : k ≠ k' := by
      intro hk; subst hk
      have := congrArg List.length h
      have hle : ∀ (m : SMap α), (smDel m k).length ≤ m.length := by
        intro m; induction m with
        | nil => simp [smDel]
        | cons e m ih => obtain ⟨a, b⟩ := e; simp only [smDel]; split <;> simp <;> omega
      have := hle m
      simp [smDel] at *; omega
    simp only [smDel, if_neg hk, List.cons.injEq, true_and] at h
    by_cases hl : k < k'
    · simp [smIns, hl, smGet]
    · simp [smIns, hl, smGet, hk, ih h]

theorem smGet_ins_ne (d : Nat → α) (m : SMap α) {k j : Nat} (v : α) (h : j ≠ k) :
    smGet d (smIns m k v) j = smGet d m j := by
  induction m with
  | nil => simp [smIns, smGet, h]
  | cons e m ih =>
    obtain ⟨k', w⟩ := e
    by_cases hl : k < k'
    · simp [smIns, hl, smGet, h]
    · simp [smIns, hl, smGet, ih]

theorem smDel_del (m : SMap α) (k : Nat) : smDel (smDel m k) k = smDel m k := by
  induction m with
  | nil => rfl
  | cons e m ih =>
    obtain ⟨k', v⟩ := e
    by_cases h : k = k' <;> simp [smDel, h]
    · exact h ▸ ih
    · exact ih

/-- A read after a write to the same key gives the value written. -/
@[simp] theorem smGet_set_same [DecidableEq α] (d : Nat → α) (m : SMap α) (k : Nat) (v : α) :
    smGet d (smSet d m k v) k = v := by
  unfold smSet; split
  · rename_i h; rw [smGet_del_same, h]
  · exact smGet_ins_same d _ k v (smDel_del m k)

/-- A write leaves every other key alone. -/
theorem smGet_set_ne [DecidableEq α] (d : Nat → α) (m : SMap α) {k j : Nat} (v : α) (h : j ≠ k) :
    smGet d (smSet d m k v) j = smGet d m j := by
  unfold smSet; split
  · exact smGet_del_ne d m h
  · rw [smGet_ins_ne d _ v h, smGet_del_ne d m h]

theorem smGet_set [DecidableEq α] (d : Nat → α) (m : SMap α) (k j : Nat) (v : α) :
    smGet d (smSet d m k v) j = if j = k then v else smGet d m j := by
  split
  · rename_i h; subst h; simp
  · rename_i h; exact smGet_set_ne d m v h

theorem smWfFrom_mono [DecidableEq α] (d : Nat → α) {lo lo' : Nat} (m : SMap α) (h : lo' ≤ lo)
    (hw : smWfFrom d lo m = true) : smWfFrom d lo' m = true := by
  cases m with
  | nil => rfl
  | cons e m => obtain ⟨k, v⟩ := e; simp [smWfFrom] at *; exact ⟨⟨by omega, hw.1.2⟩, hw.2⟩

theorem smWfFrom_del [DecidableEq α] (d : Nat → α) (m : SMap α) (k : Nat) :
    ∀ lo, smWfFrom d lo m = true → smWfFrom d lo (smDel m k) = true := by
  induction m with
  | nil => intro lo _; rfl
  | cons e m ih =>
    obtain ⟨k', v⟩ := e
    intro lo h
    simp [smWfFrom] at h
    by_cases hk : k = k'
    · simp only [smDel, if_pos hk]
      exact ih lo (smWfFrom_mono d m (by omega) h.2)
    · simp [smDel, hk, smWfFrom]
      exact ⟨⟨h.1.1, h.1.2⟩, ih _ h.2⟩

theorem smWfFrom_ins [DecidableEq α] (d : Nat → α) (m : SMap α) (k : Nat) (v : α) (hv : v ≠ d k)
    (hd : smDel m k = m) : ∀ lo, lo ≤ k → smWfFrom d lo m = true → smWfFrom d lo (smIns m k v) = true := by
  induction m with
  | nil => intro lo hl _; simp [smIns, smWfFrom, hv, hl]
  | cons e m ih =>
    obtain ⟨k', w⟩ := e
    intro lo hl h
    have hk : k ≠ k' := by
      intro hk; subst hk
      have := congrArg List.length hd
      have hle : ∀ (m : SMap α), (smDel m k).length ≤ m.length := by
        intro m; induction m with
        | nil => simp [smDel]
        | cons e m ih => obtain ⟨a, b⟩ := e; simp only [smDel]; split <;> simp <;> omega
      have := hle m
      simp [smDel] at *; omega
    simp only [smDel, if_neg hk, List.cons.injEq, true_and] at hd
    simp [smWfFrom] at h
    by_cases hlt : k < k'
    · have hs : k + 1 ≤ k' := hlt
      simp [smIns, hlt, smWfFrom, hv, hl, h, hs]
    · simp [smIns, hlt, smWfFrom, h]
      exact ih hd _ (by omega) h.2

/-- A write keeps the canonical form. -/
theorem smWf_set [DecidableEq α] (d : Nat → α) (m : SMap α) (k : Nat) (v : α) (h : smWf d m = true) :
    smWf d (smSet d m k v) = true := by
  unfold smSet smWf at *; split
  · exact smWfFrom_del d m k 0 h
  · rename_i hv
    exact smWfFrom_ins d _ k v hv (smDel_del m k) 0 (by omega) (smWfFrom_del d m k 0 h)

theorem smWfFrom_drop [DecidableEq α] (d : Nat → α) (p : Nat → Bool) (m : SMap α) :
    ∀ lo, smWfFrom d lo m = true → smWfFrom d lo (smDrop p m) = true := by
  induction m with
  | nil => intro lo _; rfl
  | cons e m ih =>
    obtain ⟨k', v⟩ := e
    intro lo h
    simp [smWfFrom] at h
    by_cases hk : p k' = true
    · simp only [smDrop, hk, if_true]
      exact ih lo (smWfFrom_mono d m (by omega) h.2)
    · simp [smDrop, hk, smWfFrom]
      exact ⟨⟨h.1.1, h.1.2⟩, ih _ h.2⟩

/-- Dropping entries keeps the canonical form. -/
theorem smWf_drop [DecidableEq α] (d : Nat → α) (p : Nat → Bool) (m : SMap α) (h : smWf d m = true) :
    smWf d (smDrop p m) = true := smWfFrom_drop d p m 0 h

end Sys2Proof.Laws
end

