-- ==== Sys2Proof/Laws/Ops.lean ====
section
/-! SUPPORT. What the shared operations can do: registers, the frame of a command, requests of a route, commits. -/
namespace Sys2Proof.Machine
open Sys2Proof.Laws

variable (s : State)

/-! ### Registers -/

@[simp] theorem State.rd_wr_same (k v : Nat) : (s.wr k v).rd k = v := smGet_set_same _ _ _ _

theorem State.rd_wr_ne {k j : Nat} (v : Nat) (h : j ≠ k) : (s.wr k v).rd j = s.rd j := smGet_set_ne _ _ v h

theorem State.rd_wr (k j v : Nat) : (s.wr k v).rd j = if j = k then v else s.rd j := smGet_set _ _ _ _ _

@[simp] theorem State.rd_fresh (k : Nat) : s.fresh.rd k = s.rd k := rfl

@[simp] theorem State.rd_emit (o : Out) (k : Nat) : (s.emit o).rd k = s.rd k := rfl

@[simp] theorem State.rd_event (c a : Nat) (l : List (Nat × Nat)) (k : Nat) : (s.event c a l).rd k = s.rd k := by
  unfold State.rd; rw [State.event_dict]

@[simp] theorem State.rd_detect (n a : Nat) (l : List (Nat × Nat)) (k : Nat) : (s.detect n a l).rd k = s.rd k :=
  State.rd_event s _ a l k

theorem State.wr_dict_wf (k v : Nat) (h : smWf regDefault s.dict = true) : smWf regDefault (s.wr k v).dict = true :=
  smWf_set _ _ _ _ h

/-! ### The frame of a command -/

theorem State.run_live (f : State → State) (h : s.power.porstLow = false) : s.run f = .next (s.after (f s.fresh)) := by
  simp [State.run, h]

theorem State.run_reset (f : State → State) (h : s.power.porstLow = true) : s.run f = .next s.fresh := by
  simp [State.run, h]

theorem State.run_pending {f : State → State} {t : State} (h : s.run f = .next t) : t.pending = s.pending := by
  unfold State.run at h
  split at h <;> cases h <;> rfl

theorem State.run_next (f : State → State) : ∃ t, s.run f = .next t := by
  unfold State.run; split <;> exact ⟨_, rfl⟩

theorem State.runSpur_live (f : State → State) (h : s.power.porstLow = false) :
    s.runSpur f = .next (s.after (f s.fresh).spurDone) := State.run_live s _ h

theorem State.runSpur_pending {f : State → State} {t : State} (h : s.runSpur f = .next t) : t.pending = s.pending :=
  State.run_pending s h

theorem State.runSpur_next (f : State → State) : ∃ t, s.runSpur f = .next t := State.run_next s _

/-- A command whose meaning is `run f` does what `f` does where `P` holds. -/
theorem Does.of_run {c : Instr} {P : State → Prop} {E f : State → State} (he : ∀ s, exec c s = s.run f)
    (hf : ∀ s, P s → f s = E s) : Does c P E := fun s h hp => by
  rw [he, State.run_live s f h, hf _ hp]

theorem Does.of_runSpur {c : Instr} {P : State → Prop} {E f : State → State} (he : ∀ s, exec c s = s.runSpur f)
    (hf : ∀ s, P s → f s = E s) : Does c P (fun s => (E s).spurDone) := fun s h hp => by
  rw [he, State.runSpur_live s f h, hf _ hp]

/-! ### Requests of a route -/

theorem State.hostWrite_taken {r idx sub : Nat} {d : Bytes} {f : State → State × Nat} (h : s.takesWrite r idx sub d)
    (hf : (f s).2 = 0) : s.hostWrite r idx sub d f = ((f s).1).written r idx sub d := by
  obtain ⟨h1, h2, h3⟩ := h
  cases e : f s with
  | mk t c =>
    rw [e] at hf; subst hf
    simp [State.hostWrite, h1, h2, h3, e, State.written, State.lbWrite]

theorem State.hostWrite_refused {r idx sub : Nat} {d : Bytes} {f : State → State × Nat} (h : s.routeTakes r)
    (hc : s.writeReason idx sub d ≠ 0) : s.hostWrite r idx sub d f = s.refuse r idx sub (s.writeReason idx sub d) := by
  simp [State.hostWrite, h.1, h.2, hc]

theorem State.hostWrite_waits {r idx sub : Nat} {d : Bytes} {f : State → State × Nat}
    (h : s.routeUp r = false ∨ s.routeBusy r = true) : s.hostWrite r idx sub d f = s := by
  rcases h with h | h <;> simp [State.hostWrite, h]

theorem State.hostRead_taken {r idx sub n : Nat} {f : State → Bytes × State} (h : s.takesRead r idx sub) :
    s.hostRead r idx sub n f = (f s).2.readReply r (f s).1 false := by
  obtain ⟨h1, h2, h3⟩ := h
  simp [State.hostRead, h1, h2, h3]

theorem State.deferred_free {r idx sub : Nat} {q : DefReq} {f : State → State × Nat} (h : s.keeperFree) :
    s.deferred r idx sub q f = f s := by
  obtain ⟨h1, h2, h3⟩ := h
  simp [State.deferred, h1, h2, h3]

theorem State.commit_taken {r idx sub : Nat} {cr : CommitRec} {check : Bytes → State → Nat} {apply : Bytes → State → State}
    (h : s.takesCommit r idx sub cr) (hc : check (s.shadowValue r) s = 0) :
    s.commit r idx sub cr check apply = s.committed r idx sub cr apply := by
  obtain ⟨h1, h2, h3, h4, h5, h6⟩ := h
  have h7 : ¬((s.nv.flashPresent = true ∧ s.dome.hostBoot = false) ∧ s.dome.rc ≤ cr.counter.toNat) := by
    rintro ⟨⟨a, b⟩, c⟩; simp [a, b, c] at h6
  simp [State.commit, h1, h2, h3, State.deferred_free s h4, State.commitRun, h5, hc, h7, State.committed]

theorem State.commitReason_ne_queued (r idx sub : Nat) (cr : CommitRec) : s.commitReason r idx sub cr ≠ queuedReason := by
  unfold State.commitReason queuedReason
  dsimp only
  repeat' split
  all_goals omega

theorem State.commit_refused {r idx sub : Nat} {cr : CommitRec} {check : Bytes → State → Nat} {apply : Bytes → State → State}
    (h : s.routeTakes r) (hu : s.keeperUp = true) (hk : s.keeperFree) (hc : s.commitReason r idx sub cr ≠ 0) :
    s.commit r idx sub cr check apply =
      ((if s.commitReason r idx sub cr = 0x2008 then s.targetRefused idx sub 0x2008 else s).commitFail r idx sub
        (s.commitReason r idx sub cr)).refuse r idx sub (s.commitReason r idx sub cr) := by
  have hq := State.commitReason_ne_queued s r idx sub cr
  by_cases h8 : s.commitReason r idx sub cr = 0x2008
  · simp [State.commit, h.1, h.2, hu, State.deferred_free s hk, State.commitRun, h8, queuedReason]
  · simp [State.commit, h.1, h.2, hu, State.deferred_free s hk, State.commitRun, hc, hq, h8]

theorem State.event_codes (c a : Nat) (l : List (Nat × Nat)) :
    (s.event c a l).diag.raised.map RawEvent.code = s.diag.raised.map RawEvent.code ++ [c] := by
  unfold State.event; split <;> simp [State.raise]

theorem State.rd_bump_same (k : Nat) : (s.bump k).rd k = min (s.rd k + 1) (2 ^ 32 - 1) := by
  simp [State.bump, State.bumpN, satAdd, maxCount]

theorem State.rd_bump_ne {k j : Nat} (h : j ≠ k) : (s.bump k).rd j = s.rd j := State.rd_wr_ne s _ h

/-! ### Disarming a flip mask -/

/-- All a write can do to an armed mask: nothing, or `FLIP_ARMED` 0. -/
theorem State.disarmFlip_cases (c : Nat) : s.disarmFlip c = s ∨ s.disarmFlip c = s.wr (R.FLIP_ARMED c) 0 := by
  unfold State.disarmFlip; split <;> simp

@[simp] theorem State.disarmFlip_cs (c : Nat) : (s.disarmFlip c).cs = s.cs := by
  obtain h | h := s.disarmFlip_cases c <;> simp [h]

@[simp] theorem State.disarmFlip_mem (c : Nat) : (s.disarmFlip c).mem = s.mem := by
  obtain h | h := s.disarmFlip_cases c <;> simp [h]

@[simp] theorem State.disarmFlip_cairn (c k : Nat) : (s.disarmFlip c).cairn k = s.cairn k := by
  simp [State.cairn]

theorem State.disarmCairn_cases (c : Nat) : s.disarmCairn c = s ∨ s.disarmCairn c = s.wr (R.FLIP_ARMED 7) 0 := by
  unfold State.disarmCairn; split <;> simp

@[simp] theorem State.disarmCairn_cs (c : Nat) : (s.disarmCairn c).cs = s.cs := by
  obtain h | h := s.disarmCairn_cases c <;> simp [h]

@[simp] theorem State.disarmCairn_mem (c : Nat) : (s.disarmCairn c).mem = s.mem := by
  obtain h | h := s.disarmCairn_cases c <;> simp [h]

@[simp] theorem State.disarmCairn_cairn (c k : Nat) : (s.disarmCairn c).cairn k = s.cairn k := by
  simp [State.cairn]

/-! ### A spur's issue -/

theorem State.spurIssue_taken {n w : Nat} {body : State → State} (h : s.issues n w) : s.spurIssue n w body = body s := by
  obtain ⟨h1, h2, h3, h4⟩ := h
  simp [State.spurIssue, h1, h2, h3, h4]

end Sys2Proof.Machine
end

