-- ==== Sys2Proof/Laws/Memory.lean ====
section
/-! SUPPORT. The memory operations: what a read after a write gives, what they leave alone, and that they keep memory in its
canonical form. -/
namespace Sys2Proof.Machine
open Sys2Proof.Laws

variable (s : State)

/-! ### Bytes -/

@[simp] theorem State.byte_setByte_same (a : Nat) (b : Byte) : (s.setByte a b).byte a = b := smGet_set_same _ _ _ _

theorem State.byte_setByte_ne {a c : Nat} (b : Byte) (h : c ≠ a) : (s.setByte a b).byte c = s.byte c :=
  smGet_set_ne _ _ b h

/-- Bytes outside those written read as before. -/
theorem State.byte_setBytes_out (d : Bytes) : ∀ (s : State) (a c : Nat), (c < a ∨ a + d.length ≤ c) →
    (s.setBytes a d).byte c = s.byte c := by
  induction d with
  | nil => intros; rfl
  | cons b t ih =>
    intro s a c h
    simp only [List.length_cons] at h
    rw [State.setBytes, ih _ _ _ (by omega), State.byte_setByte_ne _ _ (by omega)]

/-- Every byte written reads as written. -/
theorem State.byte_setBytes_in (d : Bytes) : ∀ (s : State) (a i : Nat) (h : i < d.length), (s.setBytes a d).byte (a + i) = d[i] := by
  induction d with
  | nil => intro s a i h; simp at h
  | cons b t ih =>
    intro s a i h
    rw [State.setBytes]
    cases i with
    | zero => simpa using State.byte_setBytes_out t (s.setByte a b) (a + 1) a (.inl (by omega))
    | succ i =>
      have := ih (s.setByte a b) (a + 1) i (by simpa using h)
      simpa [Nat.add_assoc, Nat.add_comm 1 i] using this

/-! ### What leaves the bytes alone -/

@[simp] theorem State.bytes_wr (k v : Nat) : (s.wr k v).mem.bytes = s.mem.bytes := rfl

@[simp] theorem State.bytes_bump (k : Nat) : (s.bump k).mem.bytes = s.mem.bytes := rfl

@[simp] theorem State.bytes_setWerr (a : Nat) (e : WordErr) : (s.setWerr a e).mem.bytes = s.mem.bytes := rfl

@[simp] theorem State.bytes_event (c a : Nat) (l : List (Nat × Nat)) : (s.event c a l).mem.bytes = s.mem.bytes := by
  rw [State.event_mem]

@[simp] theorem State.bytes_detect (n a : Nat) (l : List (Nat × Nat)) : (s.detect n a l).mem.bytes = s.mem.bytes :=
  State.bytes_event s _ a l

@[simp] theorem State.bytes_logError (a g x c k n : Nat) : (s.logError a g x c k n).mem.bytes = s.mem.bytes := by
  unfold State.logError; split
  · rfl
  · dsimp only; split
    · rfl
    · simp

@[simp] theorem State.bytes_repairCandidate (r n : Nat) (u : Bool) : (s.repairCandidate r n u).mem.bytes = s.mem.bytes := by
  unfold State.repairCandidate; dsimp only; split
  · rfl
  · split
    · simp
    · rfl

@[simp] theorem State.bytes_setDev (n : Nat) : (s.setDev n).mem.bytes = s.mem.bytes := by
  unfold State.setDev; dsimp only; repeat' split
  all_goals simp

@[simp] theorem State.bytes_weightsHit (a : Nat) : (s.weightsHit a).mem.bytes = s.mem.bytes := by
  unfold State.weightsHit; dsimp only; repeat' split
  all_goals simp

/-- A detection changes no byte of memory. -/
@[simp] theorem State.bytes_countRow (r : Nat) : (s.countRow r).mem.bytes = s.mem.bytes := by
  unfold State.countRow; dsimp only; split <;> simp

@[simp] theorem State.bytes_detectWord (a g : Nat) (o : WordOutcome) : (s.detectWord a g o).mem.bytes = s.mem.bytes := by
  unfold State.detectWord; cases o <;> dsimp only <;> repeat' split
  all_goals simp

@[simp] theorem State.bytes_injFire : s.injFire.mem.bytes = s.mem.bytes := by
  unfold State.injFire; split <;> simp

@[simp] theorem State.bytes_injHere (n i : Nat) : (s.injHere n i).mem.bytes = s.mem.bytes := by
  unfold State.injHere; split <;> simp

theorem State.bytes_foldl {β : Type} (f : State → β → State) (hf : ∀ s b, (f s b).mem.bytes = s.mem.bytes) (l : List β) :
    ∀ s : State, (l.foldl f s).mem.bytes = s.mem.bytes := by
  induction l with
  | nil => intro s; rfl
  | cons b l ih => intro s; rw [List.foldl_cons, ih, hf]

/-- A read changes no byte of memory. -/
theorem State.bytes_readMem (g a n : Nat) : (s.readMem g a n).s.mem.bytes = s.mem.bytes := by
  unfold State.readMem; split
  · rfl
  · simp [State.closedAccess]
  · split
    · simp [State.closedAccess]
    · exact State.bytes_foldl _ (fun t w => State.bytes_detectWord t w g _) _ s

/-! ### The canonical form -/

theorem State.setByte_wf (a : Nat) (b : Byte) (h : s.mem.wf = true) : (s.setByte a b).mem.wf = true := smWf_set _ _ _ _ h

theorem State.setBytes_wf (d : Bytes) : ∀ (s : State) (a : Nat), s.mem.wf = true → (s.setBytes a d).mem.wf = true := by
  induction d with
  | nil => intro s a h; exact h
  | cons b t ih => intro s a h; exact ih _ _ (State.setByte_wf s a b h)

theorem State.wf_of_bytes {s t : State} (h : t.mem.bytes = s.mem.bytes) (hs : s.mem.wf = true) : t.mem.wf = true := by
  unfold Memory.wf at *; rw [h]; exact hs

theorem State.writeWord_wf (g w o : Nat) (d : Bytes) (p : Bool) (h : s.mem.wf = true) :
    (s.writeWord g w o d p).mem.wf = true := by
  unfold State.writeWord
  extract_lets n cls whole o0 e0 s1
  have h1 : s1.mem.wf = true := by
    simp only [s1]
    split
    · exact State.setBytes_wf d s w h
    · split
      · exact State.setBytes_wf d s (w + o) h
      · have hb := State.setBytes_wf d _ (w + o) (State.wf_of_bytes (State.bytes_detectWord s w g o0) h)
        have hc := State.setBytes_wf d s (w + o) h
        revert hb; generalize o0 = x; intro hb
        cases x <;> first | exact hc | exact hb
  split
  · exact h1
  · exact h1

theorem State.foldl_wf {β : Type} (f : State → β → State) (hf : ∀ s b, s.mem.wf = true → (f s b).mem.wf = true) (l : List β) :
    ∀ s : State, s.mem.wf = true → (l.foldl f s).mem.wf = true := by
  induction l with
  | nil => intro s h; exact h
  | cons b l ih => intro s h; exact ih _ (hf _ _ h)

theorem State.writeWords_wf (g : Nat) (p : Bool) (a : Nat) (d : Bytes) (h : s.mem.wf = true) :
    (s.writeWords g p a d).mem.wf = true :=
  State.foldl_wf _ (fun t _ ht => State.writeWord_wf t _ _ _ _ _ ht) _ s h

theorem State.writeMem_wf (g a : Nat) (d : Bytes) (p : Bool) (h : s.mem.wf = true) : (s.writeMem g a d p).2.mem.wf = true := by
  unfold State.writeMem; split
  · exact h
  · exact State.wf_of_bytes (by simp [State.closedAccess]) h
  · split
    · exact State.wf_of_bytes (by simp [State.closedAccess]) h
    · exact State.writeWords_wf s g p a d h

theorem State.readMem_wf (g a n : Nat) (h : s.mem.wf = true) : (s.readMem g a n).s.mem.wf = true :=
  State.wf_of_bytes (State.bytes_readMem s g a n) h

theorem State.clearStore_wf (n : Nat) (h : s.mem.wf = true) : (s.clearStore n).mem.wf = true := smWf_drop _ _ _ h

theorem State.openStore_wf (n : Nat) (h : s.mem.wf = true) : (s.openStore n).mem.wf = true := by
  have h1 := State.clearStore_wf s n h
  unfold State.openStore; dsimp only; split
  · exact h1
  · exact h1

theorem State.zeroQueueMem_wf (h : s.mem.wf = true) : s.zeroQueueMem.mem.wf = true := smWf_drop _ _ _ h

theorem State.zeroRange_wf (a n : Nat) (h : s.mem.wf = true) : (s.zeroRange a n).mem.wf = true := smWf_drop _ _ _ h

theorem State.clearCells_wf (p : Nat → Nat → Bool) (h : s.mem.wf = true) : (s.clearCells p).mem.wf = true := smWf_drop _ _ _ h

theorem State.reset_mem_wf : State.reset.mem.wf = true := rfl

end Sys2Proof.Machine
end

