-- ==== Sys2Proof/WellFormed.lean ====
section
/-! DEFINITION. Which commands are well formed: what they carry fits the transport or the request that brings it. The checks
that the spec gives a reason code of its own are not here: they are part of a command's meaning. -/
namespace Sys2Proof

/-- At most `n` bytes. -/
def dataOk (n : Nat) (d : Bytes) : Bool := decide (d.length ≤ n)

/-- At most `n` bytes, when there are any. -/
def optOk (n : Nat) (d : Option Bytes) : Bool := match d with
  | some x => dataOk n x
  | none => true

/-- What an access writes. -/
def accData : AccessKind → Bytes
  | .read _ => []
  | .write d => d

/-- An access of at most `n` bytes. -/
def accOk (n : Nat) : AccessKind → Bool
  | .read k => decide (k ≤ n)
  | .write d => dataOk n d

/-- Well-formedness (R7, R73 to R77, R162, R383, R431, R438, R443, R469, R470): a dictionary value has at most 2,048 bytes, a
frame, a packet, a flit or an access what its transport carries. -/
def Instr.wf : Instr → Bool
  | .porstNRelease _ => true
  | .porstNAssert _ => true
  | .sysrstNAssert _ _ => true
  | .swReset _ _ _ => true
  | .pllLock _ => true
  | .keeperStart _ _ => true
  | .initPassComplete _ _ => true
  | .bootGo _ => true
  | .pdOn _ _ _ => true
  | .pdOff _ _ _ => true
  | .domainSwitchDone _ => true
  | .clockOutOfRange _ => true
  | .xtal25Fault => true
  | .tjWarnExceeded _ => true
  | .overTemperature _ => true
  | .supplyOutOfWindow _ => true
  | .vmonFltClear _ => true
  | .envHoldEnd => true
  | .keeperLockstepMismatch => true
  | .keeperWatchdog => true
  | .keeperMachineCheck => true
  | .keeperRestart _ => true
  | .dramStackFailure _ => true
  | .trngHealthFail => true
  | .rateAdjWrite _ _ => true
  | .servoEnWrite _ _ => true
  | .srcSelWrite _ _ => true
  | .sync _ _ => true
  | .followUp _ _ => true
  | .pdelayReq _ _ => true
  | .pdelayResp _ _ => true
  | .pdelayRespFollowUp _ _ => true
  | .announce _ _ => true
  | .announceReceiptTimeout _ => true
  | .announceTx _ => true
  | .syncTx _ => true
  | .pdelayReqTx _ => true
  | .sourceLoss => true
  | .ppsEdge _ _ _ => true
  | .restep _ _ => true
  | .asym _ _ _ => true
  | .cwParamCommit _ _ _ => true
  | .lockoutEnd => true
  | .launchFrameSubmit _ _ data _ => dataOk 9216 data
  | .launchTimeReached _ _ => true
  | .frameTransmit _ data _ => dataOk 9216 data
  | .tsPop _ _ => true
  | .tioStartWrite _ _ _ data => dataOk 16 data
  | .tioPulse _ => true
  | .tioPulseEnd _ => true
  | .tioEdge _ _ _ _ => true
  | .csi2FrameStart _ _ _ _ => true
  | .csi2LongPacket _ _ _ _ _ data => dataOk 65535 data
  | .csi2FrameEnd _ _ _ _ => true
  | .ethFrameRx _ _ frame => dataOk 9216 frame
  | .canFrameRx _ _ data => dataOk 64 data
  | .spiDataReady _ _ => true
  | .spiTransferDone _ data => dataOk 65536 data
  | .uartSentence _ _ text _ => dataOk 65536 text
  | .encoderSample _ => true
  | .slotEn _ _ _ => true
  | .stale _ => true
  | .dead _ => true
  | .portSettingApply _ => true
  | .ethLinkDown _ => true
  | .canBusOff _ => true
  | .talusPointTake => true
  | .setClose => true
  | .octreeBuildDone => true
  | .rulebookTileDone => true
  | .rulebookBuildDone => true
  | .setRelease _ => true
  | .poseRingWrite _ => true
  | .sentinelPointTake => true
  | .sliceClose => true
  | .sliceResult => true
  | .exchangeFrameRx _ _ _ _ _ recs => decide (recs.length ≤ 255)
  | .peerUnreachable _ => true
  | .evidenceExpiry _ => true
  | .plateClearDone => true
  | .corCommit _ => true
  | .corridorCurrent => true
  | .corridorStale => true
  | .suspectMaskClear _ _ => true
  | .comparatorMismatch => true
  | .snclkOutOfRange => true
  | .resultMissing => true
  | .fixedEmitterResult => true
  | .sntRestart _ _ => true
  | .selfTestDone _ => true
  | .sntHb => true
  | .safeHoldExpiry => true
  | .hazardFrameWindow _ => true
  | .hazardFrameWithdraw => true
  | .illegalClass _ _ => true
  | .illegalOp _ _ => true
  | .nop _ _ => true
  | .jmp _ _ => true
  | .loop _ _ => true
  | .setl _ _ => true
  | .seta _ _ => true
  | .eot _ _ => true
  | .trap _ _ => true
  | .wld _ _ far => optOk 4096 far
  | .wldt _ _ far => optOk 4096 far
  | .mac _ _ far => optOk 4096 far
  | .fadd _ _ => true
  | .fsub _ _ => true
  | .fmul _ _ => true
  | .fma _ _ => true
  | .fmin _ _ => true
  | .fmax _ _ => true
  | .fabs _ _ => true
  | .fneg _ _ => true
  | .fcmp _ _ => true
  | .sel _ _ => true
  | .rcp _ _ => true
  | .rsq _ _ => true
  | .exp2 _ _ => true
  | .log2 _ _ => true
  | .cvt _ _ => true
  | .qmx _ _ => true
  | .itof _ _ => true
  | .fimm _ _ => true
  | .iadd _ _ => true
  | .isub _ _ => true
  | .imul _ _ => true
  | .isatadd _ _ => true
  | .andOp _ _ => true
  | .orOp _ _ => true
  | .xorOp _ _ => true
  | .shl _ _ => true
  | .shr _ _ => true
  | .icmp _ _ => true
  | .ldv _ _ far => optOk 4096 far
  | .stv _ _ => true
  | .ldp _ _ far => optOk 4096 far
  | .stp _ _ => true
  | .accrd _ _ => true
  | .accwr _ _ => true
  | .adda _ _ => true
  | .stsc _ _ => true
  | .mova _ _ => true
  | .gath _ _ far => optOk 4096 far
  | .scat _ _ far => optOk 4096 far
  | .scata _ _ far => optOk 4096 far
  | .fence _ _ => true
  | .fenceComplete _ => true
  | .pipeComplete _ _ => true
  | .srReseed _ => true
  | .sigadd _ _ => true
  | .sigset _ _ => true
  | .waitge _ _ _ => true
  | .waiteq _ _ _ => true
  | .waitbit _ _ _ => true
  | .waiterWake _ => true
  | .waitTimeout _ => true
  | .arm _ _ _ _ => true
  | .notifyWrite _ _ _ => true
  | .claim _ _ => true
  | .unclaim _ _ => true
  | .hwReq _ data => dataOk 2048 data
  | .hwCancel _ _ => true
  | .cairnRecordError _ => true
  | .waiterRecordParity _ => true
  | .qPush _ _ data _ => dataOk 256 data
  | .qPop _ _ words => decide (1 ≤ words.val)
  | .popResume _ => true
  | .qemptyTo _ => true
  | .qCommit _ _ _ => true
  | .qAbort _ _ _ => true
  | .qMark _ _ _ => true
  | .qRewind _ _ _ => true
  | .qRelease _ _ _ => true
  | .qFlush _ _ _ => true
  | .qPeak _ _ => true
  | .queuePointerMismatch _ => true
  | .allocNew _ data => dataOk 2048 data
  | .allocFree _ _ => true
  | .descNew _ data => dataOk 2048 data
  | .descFree _ _ => true
  | .copyNew _ data => dataOk 2048 data
  | .copyFree _ _ => true
  | .imgLoad _ => true
  | .admissionComplete x => decide (x.setBufs.length ≤ 3)
  | .epochInstant => true
  | .instanceOrigin _ => true
  | .startMin _ _ _ => true
  | .inputResolve _ _ _ _ => true
  | .inDl _ _ _ _ => true
  | .taskDispatch _ _ _ => true
  | .taskComplete _ _ _ => true
  | .taskAbort _ _ _ => true
  | .instanceEmpty _ _ => true
  | .deepResult peer => decide (peer.length ≤ 768)
  | .stoppedDeepResult => true
  | .resourceAccess _ _ _ _ acc _ => accOk 65536 acc
  | .slotTableParity _ _ => true
  | .gateRewrite _ _ => true
  | .liftDepth _ => true
  | .liftAttn _ => true
  | .voxPool _ => true
  | .warp _ => true
  | .almanacObjectWrite _ _ data => dataOk 2048 data
  | .almClone _ => true
  | .almSwitch _ _ => true
  | .almanacSwitched => true
  | .llt _ => true
  | .ldlt _ => true
  | .householderQr _ => true
  | .lu _ => true
  | .triangularSolve _ => true
  | .gaussNewton _ _ => true
  | .levenbergMarquardt _ _ => true
  | .pcg _ _ => true
  | .waveComplete _ => true
  | .tStop _ => true
  | .propagatorSample => true
  | .gnssOriginWrite _ data => dataOk 2048 data
  | .scrubberSlot _ _ _ => true
  | .scrubReq _ data => dataOk 2048 data
  | .scrubPassEnd => true
  | .errPop _ => true
  | .wtClear _ _ => true
  | .wtVerifyDone => true
  | .degradedEnd => true
  | .flipMask _ _ _ => true
  | .pcieReset _ => true
  | .pcieTrained _ _ => true
  | .pcieUncorrectable => true
  | .dpData _ acc => accOk 4096 acc
  | .burstAperture off acc => accOk (65536 - off.val) acc
  | .dpFence _ => true
  | .remoteTimeout _ => true
  | .dmaTail _ _ _ => true
  | .linearTransfer _ hostData => optOk (2 ^ 32 - 1) hostData
  | .copyObjectTransfer _ => true
  | .dmaTransferComplete _ => true
  | .dmaReset _ _ _ => true
  | .msixUnmask _ => true
  | .colLinkTrained _ _ _ _ => true
  | .colLinkDown _ => true
  | .colWrite _ f => dataOk 224 f.payload
  | .colWriteAck _ f => dataOk 224 f.payload
  | .colReadRequest _ f => dataOk 224 f.payload
  | .colReadResponse _ f => dataOk 224 f.payload
  | .colCairnOperation _ f => dataOk 224 f.payload
  | .mapSel _ _ => true
  | .mapSwitch => true
  | .peerAdmit _ _ => true
  | .peerReadmission => true
  | .rangeId _ _ => true
  | .hostHb _ => true
  | .hostTmo => true
  | .registerWrite _ _ _ data => dataOk 2048 data
  | .cwShadowWrite _ _ _ data => dataOk 2048 data
  | .dwGoRead _ => true
  | .dwGoWrite _ => true
  | .deferredStart => true
  | .deferredDone => true
  | .defTimeout => true
  | .usdoDownload _ _ data _ => dataOk 2048 data
  | .usdoUpload _ _ => true
  | .usdoSegment data _ => dataOk 2048 data
  | .usdoSessionTimeout => true
  | .nmtStart => true
  | .nmtStop => true
  | .nmtEnterPreOperational => true
  | .nmtResetCommunication => true
  | .heartbeat => true
  | .udpRead req => dataOk 65507 req.payload
  | .udpWrite req => dataOk 65507 req.payload
  | .rbAdv _ _ => true
  | .fuseBurnDone => true
  | .fkRevoke _ _ _ => true
  | .mr7Extend _ data => dataOk 2048 data
  | .attGo _ => true
  | .quoteReady => true
  | .keyEnv _ data => dataOk 2048 data
  | .keyEnvelopeDone => true
  | .jtagReq _ _ => true
  | .jtagRelock _ => true
  | .jtagResp _ data => dataOk 2048 data
  | .jtagChallengeExpire => true
  | .evtPop _ => true
  | .eventFrameTx => true
  | .injReq _ _ => true
  | .injectionExpire => true
  | .lbEn _ _ => true
  | .hostRingWrite => true
  | .timebaseRecord => true
  | .rpGo _ _ => true
  | .replayRecordApply => true
  | .rpStop _ => true
  | .replayUnderrun => true
  | .sliceEnd => true
  | .startOfTransmissionError _ => true
  | .busOffRecovery _ => true
  | .canBusError _ _ => true
  | .ethLinkUp _ => true
  | .busMasterEnable _ _ => true
  | .correctableAerError => true
  | .jtagInstructionLoad _ => true
  | .replayRingRead _ => true
  | .flashWriteDone => true

/-- The bytes a command carries. -/
def Instr.payload : Instr → Bytes
  | .porstNRelease _ => []
  | .porstNAssert _ => []
  | .sysrstNAssert _ _ => []
  | .swReset _ _ _ => []
  | .pllLock _ => []
  | .keeperStart _ _ => []
  | .initPassComplete _ _ => []
  | .bootGo _ => []
  | .pdOn _ _ _ => []
  | .pdOff _ _ _ => []
  | .domainSwitchDone _ => []
  | .clockOutOfRange _ => []
  | .xtal25Fault => []
  | .tjWarnExceeded _ => []
  | .overTemperature _ => []
  | .supplyOutOfWindow _ => []
  | .vmonFltClear _ => []
  | .envHoldEnd => []
  | .keeperLockstepMismatch => []
  | .keeperWatchdog => []
  | .keeperMachineCheck => []
  | .keeperRestart _ => []
  | .dramStackFailure _ => []
  | .trngHealthFail => []
  | .rateAdjWrite _ _ => []
  | .servoEnWrite _ _ => []
  | .srcSelWrite _ _ => []
  | .sync _ _ => []
  | .followUp _ _ => []
  | .pdelayReq _ _ => []
  | .pdelayResp _ _ => []
  | .pdelayRespFollowUp _ _ => []
  | .announce _ _ => []
  | .announceReceiptTimeout _ => []
  | .announceTx _ => []
  | .syncTx _ => []
  | .pdelayReqTx _ => []
  | .sourceLoss => []
  | .ppsEdge _ _ _ => []
  | .restep _ _ => []
  | .asym _ _ _ => []
  | .cwParamCommit _ _ _ => []
  | .lockoutEnd => []
  | .launchFrameSubmit _ _ data _ => data
  | .launchTimeReached _ _ => []
  | .frameTransmit _ data _ => data
  | .tsPop _ _ => []
  | .tioStartWrite _ _ _ data => data
  | .tioPulse _ => []
  | .tioPulseEnd _ => []
  | .tioEdge _ _ _ _ => []
  | .csi2FrameStart _ _ _ _ => []
  | .csi2LongPacket _ _ _ _ _ data => data
  | .csi2FrameEnd _ _ _ _ => []
  | .ethFrameRx _ _ frame => frame
  | .canFrameRx _ _ data => data
  | .spiDataReady _ _ => []
  | .spiTransferDone _ data => data
  | .uartSentence _ _ text _ => text
  | .encoderSample _ => []
  | .slotEn _ _ _ => []
  | .stale _ => []
  | .dead _ => []
  | .portSettingApply _ => []
  | .ethLinkDown _ => []
  | .canBusOff _ => []
  | .talusPointTake => []
  | .setClose => []
  | .octreeBuildDone => []
  | .rulebookTileDone => []
  | .rulebookBuildDone => []
  | .setRelease _ => []
  | .poseRingWrite _ => []
  | .sentinelPointTake => []
  | .sliceClose => []
  | .sliceResult => []
  | .exchangeFrameRx _ _ _ _ _ _ => []
  | .peerUnreachable _ => []
  | .evidenceExpiry _ => []
  | .plateClearDone => []
  | .corCommit _ => []
  | .corridorCurrent => []
  | .corridorStale => []
  | .suspectMaskClear _ _ => []
  | .comparatorMismatch => []
  | .snclkOutOfRange => []
  | .resultMissing => []
  | .fixedEmitterResult => []
  | .sntRestart _ _ => []
  | .selfTestDone _ => []
  | .sntHb => []
  | .safeHoldExpiry => []
  | .hazardFrameWindow _ => []
  | .hazardFrameWithdraw => []
  | .illegalClass _ _ => []
  | .illegalOp _ _ => []
  | .nop _ _ => []
  | .jmp _ _ => []
  | .loop _ _ => []
  | .setl _ _ => []
  | .seta _ _ => []
  | .eot _ _ => []
  | .trap _ _ => []
  | .wld _ _ far => far.getD []
  | .wldt _ _ far => far.getD []
  | .mac _ _ far => far.getD []
  | .fadd _ _ => []
  | .fsub _ _ => []
  | .fmul _ _ => []
  | .fma _ _ => []
  | .fmin _ _ => []
  | .fmax _ _ => []
  | .fabs _ _ => []
  | .fneg _ _ => []
  | .fcmp _ _ => []
  | .sel _ _ => []
  | .rcp _ _ => []
  | .rsq _ _ => []
  | .exp2 _ _ => []
  | .log2 _ _ => []
  | .cvt _ _ => []
  | .qmx _ _ => []
  | .itof _ _ => []
  | .fimm _ _ => []
  | .iadd _ _ => []
  | .isub _ _ => []
  | .imul _ _ => []
  | .isatadd _ _ => []
  | .andOp _ _ => []
  | .orOp _ _ => []
  | .xorOp _ _ => []
  | .shl _ _ => []
  | .shr _ _ => []
  | .icmp _ _ => []
  | .ldv _ _ far => far.getD []
  | .stv _ _ => []
  | .ldp _ _ far => far.getD []
  | .stp _ _ => []
  | .accrd _ _ => []
  | .accwr _ _ => []
  | .adda _ _ => []
  | .stsc _ _ => []
  | .mova _ _ => []
  | .gath _ _ far => far.getD []
  | .scat _ _ far => far.getD []
  | .scata _ _ far => far.getD []
  | .fence _ _ => []
  | .fenceComplete _ => []
  | .pipeComplete _ _ => []
  | .srReseed _ => []
  | .sigadd _ _ => []
  | .sigset _ _ => []
  | .waitge _ _ _ => []
  | .waiteq _ _ _ => []
  | .waitbit _ _ _ => []
  | .waiterWake _ => []
  | .waitTimeout _ => []
  | .arm _ _ _ _ => []
  | .notifyWrite _ _ _ => []
  | .claim _ _ => []
  | .unclaim _ _ => []
  | .hwReq _ data => data
  | .hwCancel _ _ => []
  | .cairnRecordError _ => []
  | .waiterRecordParity _ => []
  | .qPush _ _ data _ => data
  | .qPop _ _ _ => []
  | .popResume _ => []
  | .qemptyTo _ => []
  | .qCommit _ _ _ => []
  | .qAbort _ _ _ => []
  | .qMark _ _ _ => []
  | .qRewind _ _ _ => []
  | .qRelease _ _ _ => []
  | .qFlush _ _ _ => []
  | .qPeak _ _ => []
  | .queuePointerMismatch _ => []
  | .allocNew _ data => data
  | .allocFree _ _ => []
  | .descNew _ data => data
  | .descFree _ _ => []
  | .copyNew _ data => data
  | .copyFree _ _ => []
  | .imgLoad _ => []
  | .admissionComplete _ => []
  | .epochInstant => []
  | .instanceOrigin _ => []
  | .startMin _ _ _ => []
  | .inputResolve _ _ _ _ => []
  | .inDl _ _ _ _ => []
  | .taskDispatch _ _ _ => []
  | .taskComplete _ _ _ => []
  | .taskAbort _ _ _ => []
  | .instanceEmpty _ _ => []
  | .deepResult _ => []
  | .stoppedDeepResult => []
  | .resourceAccess _ _ _ _ acc _ => accData acc
  | .slotTableParity _ _ => []
  | .gateRewrite _ _ => []
  | .liftDepth _ => []
  | .liftAttn _ => []
  | .voxPool _ => []
  | .warp _ => []
  | .almanacObjectWrite _ _ data => data
  | .almClone _ => []
  | .almSwitch _ _ => []
  | .almanacSwitched => []
  | .llt _ => []
  | .ldlt _ => []
  | .householderQr _ => []
  | .lu _ => []
  | .triangularSolve _ => []
  | .gaussNewton _ _ => []
  | .levenbergMarquardt _ _ => []
  | .pcg _ _ => []
  | .waveComplete _ => []
  | .tStop _ => []
  | .propagatorSample => []
  | .gnssOriginWrite _ data => data
  | .scrubberSlot _ _ _ => []
  | .scrubReq _ data => data
  | .scrubPassEnd => []
  | .errPop _ => []
  | .wtClear _ _ => []
  | .wtVerifyDone => []
  | .degradedEnd => []
  | .flipMask _ _ _ => []
  | .pcieReset _ => []
  | .pcieTrained _ _ => []
  | .pcieUncorrectable => []
  | .dpData _ acc => accData acc
  | .burstAperture _ acc => accData acc
  | .dpFence _ => []
  | .remoteTimeout _ => []
  | .dmaTail _ _ _ => []
  | .linearTransfer _ hostData => hostData.getD []
  | .copyObjectTransfer _ => []
  | .dmaTransferComplete _ => []
  | .dmaReset _ _ _ => []
  | .msixUnmask _ => []
  | .colLinkTrained _ _ _ _ => []
  | .colLinkDown _ => []
  | .colWrite _ f => f.payload
  | .colWriteAck _ f => f.payload
  | .colReadRequest _ f => f.payload
  | .colReadResponse _ f => f.payload
  | .colCairnOperation _ f => f.payload
  | .mapSel _ _ => []
  | .mapSwitch => []
  | .peerAdmit _ _ => []
  | .peerReadmission => []
  | .rangeId _ _ => []
  | .hostHb _ => []
  | .hostTmo => []
  | .registerWrite _ _ _ data => data
  | .cwShadowWrite _ _ _ data => data
  | .dwGoRead _ => []
  | .dwGoWrite _ => []
  | .deferredStart => []
  | .deferredDone => []
  | .defTimeout => []
  | .usdoDownload _ _ data _ => data
  | .usdoUpload _ _ => []
  | .usdoSegment data _ => data
  | .usdoSessionTimeout => []
  | .nmtStart => []
  | .nmtStop => []
  | .nmtEnterPreOperational => []
  | .nmtResetCommunication => []
  | .heartbeat => []
  | .udpRead req => req.payload
  | .udpWrite req => req.payload
  | .rbAdv _ _ => []
  | .fuseBurnDone => []
  | .fkRevoke _ _ _ => []
  | .mr7Extend _ data => data
  | .attGo _ => []
  | .quoteReady => []
  | .keyEnv _ data => data
  | .keyEnvelopeDone => []
  | .jtagReq _ _ => []
  | .jtagRelock _ => []
  | .jtagResp _ data => data
  | .jtagChallengeExpire => []
  | .evtPop _ => []
  | .eventFrameTx => []
  | .injReq _ _ => []
  | .injectionExpire => []
  | .lbEn _ _ => []
  | .hostRingWrite => []
  | .timebaseRecord => []
  | .rpGo _ _ => []
  | .replayRecordApply => []
  | .rpStop _ => []
  | .replayUnderrun => []
  | .sliceEnd => []
  | .startOfTransmissionError _ => []
  | .busOffRecovery _ => []
  | .canBusError _ _ => []
  | .ethLinkUp _ => []
  | .busMasterEnable _ _ => []
  | .correctableAerError => []
  | .jtagInstructionLoad _ => []
  | .replayRingRead _ => []
  | .flashWriteDone => []

end Sys2Proof
end

