-- ==== Sys2Proof/Laws/PerInstr.lean ====
section
/-! SUPPORT. The family `Wf`: what a well-formed command carries is shorter than 2^32 bytes, command by command. -/
namespace Sys2Proof.Laws.Wf

/-- A well-formed command carries fewer than 2^32 bytes. -/
def Statement (i : Instr) : Prop := i.wf = true → i.payload.length < 2 ^ 32

theorem of_empty {i : Instr} (h : i.payload = []) : Statement i := fun _ => by rw [h]; decide

theorem of_bound {d : Bytes} {n : Nat} (hn : n < 2 ^ 32) (h : dataOk n d = true) : d.length < 2 ^ 32 := by
  have := of_decide_eq_true h; omega

theorem of_opt {d : Option Bytes} {n : Nat} (hn : n < 2 ^ 32) (h : optOk n d = true) : (d.getD []).length < 2 ^ 32 := by
  cases d with
  | none => decide
  | some x => exact of_bound hn h

theorem of_acc {a : AccessKind} {n : Nat} (hn : n < 2 ^ 32) (h : accOk n a = true) : (accData a).length < 2 ^ 32 := by
  cases a with
  | read k => simp [accData]
  | write d => exact of_bound hn h

theorem porstNRelease (env : BootEnv) : Statement (.porstNRelease env) := of_empty rfl
theorem porstNAssert (lowNs : Nat) : Statement (.porstNAssert lowNs) := of_empty rfl
theorem sysrstNAssert (lowNs : Nat) (env : BootEnv) : Statement (.sysrstNAssert lowNs env) := of_empty rfl
theorem swReset (r : Route) (cr : CommitRec) (env : BootEnv) : Statement (.swReset r cr env) := of_empty rfl
theorem pllLock (clk : Fin 8) : Statement (.pllLock clk) := of_empty rfl
theorem keeperStart (testBlockOk : Bool) (trained : Bool) : Statement (.keeperStart testBlockOk trained) := of_empty rfl
theorem initPassComplete (store : Fin 169) (readBackOk : Bool) : Statement (.initPassComplete store readBackOk) := of_empty rfl
theorem bootGo (r : Route) : Statement (.bootGo r) := of_empty rfl
theorem pdOn (r : Route) (mask : BitVec 32) (other : BitVec 32) : Statement (.pdOn r mask other) := of_empty rfl
theorem pdOff (r : Route) (mask : BitVec 32) (other : BitVec 32) : Statement (.pdOff r mask other) := of_empty rfl
theorem domainSwitchDone (pd : Fin 32) : Statement (.domainSwitchDone pd) := of_empty rfl
theorem clockOutOfRange (clk : Fin 7) : Statement (.clockOutOfRange clk) := of_empty rfl
theorem xtal25Fault : Statement .xtal25Fault := of_empty rfl
theorem tjWarnExceeded (temp : Int) : Statement (.tjWarnExceeded temp) := of_empty rfl
theorem overTemperature (temp : Int) : Statement (.overTemperature temp) := of_empty rfl
theorem supplyOutOfWindow (rail : Fin 8) : Statement (.supplyOutOfWindow rail) := of_empty rfl
theorem vmonFltClear (rail : Fin 8) : Statement (.vmonFltClear rail) := of_empty rfl
theorem envHoldEnd : Statement .envHoldEnd := of_empty rfl
theorem keeperLockstepMismatch : Statement .keeperLockstepMismatch := of_empty rfl
theorem keeperWatchdog : Statement .keeperWatchdog := of_empty rfl
theorem keeperMachineCheck : Statement .keeperMachineCheck := of_empty rfl
theorem keeperRestart (digestOk : Bool) : Statement (.keeperRestart digestOk) := of_empty rfl
theorem dramStackFailure (stack : Fin 2) : Statement (.dramStackFailure stack) := of_empty rfl
theorem trngHealthFail : Statement .trngHealthFail := of_empty rfl
theorem rateAdjWrite (r : Route) (v : BitVec 32) : Statement (.rateAdjWrite r v) := of_empty rfl
theorem servoEnWrite (r : Route) (v : Bool) : Statement (.servoEnWrite r v) := of_empty rfl
theorem srcSelWrite (r : Route) (v : BitVec 8) : Statement (.srcSelWrite r v) := of_empty rfl
theorem sync (p : Fin 16) (m : PtpMsg) : Statement (.sync p m) := of_empty rfl
theorem followUp (p : Fin 16) (m : PtpMsg) : Statement (.followUp p m) := of_empty rfl
theorem pdelayReq (p : Fin 16) (m : PtpMsg) : Statement (.pdelayReq p m) := of_empty rfl
theorem pdelayResp (p : Fin 16) (m : PtpMsg) : Statement (.pdelayResp p m) := of_empty rfl
theorem pdelayRespFollowUp (p : Fin 16) (m : PtpMsg) : Statement (.pdelayRespFollowUp p m) := of_empty rfl
theorem announce (p : Fin 16) (m : PtpMsg) : Statement (.announce p m) := of_empty rfl
theorem announceReceiptTimeout (p : Fin 16) : Statement (.announceReceiptTimeout p) := of_empty rfl
theorem announceTx (p : Fin 16) : Statement (.announceTx p) := of_empty rfl
theorem syncTx (p : Fin 16) : Statement (.syncTx p) := of_empty rfl
theorem pdelayReqTx (p : Fin 16) : Statement (.pdelayReqTx p) := of_empty rfl
theorem sourceLoss : Statement .sourceLoss := of_empty rfl
theorem ppsEdge (n : Fin 4) (rising : Bool) (hold : Nat) : Statement (.ppsEdge n rising hold) := of_empty rfl
theorem restep (r : Route) (cr : CommitRec) : Statement (.restep r cr) := of_empty rfl
theorem asym (r : Route) (p : Fin 16) (cr : CommitRec) : Statement (.asym r p cr) := of_empty rfl
theorem cwParamCommit (r : Route) (t : CwParam) (cr : CommitRec) : Statement (.cwParamCommit r t cr) := of_empty rfl
theorem lockoutEnd : Statement .lockoutEnd := of_empty rfl
theorem launchFrameSubmit (p : Fin 16) (launch : BitVec 128) (data : Bytes) (stamp : Option (BitVec 16)) : Statement (.launchFrameSubmit p launch data stamp) := fun h => of_bound (by decide) h
theorem launchTimeReached (p : Fin 16) (busy : Bool) : Statement (.launchTimeReached p busy) := of_empty rfl
theorem frameTransmit (p : Fin 16) (data : Bytes) (stamp : Option (BitVec 16)) : Statement (.frameTransmit p data stamp) := fun h => of_bound (by decide) h
theorem tsPop (r : Route) (p : Fin 16) : Statement (.tsPop r p) := of_empty rfl
theorem tioStartWrite (r : Route) (n : Fin 16) (which : TioField) (data : Bytes) : Statement (.tioStartWrite r n which data) := fun h => of_bound (by decide) h
theorem tioPulse (n : Fin 16) : Statement (.tioPulse n) := of_empty rfl
theorem tioPulseEnd (n : Fin 16) : Statement (.tioPulseEnd n) := of_empty rfl
theorem tioEdge (n : Fin 16) (rising : Bool) (hold : Nat) (pairToo : Bool) : Statement (.tioEdge n rising hold pairToo) := of_empty rfl
theorem csi2FrameStart (p : Fin 32) (vc : Fin 4) (hdr : HdrEcc) (num : BitVec 16) : Statement (.csi2FrameStart p vc hdr num) := of_empty rfl
theorem csi2LongPacket (p : Fin 32) (vc : Fin 4) (hdr : HdrEcc) (dt : BitVec 6) (crcOk : Bool) (data : Bytes) : Statement (.csi2LongPacket p vc hdr dt crcOk data) := fun h => of_bound (by decide) h
theorem csi2FrameEnd (p : Fin 32) (vc : Fin 4) (hdr : HdrEcc) (num : BitVec 16) : Statement (.csi2FrameEnd p vc hdr num) := of_empty rfl
theorem ethFrameRx (p : Fin 16) (fcsOk : Bool) (frame : Bytes) : Statement (.ethFrameRx p fcsOk frame) := fun h => of_bound (by decide) h
theorem canFrameRx (c : Fin 4) (id : BitVec 29) (data : Bytes) : Statement (.canFrameRx c id data) := fun h => of_bound (by decide) h
theorem spiDataReady (m : Fin 4) (hold : Nat) : Statement (.spiDataReady m hold) := of_empty rfl
theorem spiTransferDone (m : Fin 4) (data : Bytes) : Statement (.spiTransferDone m data) := fun h => of_bound (by decide) h
theorem uartSentence (u : Fin 2) (startNs : Nat) (text : Bytes) (framingOk : Bool) : Statement (.uartSentence u startNs text framingOk) := fun h => of_bound (by decide) h
theorem encoderSample (slot : Fin 96) : Statement (.encoderSample slot) := of_empty rfl
theorem slotEn (r : Route) (slot : Fin 96) (v : Bool) : Statement (.slotEn r slot v) := of_empty rfl
theorem stale (slot : Fin 96) : Statement (.stale slot) := of_empty rfl
theorem dead (slot : Fin 96) : Statement (.dead slot) := of_empty rfl
theorem portSettingApply (port : PortRef) : Statement (.portSettingApply port) := of_empty rfl
theorem ethLinkDown (p : Fin 16) : Statement (.ethLinkDown p) := of_empty rfl
theorem canBusOff (c : Fin 4) : Statement (.canBusOff c) := of_empty rfl
theorem talusPointTake : Statement .talusPointTake := of_empty rfl
theorem setClose : Statement .setClose := of_empty rfl
theorem octreeBuildDone : Statement .octreeBuildDone := of_empty rfl
theorem rulebookTileDone : Statement .rulebookTileDone := of_empty rfl
theorem rulebookBuildDone : Statement .rulebookBuildDone := of_empty rfl
theorem setRelease (buf : Fin 3) : Statement (.setRelease buf) := of_empty rfl
theorem poseRingWrite (e : BitVec 1024) : Statement (.poseRingWrite e) := of_empty rfl
theorem sentinelPointTake : Statement .sentinelPointTake := of_empty rfl
theorem sliceClose : Statement .sliceClose := of_empty rfl
theorem sliceResult : Statement .sliceResult := of_empty rfl
theorem exchangeFrameRx (rid : Fin 8) (slice : BitVec 64) (hostLive : Bool) (failed : Bool) (map : Fin 8) (recs : List (BitVec 64)) : Statement (.exchangeFrameRx rid slice hostLive failed map recs) := of_empty rfl
theorem peerUnreachable (rid : Fin 8) : Statement (.peerUnreachable rid) := of_empty rfl
theorem evidenceExpiry (group : Fin 262144) : Statement (.evidenceExpiry group) := of_empty rfl
theorem plateClearDone : Statement .plateClearDone := of_empty rfl
theorem corCommit (r : Route) : Statement (.corCommit r) := of_empty rfl
theorem corridorCurrent : Statement .corridorCurrent := of_empty rfl
theorem corridorStale : Statement .corridorStale := of_empty rfl
theorem suspectMaskClear (r : Route) (mask : BitVec 96) : Statement (.suspectMaskClear r mask) := of_empty rfl
theorem comparatorMismatch : Statement .comparatorMismatch := of_empty rfl
theorem snclkOutOfRange : Statement .snclkOutOfRange := of_empty rfl
theorem resultMissing : Statement .resultMissing := of_empty rfl
theorem fixedEmitterResult : Statement .fixedEmitterResult := of_empty rfl
theorem sntRestart (r : Route) (cr : CommitRec) : Statement (.sntRestart r cr) := of_empty rfl
theorem selfTestDone (ok : Bool) : Statement (.selfTestDone ok) := of_empty rfl
theorem sntHb : Statement .sntHb := of_empty rfl
theorem safeHoldExpiry : Statement .safeHoldExpiry := of_empty rfl
theorem hazardFrameWindow (busy : Bool) : Statement (.hazardFrameWindow busy) := of_empty rfl
theorem hazardFrameWithdraw : Statement .hazardFrameWithdraw := of_empty rfl
theorem illegalClass (n : Fin 128) (w : BitVec 64) : Statement (.illegalClass n w) := of_empty rfl
theorem illegalOp (n : Fin 128) (w : BitVec 64) : Statement (.illegalOp n w) := of_empty rfl
theorem nop (n : Fin 128) (f : BitVec 54) : Statement (.nop n f) := of_empty rfl
theorem jmp (n : Fin 128) (f : BitVec 54) : Statement (.jmp n f) := of_empty rfl
theorem loop (n : Fin 128) (f : BitVec 54) : Statement (.loop n f) := of_empty rfl
theorem setl (n : Fin 128) (f : BitVec 54) : Statement (.setl n f) := of_empty rfl
theorem seta (n : Fin 128) (f : BitVec 54) : Statement (.seta n f) := of_empty rfl
theorem eot (n : Fin 128) (f : BitVec 54) : Statement (.eot n f) := of_empty rfl
theorem trap (n : Fin 128) (f : BitVec 54) : Statement (.trap n f) := of_empty rfl
theorem wld (n : Fin 128) (f : BitVec 54) (far : Option Bytes) : Statement (.wld n f far) := fun h => of_opt (by decide) h
theorem wldt (n : Fin 128) (f : BitVec 54) (far : Option Bytes) : Statement (.wldt n f far) := fun h => of_opt (by decide) h
theorem mac (n : Fin 128) (f : BitVec 54) (far : Option Bytes) : Statement (.mac n f far) := fun h => of_opt (by decide) h
theorem fadd (n : Fin 128) (f : BitVec 54) : Statement (.fadd n f) := of_empty rfl
theorem fsub (n : Fin 128) (f : BitVec 54) : Statement (.fsub n f) := of_empty rfl
theorem fmul (n : Fin 128) (f : BitVec 54) : Statement (.fmul n f) := of_empty rfl
theorem fma (n : Fin 128) (f : BitVec 54) : Statement (.fma n f) := of_empty rfl
theorem fmin (n : Fin 128) (f : BitVec 54) : Statement (.fmin n f) := of_empty rfl
theorem fmax (n : Fin 128) (f : BitVec 54) : Statement (.fmax n f) := of_empty rfl
theorem fabs (n : Fin 128) (f : BitVec 54) : Statement (.fabs n f) := of_empty rfl
theorem fneg (n : Fin 128) (f : BitVec 54) : Statement (.fneg n f) := of_empty rfl
theorem fcmp (n : Fin 128) (f : BitVec 54) : Statement (.fcmp n f) := of_empty rfl
theorem sel (n : Fin 128) (f : BitVec 54) : Statement (.sel n f) := of_empty rfl
theorem rcp (n : Fin 128) (f : BitVec 54) : Statement (.rcp n f) := of_empty rfl
theorem rsq (n : Fin 128) (f : BitVec 54) : Statement (.rsq n f) := of_empty rfl
theorem exp2 (n : Fin 128) (f : BitVec 54) : Statement (.exp2 n f) := of_empty rfl
theorem log2 (n : Fin 128) (f : BitVec 54) : Statement (.log2 n f) := of_empty rfl
theorem cvt (n : Fin 128) (f : BitVec 54) : Statement (.cvt n f) := of_empty rfl
theorem qmx (n : Fin 128) (f : BitVec 54) : Statement (.qmx n f) := of_empty rfl
theorem itof (n : Fin 128) (f : BitVec 54) : Statement (.itof n f) := of_empty rfl
theorem fimm (n : Fin 128) (f : BitVec 54) : Statement (.fimm n f) := of_empty rfl
theorem iadd (n : Fin 128) (f : BitVec 54) : Statement (.iadd n f) := of_empty rfl
theorem isub (n : Fin 128) (f : BitVec 54) : Statement (.isub n f) := of_empty rfl
theorem imul (n : Fin 128) (f : BitVec 54) : Statement (.imul n f) := of_empty rfl
theorem isatadd (n : Fin 128) (f : BitVec 54) : Statement (.isatadd n f) := of_empty rfl
theorem andOp (n : Fin 128) (f : BitVec 54) : Statement (.andOp n f) := of_empty rfl
theorem orOp (n : Fin 128) (f : BitVec 54) : Statement (.orOp n f) := of_empty rfl
theorem xorOp (n : Fin 128) (f : BitVec 54) : Statement (.xorOp n f) := of_empty rfl
theorem shl (n : Fin 128) (f : BitVec 54) : Statement (.shl n f) := of_empty rfl
theorem shr (n : Fin 128) (f : BitVec 54) : Statement (.shr n f) := of_empty rfl
theorem icmp (n : Fin 128) (f : BitVec 54) : Statement (.icmp n f) := of_empty rfl
theorem ldv (n : Fin 128) (f : BitVec 54) (far : Option Bytes) : Statement (.ldv n f far) := fun h => of_opt (by decide) h
theorem stv (n : Fin 128) (f : BitVec 54) : Statement (.stv n f) := of_empty rfl
theorem ldp (n : Fin 128) (f : BitVec 54) (far : Option Bytes) : Statement (.ldp n f far) := fun h => of_opt (by decide) h
theorem stp (n : Fin 128) (f : BitVec 54) : Statement (.stp n f) := of_empty rfl
theorem accrd (n : Fin 128) (f : BitVec 54) : Statement (.accrd n f) := of_empty rfl
theorem accwr (n : Fin 128) (f : BitVec 54) : Statement (.accwr n f) := of_empty rfl
theorem adda (n : Fin 128) (f : BitVec 54) : Statement (.adda n f) := of_empty rfl
theorem stsc (n : Fin 128) (f : BitVec 54) : Statement (.stsc n f) := of_empty rfl
theorem mova (n : Fin 128) (f : BitVec 54) : Statement (.mova n f) := of_empty rfl
theorem gath (n : Fin 128) (f : BitVec 54) (far : Option Bytes) : Statement (.gath n f far) := fun h => of_opt (by decide) h
theorem scat (n : Fin 128) (f : BitVec 54) (far : Option Bytes) : Statement (.scat n f far) := fun h => of_opt (by decide) h
theorem scata (n : Fin 128) (f : BitVec 54) (far : Option Bytes) : Statement (.scata n f far) := fun h => of_opt (by decide) h
theorem fence (n : Fin 128) (f : BitVec 54) : Statement (.fence n f) := of_empty rfl
theorem fenceComplete (n : Fin 128) : Statement (.fenceComplete n) := of_empty rfl
theorem pipeComplete (n : Fin 128) (p : Pipe) : Statement (.pipeComplete n p) := of_empty rfl
theorem srReseed (n : Fin 128) : Statement (.srReseed n) := of_empty rfl
theorem sigadd (src : CairnSrc) (f : BitVec 54) : Statement (.sigadd src f) := of_empty rfl
theorem sigset (src : CairnSrc) (f : BitVec 54) : Statement (.sigset src f) := of_empty rfl
theorem waitge (src : CairnSrc) (f : BitVec 54) (tmoUs : Nat) : Statement (.waitge src f tmoUs) := of_empty rfl
theorem waiteq (src : CairnSrc) (f : BitVec 54) (tmoUs : Nat) : Statement (.waiteq src f tmoUs) := of_empty rfl
theorem waitbit (src : CairnSrc) (f : BitVec 54) (tmoUs : Nat) : Statement (.waitbit src f tmoUs) := of_empty rfl
theorem waiterWake (agent : BitVec 16) : Statement (.waiterWake agent) := of_empty rfl
theorem waitTimeout (w : Fin 8192) : Statement (.waitTimeout w) := of_empty rfl
theorem arm (agent : BitVec 16) (c : Fin 16384) (v : BitVec 32) (whole : Bool) : Statement (.arm agent c v whole) := of_empty rfl
theorem notifyWrite (c : Fin 16384) (v : BitVec 64) (whole : Bool) : Statement (.notifyWrite c v whole) := of_empty rfl
theorem claim (r : Route) (c : BitVec 16) : Statement (.claim r c) := of_empty rfl
theorem unclaim (r : Route) (c : BitVec 16) : Statement (.unclaim r c) := of_empty rfl
theorem hwReq (r : Route) (data : Bytes) : Statement (.hwReq r data) := fun h => of_bound (by decide) h
theorem hwCancel (r : Route) (v : Bool) : Statement (.hwCancel r v) := of_empty rfl
theorem cairnRecordError (c : Fin 16384) : Statement (.cairnRecordError c) := of_empty rfl
theorem waiterRecordParity (w : Fin 8192) : Statement (.waiterRecordParity w) := of_empty rfl
theorem qPush (q : Fin 256) (agent : BitVec 16) (data : Bytes) (poison : Bool) : Statement (.qPush q agent data poison) := fun h => of_bound (by decide) h
theorem qPop (q : Fin 256) (agent : BitVec 16) (words : Fin 257) : Statement (.qPop q agent words) := of_empty rfl
theorem popResume (q : Fin 256) : Statement (.popResume q) := of_empty rfl
theorem qemptyTo (q : Fin 256) : Statement (.qemptyTo q) := of_empty rfl
theorem qCommit (q : Fin 256) (agent : BitVec 16) (v : Bool) : Statement (.qCommit q agent v) := of_empty rfl
theorem qAbort (q : Fin 256) (agent : BitVec 16) (v : Bool) : Statement (.qAbort q agent v) := of_empty rfl
theorem qMark (q : Fin 256) (agent : BitVec 16) (v : Bool) : Statement (.qMark q agent v) := of_empty rfl
theorem qRewind (q : Fin 256) (agent : BitVec 16) (v : Bool) : Statement (.qRewind q agent v) := of_empty rfl
theorem qRelease (q : Fin 256) (agent : BitVec 16) (v : Bool) : Statement (.qRelease q agent v) := of_empty rfl
theorem qFlush (r : Route) (q : Fin 256) (cr : CommitRec) : Statement (.qFlush r q cr) := of_empty rfl
theorem qPeak (r : Route) (q : Fin 256) : Statement (.qPeak r q) := of_empty rfl
theorem queuePointerMismatch (q : Fin 256) : Statement (.queuePointerMismatch q) := of_empty rfl
theorem allocNew (r : Route) (data : Bytes) : Statement (.allocNew r data) := fun h => of_bound (by decide) h
theorem allocFree (r : Route) (id : BitVec 16) : Statement (.allocFree r id) := of_empty rfl
theorem descNew (r : Route) (data : Bytes) : Statement (.descNew r data) := fun h => of_bound (by decide) h
theorem descFree (r : Route) (h : BitVec 32) : Statement (.descFree r h) := of_empty rfl
theorem copyNew (r : Route) (data : Bytes) : Statement (.copyNew r data) := fun h => of_bound (by decide) h
theorem copyFree (r : Route) (id : BitVec 16) : Statement (.copyFree r id) := of_empty rfl
theorem imgLoad (r : Route) : Statement (.imgLoad r) := of_empty rfl
theorem admissionComplete (x : ImageExtra) : Statement (.admissionComplete x) := of_empty rfl
theorem epochInstant : Statement .epochInstant := of_empty rfl
theorem instanceOrigin (c : Fin 8) : Statement (.instanceOrigin c) := of_empty rfl
theorem startMin (c : Fin 8) (inst : Nat) (t : BitVec 16) : Statement (.startMin c inst t) := of_empty rfl
theorem inputResolve (c : Fin 8) (inst : Nat) (t : BitVec 16) (k : Fin 8) : Statement (.inputResolve c inst t k) := of_empty rfl
theorem inDl (c : Fin 8) (inst : Nat) (t : BitVec 16) (k : Fin 8) : Statement (.inDl c inst t k) := of_empty rfl
theorem taskDispatch (c : Fin 8) (inst : Nat) (t : BitVec 16) : Statement (.taskDispatch c inst t) := of_empty rfl
theorem taskComplete (c : Fin 8) (inst : Nat) (t : BitVec 16) : Statement (.taskComplete c inst t) := of_empty rfl
theorem taskAbort (c : Fin 8) (inst : Nat) (t : BitVec 16) : Statement (.taskAbort c inst t) := of_empty rfl
theorem instanceEmpty (c : Fin 8) (inst : Nat) : Statement (.instanceEmpty c inst) := of_empty rfl
theorem deepResult (peer : List PeerStream) : Statement (.deepResult peer) := of_empty rfl
theorem stoppedDeepResult : Statement .stoppedDeepResult := of_empty rfl
theorem resourceAccess (res : BitVec 16) (slot : Fin 1024) (agent : BitVec 16) (addr : BitVec 48) (acc : AccessKind) (poison : Bool) : Statement (.resourceAccess res slot agent addr acc poison) := fun h => of_acc (by decide) h
theorem slotTableParity (res : BitVec 16) (slot : Fin 1024) : Statement (.slotTableParity res slot) := of_empty rfl
theorem gateRewrite (res : BitVec 16) (slot : Fin 1024) : Statement (.gateRewrite res slot) := of_empty rfl
theorem liftDepth (spec : Fin 32) : Statement (.liftDepth spec) := of_empty rfl
theorem liftAttn (spec : Fin 32) : Statement (.liftAttn spec) := of_empty rfl
theorem voxPool (spec : Fin 32) : Statement (.voxPool spec) := of_empty rfl
theorem warp (spec : Fin 32) : Statement (.warp spec) := of_empty rfl
theorem almanacObjectWrite (r : Route) (idx : BitVec 16) (data : Bytes) : Statement (.almanacObjectWrite r idx data) := fun h => of_bound (by decide) h
theorem almClone (r : Route) : Statement (.almClone r) := of_empty rfl
theorem almSwitch (r : Route) (cr : CommitRec) : Statement (.almSwitch r cr) := of_empty rfl
theorem almanacSwitched : Statement .almanacSwitched := of_empty rfl
theorem llt (u : Fin 2) : Statement (.llt u) := of_empty rfl
theorem ldlt (u : Fin 2) : Statement (.ldlt u) := of_empty rfl
theorem householderQr (u : Fin 2) : Statement (.householderQr u) := of_empty rfl
theorem lu (u : Fin 2) : Statement (.lu u) := of_empty rfl
theorem triangularSolve (u : Fin 2) : Statement (.triangularSolve u) := of_empty rfl
theorem gaussNewton (u : Fin 2) (iters : Fin 256) : Statement (.gaussNewton u iters) := of_empty rfl
theorem levenbergMarquardt (u : Fin 2) (iters : Fin 256) : Statement (.levenbergMarquardt u iters) := of_empty rfl
theorem pcg (u : Fin 2) (iters : Fin 256) : Statement (.pcg u iters) := of_empty rfl
theorem waveComplete (u : Fin 2) : Statement (.waveComplete u) := of_empty rfl
theorem tStop (u : Fin 2) : Statement (.tStop u) := of_empty rfl
theorem propagatorSample : Statement .propagatorSample := of_empty rfl
theorem gnssOriginWrite (r : Route) (data : Bytes) : Statement (.gnssOriginWrite r data) := fun h => of_bound (by decide) h
theorem scrubberSlot (k : Fin 3) (chan : Fin 16) (upset : BitVec 144) : Statement (.scrubberSlot k chan upset) := of_empty rfl
theorem scrubReq (r : Route) (data : Bytes) : Statement (.scrubReq r data) := fun h => of_bound (by decide) h
theorem scrubPassEnd : Statement .scrubPassEnd := of_empty rfl
theorem errPop (r : Route) : Statement (.errPop r) := of_empty rfl
theorem wtClear (r : Route) (id : BitVec 16) : Statement (.wtClear r id) := of_empty rfl
theorem wtVerifyDone : Statement .wtVerifyDone := of_empty rfl
theorem degradedEnd : Statement .degradedEnd := of_empty rfl
theorem flipMask (r : Route) (cls : Fin 12) (cr : CommitRec) : Statement (.flipMask r cls cr) := of_empty rfl
theorem pcieReset (kind : PcieResetKind) : Statement (.pcieReset kind) := of_empty rfl
theorem pcieTrained (gen : Fin 5) (width : Fin 9) : Statement (.pcieTrained gen width) := of_empty rfl
theorem pcieUncorrectable : Statement .pcieUncorrectable := of_empty rfl
theorem dpData (whole : Bool) (acc : AccessKind) : Statement (.dpData whole acc) := fun h => of_acc (by decide) h
theorem burstAperture (off : Fin 65536) (acc : AccessKind) : Statement (.burstAperture off acc) := fun h => of_acc (by omega) h
theorem dpFence (r : Route) : Statement (.dpFence r) := of_empty rfl
theorem remoteTimeout (tag : BitVec 16) : Statement (.remoteTimeout tag) := of_empty rfl
theorem dmaTail (r : Route) (c : Fin 64) (v : BitVec 32) : Statement (.dmaTail r c v) := of_empty rfl
theorem linearTransfer (c : Fin 64) (hostData : Option Bytes) : Statement (.linearTransfer c hostData) := fun h => of_opt (by decide) h
theorem copyObjectTransfer (c : Fin 64) : Statement (.copyObjectTransfer c) := of_empty rfl
theorem dmaTransferComplete (c : Fin 64) : Statement (.dmaTransferComplete c) := of_empty rfl
theorem dmaReset (r : Route) (c : Fin 64) (v : Bool) : Statement (.dmaReset r c v) := of_empty rfl
theorem msixUnmask (v : Fin 256) : Statement (.msixUnmask v) := of_empty rfl
theorem colLinkTrained (l : Fin 6) (peer : Fin 8) (image : BitVec 64) (variant : Fin 4) : Statement (.colLinkTrained l peer image variant) := of_empty rfl
theorem colLinkDown (l : Fin 6) : Statement (.colLinkDown l) := of_empty rfl
theorem colWrite (l : Fin 6) (f : Flit) : Statement (.colWrite l f) := fun h => of_bound (by decide) h
theorem colWriteAck (l : Fin 6) (f : Flit) : Statement (.colWriteAck l f) := fun h => of_bound (by decide) h
theorem colReadRequest (l : Fin 6) (f : Flit) : Statement (.colReadRequest l f) := fun h => of_bound (by decide) h
theorem colReadResponse (l : Fin 6) (f : Flit) : Statement (.colReadResponse l f) := fun h => of_bound (by decide) h
theorem colCairnOperation (l : Fin 6) (f : Flit) : Statement (.colCairnOperation l f) := fun h => of_bound (by decide) h
theorem mapSel (r : Route) (cr : CommitRec) : Statement (.mapSel r cr) := of_empty rfl
theorem mapSwitch : Statement .mapSwitch := of_empty rfl
theorem peerAdmit (r : Route) (cr : CommitRec) : Statement (.peerAdmit r cr) := of_empty rfl
theorem peerReadmission : Statement .peerReadmission := of_empty rfl
theorem rangeId (r : Route) (cr : CommitRec) : Statement (.rangeId r cr) := of_empty rfl
theorem hostHb (r : Route) : Statement (.hostHb r) := of_empty rfl
theorem hostTmo : Statement .hostTmo := of_empty rfl
theorem registerWrite (r : Route) (idx : BitVec 16) (sub : BitVec 8) (data : Bytes) : Statement (.registerWrite r idx sub data) := fun h => of_bound (by decide) h
theorem cwShadowWrite (r : Route) (idx : BitVec 16) (sub : BitVec 8) (data : Bytes) : Statement (.cwShadowWrite r idx sub data) := fun h => of_bound (by decide) h
theorem dwGoRead (r : Route) : Statement (.dwGoRead r) := of_empty rfl
theorem dwGoWrite (r : Route) : Statement (.dwGoWrite r) := of_empty rfl
theorem deferredStart : Statement .deferredStart := of_empty rfl
theorem deferredDone : Statement .deferredDone := of_empty rfl
theorem defTimeout : Statement .defTimeout := of_empty rfl
theorem usdoDownload (idx : BitVec 16) (sub : BitVec 8) (data : Bytes) (last : Bool) : Statement (.usdoDownload idx sub data last) := fun h => of_bound (by decide) h
theorem usdoUpload (idx : BitVec 16) (sub : BitVec 8) : Statement (.usdoUpload idx sub) := of_empty rfl
theorem usdoSegment (data : Bytes) (last : Bool) : Statement (.usdoSegment data last) := fun h => of_bound (by decide) h
theorem usdoSessionTimeout : Statement .usdoSessionTimeout := of_empty rfl
theorem nmtStart : Statement .nmtStart := of_empty rfl
theorem nmtStop : Statement .nmtStop := of_empty rfl
theorem nmtEnterPreOperational : Statement .nmtEnterPreOperational := of_empty rfl
theorem nmtResetCommunication : Statement .nmtResetCommunication := of_empty rfl
theorem heartbeat : Statement .heartbeat := of_empty rfl
theorem udpRead (req : UdpReq) : Statement (.udpRead req) := fun h => of_bound (by decide) h
theorem udpWrite (req : UdpReq) : Statement (.udpWrite req) := fun h => of_bound (by decide) h
theorem rbAdv (r : Route) (cr : CommitRec) : Statement (.rbAdv r cr) := of_empty rfl
theorem fuseBurnDone : Statement .fuseBurnDone := of_empty rfl
theorem fkRevoke (r : Route) (slot : Fin 4) (cr : CommitRec) : Statement (.fkRevoke r slot cr) := of_empty rfl
theorem mr7Extend (r : Route) (data : Bytes) : Statement (.mr7Extend r data) := fun h => of_bound (by decide) h
theorem attGo (r : Route) : Statement (.attGo r) := of_empty rfl
theorem quoteReady : Statement .quoteReady := of_empty rfl
theorem keyEnv (r : Route) (data : Bytes) : Statement (.keyEnv r data) := fun h => of_bound (by decide) h
theorem keyEnvelopeDone : Statement .keyEnvelopeDone := of_empty rfl
theorem jtagReq (r : Route) (level : Fin 3) : Statement (.jtagReq r level) := of_empty rfl
theorem jtagRelock (r : Route) : Statement (.jtagRelock r) := of_empty rfl
theorem jtagResp (r : Route) (data : Bytes) : Statement (.jtagResp r data) := fun h => of_bound (by decide) h
theorem jtagChallengeExpire : Statement .jtagChallengeExpire := of_empty rfl
theorem evtPop (r : Route) : Statement (.evtPop r) := of_empty rfl
theorem eventFrameTx : Statement .eventFrameTx := of_empty rfl
theorem injReq (r : Route) (cr : CommitRec) : Statement (.injReq r cr) := of_empty rfl
theorem injectionExpire : Statement .injectionExpire := of_empty rfl
theorem lbEn (r : Route) (v : Bool) : Statement (.lbEn r v) := of_empty rfl
theorem hostRingWrite : Statement .hostRingWrite := of_empty rfl
theorem timebaseRecord : Statement .timebaseRecord := of_empty rfl
theorem rpGo (r : Route) (cr : CommitRec) : Statement (.rpGo r cr) := of_empty rfl
theorem replayRecordApply : Statement .replayRecordApply := of_empty rfl
theorem rpStop (r : Route) : Statement (.rpStop r) := of_empty rfl
theorem replayUnderrun : Statement .replayUnderrun := of_empty rfl
theorem sliceEnd : Statement .sliceEnd := of_empty rfl
theorem startOfTransmissionError (p : Fin 32) : Statement (.startOfTransmissionError p) := of_empty rfl
theorem busOffRecovery (c : Fin 4) : Statement (.busOffRecovery c) := of_empty rfl
theorem canBusError (c : Fin 4) (passive : Bool) : Statement (.canBusError c passive) := of_empty rfl
theorem ethLinkUp (p : Fin 16) : Statement (.ethLinkUp p) := of_empty rfl
theorem busMasterEnable (bme : Bool) (d0 : Bool) : Statement (.busMasterEnable bme d0) := of_empty rfl
theorem correctableAerError : Statement .correctableAerError := of_empty rfl
theorem jtagInstructionLoad (instr : JtagInstr) : Statement (.jtagInstructionLoad instr) := of_empty rfl
theorem replayRingRead (recs : Option (List LbRec)) : Statement (.replayRingRead recs) := of_empty rfl
theorem flashWriteDone : Statement .flashWriteDone := of_empty rfl

end Sys2Proof.Laws.Wf
end

