-- ==== Sys2Proof/Laws/Spur.lean ====
section
/-! SUPPORT. What a spur's instruction of each shape does once its word is issued. -/
namespace Sys2Proof.Machine
open Sys2Proof.Laws

variable (s : State) {n op f : Nat}

theorem State.spurCtrl_taken {body : State → Nat → State} (h : s.issues n (spurWord 0 op f)) :
    s.spurCtrl n op f body = body s (spurWord 0 op f) := by
  simp only [State.spurCtrl, State.spurIssue_taken _ h]

theorem State.spurVec_taken {src : List Nat} {g : Spur → Nat → Nat} (h : s.issues n (spurWord 2 op f)) :
    s.spurVec n op f src g = s.lanesTo n op f src g := by
  simp only [State.spurVec, State.spurIssue_taken _ h, State.lanesTo]

theorem State.spurVec1_taken {g : Nat → Nat} (h : s.issues n (spurWord 2 op f)) :
    s.spurVec1 n op f g = s.lanesTo n op f [fVA f] fun x i => g (laneOf (x.vec (fVA f)) i) := s.spurVec_taken h

theorem State.spurVec2_taken {g : Nat → Nat → Nat} (h : s.issues n (spurWord 2 op f)) :
    s.spurVec2 n op f g = s.lanesTo n op f [fVA f, fVB f] fun x i => g (laneOf (x.vec (fVA f)) i) (laneOf (x.vec (fVB f)) i) :=
  s.spurVec_taken h

theorem State.spurCmp_taken {g : Nat → Nat → Nat → Option Bool} (h : s.issues n (spurWord 2 op f)) :
    s.spurCmp n op f g = s.maskTo n op f g := by
  simp only [State.spurCmp, State.spurIssue_taken _ h, State.maskTo]

theorem State.spurMove_taken {g : Spur → Spur} (h : s.issues n (spurWord 3 op f)) :
    s.spurMove n op f g = (s.mapSpur n g).spurNext n (spurWord 3 op f) .move := by
  simp only [State.spurMove, State.spurIssue_taken _ h]

theorem State.spurLoad_ok {w a k : Nat} {far : Option Bytes} {g : State → Bytes → Bool → State}
    (h : (s.devRead n a k far).st = .ok) :
    s.spurLoad n w a k far g = g (s.devRead n a k far).s (s.devRead n a k far).data (s.devRead n a k far).poison := by
  simp only [State.spurLoad, h]

theorem State.spurStore_ok {w a : Nat} {d : Bytes} {p : Bool} {t : State} (h : s.devWrite n a d p = (.ok, t)) :
    s.spurStore n w a d p = (t.spurStored n p).spurNext n w .move := by
  simp only [State.spurStore, h]

theorem State.spurLdv_taken {k : Nat} {far : Option Bytes} {lanes : Bytes → Nat} (h : s.issues n (spurWord 3 op f))
    (hr : (s.devRead n ((s.spur n).movAddr f) k far).st = .ok) :
    s.spurLdv n op f k far lanes =
      let r := s.devRead n ((s.spur n).movAddr f) k far
      (r.s.mapSpur n fun x => x.putVec (fMV f) (x.mask (fMask f)) (lanes r.data) r.poison).spurNext n (spurWord 3 op f) .move := by
  simp only [State.spurLdv, State.spurIssue_taken _ h, State.spurLoad_ok _ hr]

theorem State.spurStv_taken {get : Spur → Bytes} {t : State} (h : s.issues n (spurWord 3 op f))
    (hw : s.devWrite n ((s.spur n).movAddr f) (get (s.spur n)) ((s.spur n).vP.testBit (fMV f)) = (.ok, t)) :
    s.spurStv n op f get = (t.spurStored n ((s.spur n).vP.testBit (fMV f))).spurNext n (spurWord 3 op f) .move := by
  simp only [State.spurStv, State.spurIssue_taken _ h, State.spurStore_ok _ hw]

theorem State.spurWld_taken {far : Option Bytes} {arrange : Nat → Bytes → Bytes} (h : s.issues n (spurWord 1 op f))
    (hf : fMmaFmt f < 0xC) (hm : isMx (fMmaFmt f) = false)
    (hr : (s.devRead n ((s.spur n).addr (fAin f)) (32 * rowBytes (fMmaFmt f)) far).st = .ok) :
    s.spurWld n op f far arrange =
      let r := s.devRead n ((s.spur n).addr (fAin f)) (32 * rowBytes (fMmaFmt f)) far
      r.s.putTile n op f arrange r.data [] r.poison := by
  have h1 : ¬ 0xC ≤ fMmaFmt f := by omega
  simp only [State.spurWld, State.spurIssue_taken _ h, h1, hr, hm, if_false, Bool.not_false, if_true]

theorem State.spurMac_taken {far : Option Bytes} {t : State} (h : s.issues n (spurWord 1 3 f)) (hf : fMmaFmt f < 0xC)
    (hm : fmtMatch (fMmaFmt f) ((s.spur n).wbuf (fWb f)).fmt = true) (ha : fAcc f + fRows f ≤ 512)
    (hr : s.macRows n f (fRows f) 0 far = some t) : s.spurMac n f far = t := by
  have h1 : ¬ 0xC ≤ fMmaFmt f := by omega
  have h2 : ¬ 512 < fAcc f + fRows f := by omega
  simp [State.spurMac, State.spurIssue_taken _ h, h1, h2, hm, hr]

theorem State.spurList_taken {o : ListOp} {far : Option Bytes} {d : Nat} {t : State} (h : s.issues n (spurWord 4 o.code f))
    (hd : s.listDesc n f o = some d) (hr : s.listRun o n f d (fCnt f) 0 far = some t) : s.spurList o n f far = t := by
  simp [State.spurList, State.spurIssue_taken _ h, hd, hr]

theorem State.wait_now {a c cond target tmo : Nat} {vec : Option Nat} (h : (s.cairn c).cstate = .armed)
    (hc : condHolds cond (s.cairn c).value target = true) : s.wait a c cond target tmo vec = (s, some .ok) := by
  simp [State.wait, h, hc]

theorem State.wait_poison {a c cond target tmo : Nat} {vec : Option Nat} (h : (s.cairn c).cstate ≠ .armed) :
    s.wait a c cond target tmo vec = (s, some .poison) := by
  simp [State.wait, h]

theorem State.spurWait_now {cond : Nat} (h : s.issues n (spurWord 6 op f)) (ha : (s.cairn (fCairn f)).cstate = .armed)
    (hc : condHolds cond (s.cairn (fCairn f)).value (fVal f) = true) :
    s.spurWait n op f cond = s.spurNext n (spurWord 6 op f) .control := by
  simp only [State.spurWait, State.spurIssue_taken _ h, State.wait_now _ ha hc]

theorem State.spurWait_poison {cond : Nat} (h : s.issues n (spurWord 6 op f)) (ha : (s.cairn (fCairn f)).cstate ≠ .armed) :
    s.spurWait n op f cond = s.spurFail n := by
  simp only [State.spurWait, State.spurIssue_taken _ h, State.wait_poison _ ha]

end Sys2Proof.Machine
end

