-- ==== Sys2Proof/Tests/Slice0.lean ====
section
/-! SUPPORT. Tests: ill-formed commands are refused by the check; single steps and known answers; and, for every statement that
has hypotheses, a state and operands that meet them together, clause by clause. -/

/-- A register set to a value, ahead of what the dictionary lists. -/
def Sys2Proof.Machine.State.put (s : Sys2Proof.Machine.State) (k v : Nat) : Sys2Proof.Machine.State := { s with dict := (k, v) :: s.dict }

namespace Sys2Proof.Tests
open Sys2Proof Sys2Proof.Machine
set_option simprocs false
set_option linter.unusedVariables false
set_option Elab.async false

/-! ### States the tests start from -/

/-- `n` bytes of 0. -/
def bytes (n : Nat) : Bytes := List.replicate n 0

/-- A running device: Keeper up, every domain on, every store open, the CANopen and UDP routes enabled, an hour after its start. -/
def live : State :=
  { State.reset with
      dict := [(R.DEV_STATE, 2), (R.PD_STATE, 0xFFFFFFFF), (R.USDO_EN, 1), (R.UDP_EN, 1), (R.SNT_STATE, 2), (R.RP_STATE, 0), (R.CMD_CTR, 0), (R.DOME_FLT, 0)],
      tclk := 1800000000000, clock := { sec := 3600, ns := 0, frac := 0 },
      diag := { Diag.reset with keeperRun := true }, mem := { Memory.reset with openMask := 2 ^ 169 - 1 },
      routes := { Routes.reset with nmt := 5 } }

/-- A state outside reset that meets what a statement asks of it. -/
def Meets (P : State → Prop) (s : State) : Prop := s.power.porstLow = false ∧ P s.fresh

/-- A corridor of two vertices, written out by the layout of R145. -/
def corBytes : Bytes :=
  [0x86, 0x50, 0xF1, 0x6C, 0x00, 0x02, 0x00, 0x00, 0x10, 0x0E, 0x00, 0x00, 0x00, 0x00, 0x00, 0x00, 0x00, 0x00, 0x00, 0x00,
   0x00, 0x00, 0x00, 0x00, 0x01, 0x00, 0x00, 0x00, 0x00, 0x00, 0x00, 0x00, 0x00, 0x00, 0x00, 0x00, 0x00, 0x00, 0x00,
   0x00, 0x00, 0x00, 0x00, 0x00, 0x00, 0x00, 0x00, 0x00]

/-- A descriptor of one INT32 in allocation 1, read and written (R202). -/
def desc0 : Nat := 2 ^ 48 + 0xC * 2 ^ 60 + 3 * 2 ^ 66 + 2 ^ 68 + 2 ^ 98 + 4 * 2 ^ 218

/-- A 256-byte allocation at the start of DRAM that route 0 made. -/
def alloc0 : Alloc := { base := 0, size := 256, creator := 0x7000, descRefs := 0, pinned := false, writable := true, weights := false }

def noEnv : BootEnv := { hostBoot := false, fuseOk := true, pufOk := true, trngOk := true, flashOk := true }

def boot0 : BootImage := { header := [], rbIndex := 0, rbValue := 0, schedOff := 0, repair := [], keyStore := [] }

def ptp0 : PtpMsg :=
  { short := false, version := 2, domain := 0, seqId := 0, twoStep := true, logInterval := 0, correction := 0, tsSec := 0, tsNs := 0,
    source := 0, gm := 0, prio1 := 0, clockClass := 0, accuracy := 0, variance := 0, prio2 := 0, steps := 0, utcOffset := 0 }

def ann0 : AnnInfo := { vec := [], gm := 0, at_ := 0, log := 0 }

def frame0 : LaunchFrame := { launch := 0, data := [], stamp := none, slipped := false }

def pt0 : Pt := { t := 0, x := 0, y := 0, z := 0, range := 0, inten := 0, echo := 0, chan := 0, slot := 0, keep := false, group := 0 }

def res0 : Res := { slice := 0, validT := 0, mask := 0, oldest := none, dist := 0, flags := 0, verdict := 0, changes := [], out := 0 }

def cor0 : Corridor := { seqNo := 0, t := 0, reqLen := 0, verts := [], pose := .ident, cells := [], committed := 0, stale := false }

/-- A voxel set of epoch `n` in a phase. -/
def vset0 (n : Nat) (p : SetPhase) : VSet :=
  { epoch := n, phase := p, anchor := .ident, src := none, anchorSeq := 0, poseAge := 0, flags := 0, alm := 0, rmax := 0, ageMax := 0,
    n := 0, pointsIn := 0, lateIn := 0, capDrop := 0, band := false, probe := false, leaves := [], corr := .ident, gsrc := none, closeT := 0 }

def withSet (n : Nat) (p : SetPhase) : State := { live with talus := { live.talus with sets := [(0, some (vset0 n p))] } }

def rb0 : RbBuild := { buf := 0, epoch := 0, rid := 0, tiles := 0, fail := false, start := 0 }

def rb1 : RbBuild := { rb0 with fail := true }

/-- A rulebook build over buffer 0. -/
def building (x : RbBuild) : State :=
  { (withSet 0 .built) with objs := [(0x5380, [1])], deep := { Deep.reset with rb := some x } }

/-- A stream slot that is enabled, of a kind, on a port. -/
def slotAt (kind port : Nat) : State := ((live.put (R.SLOT_EN 0) 1).put (R.SLOT_KIND 0) kind).put (R.SLOT_PORT 0) port

def usdoOff : State := live.put R.USDO_EN 0

/-- Spur 0 runs, with one word in its instruction buffer; cairn 0 is ARMED. -/
def spurAt (w : Nat) : State :=
  { (live.put (R.SPUR_STATE 0) 2) with
      allocs := [(1, some alloc0)],
      cs := { CairnStore.reset with cairns := [(0, { Cairn.idle with cstate := .armed })] },
      deep := { Deep.reset with spurs := [(0, { Spur.reset with ibuf := smSet (fun _ => 0) [] 0 w, a := [(1, 0x100), (3, 0x10000000000)] })],
                                files := [(0, [(0, desc0)])] } }

/-- Spur 0 waits at a fence, a remote write of its own not yet answered or none. -/
def fenced (left : List RemoteAcc) : State :=
  { live with deep := { Deep.reset with spurs := [(0, { Spur.reset with fence := some 15 })] }, host := { HostIf.reset with remote := left } }

def write0 : RemoteAcc := { tag := 0, agent := 0, write := true, addr := 0, len := 16, dest := 0, start := 0 }

theorem some_getD {α : Type} {o : Option α} (d : α) (h : o.isSome = true) : o = some (o.getD d) := by
  cases o with
  | some _ => rfl
  | none => cases h

def waiter0 (t : Nat) : Waiter := { cairn := 0, cond := 0, target := 0, agent := 0, deadline := t, vector := none }

def sleeping (t : Nat) : State := { live with cs := { CairnStore.reset with waiters := [(0, some (waiter0 t))] } }

/-- Cairn 0 is ARMED for spur 0. -/
def armed : State := { live with cs := { CairnStore.reset with cairns := [(0, { Cairn.idle with cstate := .armed })] } }

/-- Queue 0 has 16 words; producer and consumer are one agent. -/
def queueOf (agent : Nat) : State := ((live.put (R.Q_LOG2 0) 4).put (R.Q_PROD 0) agent).put (R.Q_CONS 0) agent

def pop0 (agent : Nat) : PopWait := { agent := agent, words := 1, got := [], poison := false, since := 0 }

def popping (agent n : Nat) : State :=
  (queueOf agent).setQueue 0 { Queue.empty with wp := n, cp := n, wait := some (pop0 agent) }

def withAlloc : State := { live with allocs := [(1, some alloc0)] }

def withDesc : State :=
  { withAlloc with deep := { Deep.reset with descs := [(1, some { word := desc0, image := false }), (2, some { word := desc0 + 64, image := false })] } }

def in0 (kind fb : Nat) : InEnt := { src := 0, kind := kind, fb := fb, arg := 0 }

def sb0 (st report : Nat) : SbEntry :=
  { cycle := 0, inst := 0, task := 0, st := st, inrdy := 0, fbk := 0, inbad := 0, valid := true, oldest := 0, tEnd := 0, report := report,
    outBad := false }

def task0 (unit : Nat) (inputs : List InEnt) : TaskRec :=
  { cycle := 0, task := 0, unit := unit, cirqN := 0, spurs := 0, prog := 0, progW := 0, descs := [], inputs := inputs, doneCairn := 0,
    startMin := 0, inDl := 0, wcet := 0, doneDl := 0 }

/-- An image is admitted: cycle 0 with one task of a unit, in a state of the scoreboard. -/
def timed (unit st report : Nat) (inputs : List InEnt) : State :=
  { live with deep := { Deep.reset with tt := { Tt.reset with
      loaded := true, cycles := [(0, 1000)], tasks := [task0 unit inputs], sb := [sb0 st report], nextInst := [(0, 2)] } } }

/-- A slot of the table grants spur 0's store port to agent 0 for both uses. -/
def slotted : State :=
  { live with deep := { Deep.reset with tt := { Tt.reset with loaded := true, tables := [(0x100, [3 * 2 ^ 13]), (0x200, [0xB000 * 2 ^ 16 + 3 * 2 ^ 13])] } } }

/-- An Astrograph task of operation `op` runs specification 0. -/
def lifting (op : Nat) : State := { timed 0x3000 3 0 [] with objs := [(0x55C0, toLe 64 (op * 2 ^ 104))] }

def unit0 : ThUnit := { key := (0, 0, 0), prog := 0, start := 0, probs := [], wave := 0, clampEv := false, ovfEv := false, warmEv := false }

/-- Unit 0 of Theodolite runs a program of a kind. -/
def solving (kind : Nat) : State :=
  { live with objs := [(0x5640, toLe 64 (kind * 2 ^ 80))], deep := { Deep.reset with th := { Theo.reset with units := [(0, some unit0)] } } }

def extra0 : ImageExtra :=
  { presets := [], tpls := [], cams := [], allocs := [], descs := [], copies := [], rulebooks := [], setBufs := [], specs := [], heads := [],
    theoTpls := [], theoProgs := [], rings := [], maps := [] }

/-- The fields of a list instruction: the list in A1, the descriptor in A2, the area in A3. -/
abbrev listF : Nat := 2 ^ 45 + 2 * 2 ^ 40 + 3 * 2 ^ 35

/-- Command key 0 covers every index; route 0's shadow holds a value for a critical entry. -/
def committing (s : State) (idx sub : Nat) (v : Bytes) : State :=
  { s.setShadow 0 (some (entryKey idx sub, v)) with dome := { s.dome with
      keys := [(0, { key := List.replicate 32 7, scope := 2 ^ 32 - 1, gen := 1, st := 1 })] } }

/-- The commit record of that value, its tag computed as the host computes it (R479). -/
def recFor (s : State) (idx sub : Nat) (v : Bytes) : CommitRec :=
  { tag := BitVec.ofNat 128 (leNat ((committing s idx sub v).commitTag 0 idx sub v 1)), counter := 1, keyId := 0, rsvd := 0 }

/-- A flit of a type from Range device 1. -/
def flit0 (t : BitVec 8) : Flit :=
  { crcOk := true, seqNo := 0, poison := false, typ := t, agent := 0, srcRid := 1, dstRid := 0, tag := 0, addr := 0, payload := [] }

def linked : State := live.put (R.LINK_STATE 0) 2

def session0 (t : Nat) : UsdoSession := { idx := 0, sub := 0, download := true, data := [], last := t }

def inSession (t : Nat) : State := { live with routes := { live.routes with usdo := some (session0 t) } }

def udp0 (version : BitVec 8) : UdpReq :=
  { srcIp := 1, srcPort := 0, magic := 0x4356, version := version, txn := 0, index := 0, sub := 0, lenField := 0, payload := [] }

def udpOpen : State := live.put R.UDP_ALLOW 1

def cell0 : DefReq := .cellRead 0x3000 0 0 4

def queuedReq : State := { live with routes := { live.routes with queue := [(0, cell0, 0)] } }

def startedReq : State := { live with routes := { live.routes with started := some (0, cell0, none) } }

def lb0 : LbRec := { time := 0, tclk := 0, src := 0, rtype := 0x30, rseq := 0, payload := List.replicate 40 0 }

/-- A Logbook record waits for the host ring, which the device may write or not. -/
def ringing (b : Bool) : State :=
  { live.put R.LB_HOST_LOG2 20 with lb := { live.lb with ring := [lb0] }, host := { live.host with bme := b, d3hot := false } }

/-- A replay with records still to come. -/
def replayingOf (l : List LbRec) : State := { live.put R.RP_STATE 1 with lb := { live.lb with rpRecs := l } }

/-- DMA channel 0 in ring mode, with one record of a kind at the head of its ring. -/
def ringDma (kind : Byte) : State :=
  { ((((live.put (R.DMA_MODE 0) 2).put (R.DMA_STATE 0) 1).put (R.DMA_TAIL 0) 1).put (R.DMA_RING_ALLOC 0) 1) with
      allocs := [(1, some alloc0)], mem := { live.mem with bytes := smSet memDflt [] 0 kind } }

def dmaHolds (moved : Bool) : State :=
  (live.put (R.DMA_STATE 0) 1).setDma 0 (some { word := 0, moved := moved })

/-- The envelope that revokes command key 0, signed with fuse slot 1's private key (R499). -/
def envHead : Bytes := toLe 4 0x45564B4B ++ [2, 0, 0, 1] ++ toLe 4 0 ++ toLe 4 1 ++ toLe 16 0 ++ List.replicate 64 0

/-- The public key of the private key of 57 bytes of 5. -/
def envPub : Bytes :=
  toLe 57 0x348C39815C26ACEC844C384037BBE95DDFA5DCF74EF54F8A51FC65F5E7A63B0D4819A7397A3182D87480FB2004182308967DF1C7CFEEC0F4

/-- That key's signature over the SHAKE256 of the head. -/
def envSig : Bytes :=
  toLe 114 0x36866889606AF7C5E476318479290645796DCA2C218F5F5C0DC06B5A175935381BB4CC67E45A63140A9F5B37CA13963442F9E40505C5A362801A885EB65497A35300F54BA84CBF054E910454949D09AF2E336F875EFDC59DE91DA8C56732E9A9D6D5D909732A0DD5729294BD95A1A1A184

def envelope0 : Bytes := envHead ++ envSig

def enveloped (e : Bytes) : State :=
  { live with dome := { live.dome with envelope := some e },
              nv := { live.nv with slots := [(1, { pub := envPub, use := 2, revoked := false })] } }

/-- Almanac copy 1 has cells of 5 cm, and everything else zero. -/
def almReady : State := { live with objs := [(0x5401, [0, 0, 0, 0, 0, 0, 0, 0, 5])] }

/-- `ALM_SWITCH`'s value for that copy: generation 1 and the SHAKE256 of its bytes. -/
def almSwitch0 : Bytes := toLe 4 1 ++ shake256 (almReady.almBytes 1) 32

def sample0 : Sample := { slot := 0, t := 0, vals := [] }

def base0 : PropBase := { t := 0, x := [], var := [], bias := [], prog := 0, inst := 0 }

/-- An input of a kind, whose epoch has a point set. -/
def fedBy (kind fb : Nat) : State :=
  let s := timed 0x1000 1 0 [in0 kind fb]
  { s with deep := { s.deep with ag := { Astro.reset with epochs := [(0, { EpochRt.empty with set := some 0 })] } } }

/-- Spur 0 sleeps, and its wake is here. -/
def waking : State :=
  { live with cs := { CairnStore.reset with wakes := [(0, .ok)] },
              deep := { Deep.reset with spurs := [(0, { Spur.reset with waiting := true })] } }

def inOldest : InSt → Option Int
  | .ready o => some o
  | _ => none

theorem ready_of_eq {x : InSt} {o : Int} (h : inOldest x = some o) : x = .ready o := by
  cases x with
  | ready p => cases h; rfl
  | no => cases h
  | bad => cases h

theorem fst_ok {α β : Type} {x : α × β} {a : α} (h : x.1 = a) : x = (a, x.2) := Prod.ext h rfl

theorem spurAt_spur (w : Nat) : (spurAt w).fresh.spur 0 =
    { Spur.reset with ibuf := smSet (fun _ => 0) [] 0 w, a := [(1, 0x100), (3, 0x10000000000)] } := rfl

theorem spurAt_state (w : Nat) : (spurAt w).fresh.rd (R.SPUR_STATE 0) = 2 := rfl

/-- `spurAt` issues its word, whatever the word. -/
theorem meets_issues (w : Nat) : Meets (fun s => s.issues 0 w) (spurAt w) := by
  refine ⟨rfl, ?_, ?_, ?_, ?_⟩
  · unfold State.spurReady
    rw [spurAt_state, spurAt_spur]; rfl
  · rw [spurAt_spur]; rfl
  · rw [spurAt_spur]; exact Nat.zero_testBit _
  · rw [spurAt_spur]
    show smGet (fun _ => 0) (smSet (fun _ => 0) [] 0 w) 0 = w
    simp

/-! ### Well-formedness -/

theorem tooLong {n m : Nat} (h : n < m) : dataOk n (bytes m) = false := by
  unfold dataOk bytes
  rw [List.length_replicate]; exact decide_eq_false (by omega)

/-- One command for each check, longer or shorter than the check allows. -/
theorem test_ill_formed_refused_1 :
    Instr.wf (.launchFrameSubmit 0 0 (bytes 9217) none) = false ∧
    Instr.wf (.frameTransmit 0 (bytes 9217) none) = false ∧
    Instr.wf (.tioStartWrite 0 0 .start (bytes 17)) = false ∧
    Instr.wf (.csi2LongPacket 0 0 .ok 0 true (bytes 65536)) = false ∧
    Instr.wf (.ethFrameRx 0 true (bytes 9217)) = false ∧
    Instr.wf (.canFrameRx 0 0 (bytes 65)) = false ∧
    Instr.wf (.spiTransferDone 0 (bytes 65537)) = false ∧
    Instr.wf (.uartSentence 0 0 (bytes 65537) true) = false ∧
    Instr.wf (.exchangeFrameRx 0 0 true true 0 (List.replicate 256 0)) = false ∧
    Instr.wf (.wld 0 0 (some (bytes 4097))) = false ∧
    Instr.wf (.wldt 0 0 (some (bytes 4097))) = false ∧
    Instr.wf (.mac 0 0 (some (bytes 4097))) = false ∧
    Instr.wf (.ldv 0 0 (some (bytes 4097))) = false ∧
    Instr.wf (.ldp 0 0 (some (bytes 4097))) = false ∧
    Instr.wf (.gath 0 0 (some (bytes 4097))) = false ∧
    Instr.wf (.scat 0 0 (some (bytes 4097))) = false ∧
    Instr.wf (.scata 0 0 (some (bytes 4097))) = false ∧
    Instr.wf (.hwReq 0 (bytes 2049)) = false ∧
    Instr.wf (.qPush 0 0 (bytes 257) true) = false ∧
    Instr.wf (.qPop 0 0 0) = false ∧
    Instr.wf (.allocNew 0 (bytes 2049)) = false ∧
    Instr.wf (.descNew 0 (bytes 2049)) = false := by
  refine ⟨?_, ?_, ?_, ?_, ?_, ?_, ?_, ?_, ?_, ?_, ?_, ?_, ?_, ?_, ?_, ?_, ?_, ?_, ?_, ?_, ?_, ?_⟩
  · exact (by rw [show ∀ d, Instr.wf (.launchFrameSubmit 0 0 d none) = dataOk 9216 d from fun _ => rfl]; exact tooLong (by decide))
  · exact (by rw [show ∀ d, Instr.wf (.frameTransmit 0 d none) = dataOk 9216 d from fun _ => rfl]; exact tooLong (by decide))
  · exact (by decide +kernel)
  · exact (by rw [show ∀ d, Instr.wf (.csi2LongPacket 0 0 .ok 0 true d) = dataOk 65535 d from fun _ => rfl]; exact tooLong (by decide))
  · exact (by rw [show ∀ d, Instr.wf (.ethFrameRx 0 true d) = dataOk 9216 d from fun _ => rfl]; exact tooLong (by decide))
  · exact (by decide +kernel)
  · exact (by rw [show ∀ d, Instr.wf (.spiTransferDone 0 d) = dataOk 65536 d from fun _ => rfl]; exact tooLong (by decide))
  · exact (by rw [show ∀ d, Instr.wf (.uartSentence 0 0 d true) = dataOk 65536 d from fun _ => rfl]; exact tooLong (by decide))
  · exact (by decide +kernel)
  · exact (by decide +kernel)
  · exact (by decide +kernel)
  · exact (by decide +kernel)
  · exact (by decide +kernel)
  · exact (by decide +kernel)
  · exact (by decide +kernel)
  · exact (by decide +kernel)
  · exact (by decide +kernel)
  · exact (by decide +kernel)
  · exact (by decide +kernel)
  · exact (by decide +kernel)
  · exact (by decide +kernel)
  · exact (by decide +kernel)

/-- One command for each check, longer or shorter than the check allows. -/
theorem test_ill_formed_refused_2 :
    Instr.wf (.copyNew 0 (bytes 2049)) = false ∧
    Instr.wf (.admissionComplete { extra0 with setBufs := List.replicate 4 { base := 0, header := 0, oct := 0, ready := 0, release := 0, target := 0 } }) = false ∧
    Instr.wf (.deepResult (List.replicate 769 { rid := 0, slot := 0, kind := 0, status := 0, frame := 0, t := none })) = false ∧
    Instr.wf (.resourceAccess 0 0 0 0 (.write (bytes 65537)) true) = false ∧
    Instr.wf (.almanacObjectWrite 0 0 (bytes 2049)) = false ∧
    Instr.wf (.gnssOriginWrite 0 (bytes 2049)) = false ∧
    Instr.wf (.scrubReq 0 (bytes 2049)) = false ∧
    Instr.wf (.dpData true (.write (bytes 4097))) = false ∧
    Instr.wf (.burstAperture 0 (.read 65537)) = false ∧
    Instr.wf (.colWrite 0 { flit0 0 with payload := (bytes 225) }) = false ∧
    Instr.wf (.colWriteAck 0 { flit0 0 with payload := (bytes 225) }) = false ∧
    Instr.wf (.colReadRequest 0 { flit0 0 with payload := (bytes 225) }) = false ∧
    Instr.wf (.colReadResponse 0 { flit0 0 with payload := (bytes 225) }) = false ∧
    Instr.wf (.colCairnOperation 0 { flit0 0 with payload := (bytes 225) }) = false ∧
    Instr.wf (.registerWrite 0 0 0 (bytes 2049)) = false ∧
    Instr.wf (.cwShadowWrite 0 0 0 (bytes 2049)) = false ∧
    Instr.wf (.usdoDownload 0 0 (bytes 2049) true) = false ∧
    Instr.wf (.usdoSegment (bytes 2049) true) = false ∧
    Instr.wf (.udpRead { udp0 1 with payload := (bytes 65508) }) = false ∧
    Instr.wf (.udpWrite { udp0 1 with payload := (bytes 65508) }) = false ∧
    Instr.wf (.mr7Extend 0 (bytes 2049)) = false ∧
    Instr.wf (.keyEnv 0 (bytes 2049)) = false ∧
    Instr.wf (.jtagResp 0 (bytes 2049)) = false := by
  refine ⟨?_, ?_, ?_, ?_, ?_, ?_, ?_, ?_, ?_, ?_, ?_, ?_, ?_, ?_, ?_, ?_, ?_, ?_, ?_, ?_, ?_, ?_, ?_⟩
  · exact (by decide +kernel)
  · exact (by decide +kernel)
  · exact (by decide +kernel)
  · exact (by rw [show ∀ d, Instr.wf (.resourceAccess 0 0 0 0 (.write d) true) = dataOk 65536 d from fun _ => rfl]; exact tooLong (by decide))
  · exact (by decide +kernel)
  · exact (by decide +kernel)
  · exact (by decide +kernel)
  · exact (by decide +kernel)
  · exact (by decide +kernel)
  · exact (by decide +kernel)
  · exact (by decide +kernel)
  · exact (by decide +kernel)
  · exact (by decide +kernel)
  · exact (by decide +kernel)
  · exact (by decide +kernel)
  · exact (by decide +kernel)
  · exact (by decide +kernel)
  · exact (by decide +kernel)
  · exact (by rw [show ∀ d, Instr.wf (.udpRead { udp0 1 with payload := d }) = dataOk 65507 d from fun _ => rfl]; exact tooLong (by decide))
  · exact (by rw [show ∀ d, Instr.wf (.udpWrite { udp0 1 with payload := d }) = dataOk 65507 d from fun _ => rfl]; exact tooLong (by decide))
  · exact (by decide +kernel)
  · exact (by decide +kernel)
  · exact (by decide +kernel)

theorem test_ill_formed_transfer (c : Fin 64) : (Instr.linearTransfer c (some (bytes (2 ^ 32)))).wf = false := by
  rw [show ∀ d, (Instr.linearTransfer c (some d)).wf = dataOk (2 ^ 32 - 1) d from fun _ => rfl]; exact tooLong (by decide)

theorem test_well_formed : (Instr.canFrameRx 0 0 (bytes 64)).wf = true ∧ (Instr.qPop 0 0 1).wf = true := by decide +kernel

/-! ### Known answers and single steps -/

/-- FIPS 202: SHAKE256 of the empty message. -/
theorem test_shake256_empty : shake256 [] 8 = [0x46, 0xB9, 0xDD, 0x2B, 0x0B, 0xA8, 0x8D, 0x13] := by decide +kernel

/-- RFC 8032, 7.4, the blank message: the public key is as printed there. -/
def rfcSeed : Bytes := (toLe 57 0x6C82A562CB808D10D632BE89C8513EBF6C929F34DDFA8C9F63C9960EF6E348A3528C8A3FCC2F044E39A3FC5B94492F8F032E7549A20098F95B).reverse

theorem test_ed448_public :
    edPublic rfcSeed =
      (toLe 57 0x5FD7449B59B461FD2CE787EC616AD46A1DA1342485A70E1F8A0EA75D80E96778EDF124769B46C7061BD6783DF1E50F6CD1FA1ABEAFE8256180).reverse := by
  decide +kernel

/-- The CRC-32 check value of "123456789" (IEEE 802.3). -/
theorem test_crc32 : crc32 (asciiBytes "123456789") = 0xCBF43926 := by decide +kernel

/-- The state after one command. -/
def after1 (c : Instr) (s : State) : State :=
  match exec c s with
  | .next t => t
  | _ => s

/-- R42: INC is 2 ns of 2^−32 ns, so a cycle at `RATE_ADJ` 0 adds 2 ns. -/
theorem test_tick_two_ns :
    (match step State.reset with | .next t => decide (t.clock = { sec := 0, ns := 2, frac := 0 } ∧ t.tclk = 1) | _ => false) = true := by
  decide +kernel

/-- The front command runs, and the rest waits. -/
theorem test_step_takes_front :
    (match step { live.put R.SERVO_EN 0 with pending := [.rateAdjWrite 0 5, .nop 0 0] } with
      | .next t => decide (t.rd R.RATE_ADJ = 5 ∧ t.pending = [.nop 0 0]) | _ => false) = true := by decide +kernel

theorem test_rate_adj_refuses : (after1 (.pdOn 3 1 0) (live.put R.UDP_EN 0)).rd R.PD_STATE = live.rd R.PD_STATE := by decide +kernel

/-- R192: a TRAP word stops the spur with code 0x0A. -/
theorem test_trap : (fun t : State => t.rd (R.SPUR_STATE 0) = 3 ∧ t.rd (R.TRAP_CODE 0) = 0x0A)
    (after1 (.trap 0 0) (spurAt (spurWord 0 7 0))) := by decide +kernel

/-- R190: SETA writes an address register. -/
theorem test_seta : ((after1 (.seta 0 (2 * 2 ^ 45 + 77)) (spurAt (spurWord 0 5 (2 * 2 ^ 45 + 77)))).spur 0).addr 2 = 77 := by decide +kernel

/-- R347: a signal wraps at 2^32. -/
theorem test_signal_wraps :
    (((armed.applySignal 0 0 true (2 ^ 32 - 1)).1.applySignal 0 0 true 3).1.cairn 0).value = 2 := by decide +kernel

/-- R364: a claim of a FREE cairn arms it for the route. -/
theorem test_claim : (fun t : State => (t.cairn 9).cstate = .armed ∧ (t.cairn 9).owner = 0x7001) (after1 (.claim 1 9) live) := by decide +kernel

/-- R467, R364: a claim of an ARMED cairn is refused with `CAIRN_BUSY`. -/
theorem test_claim_busy : (after1 (.claim 0 0) armed).rd (R.R_REASON 0) = 0x2A01 := by decide +kernel

/-- R381: eight bytes pushed count one word. -/
theorem test_push : (after1 (.qPush 0 0 (bytes 8) false) (queueOf 0)).qCount 0 = 1 := by decide +kernel

/-- R119: the Morton code interleaves x lowest. -/
theorem test_morton : morton 1 0 0 = 1 ∧ morton 0 1 0 = 2 ∧ morton 0 0 1 = 4 ∧ morton 3 0 2 = 41 := by decide +kernel

/-- FP32: 1 + 2 = 3, and 3 × 2^127 overflows to infinity. -/
theorem test_fp32 : fadd32 0x3F800000 0x40000000 = 0x40400000 ∧ fmul32 0x40400000 0x7F000000 = 0x7F800000 := by decide +kernel

/-- R402: an error within one nibble is corrected, and names it. -/
theorem test_code_nibble : codeOutcome { mask := 0xB * 2 ^ 68, poison := false } = .corrected 17 := by decide +kernel

/-! ### The spec's worked examples -/

/-- The message of the example after R483: key 2, `ASYM` = 836 at `0x2113:03`, counter 1,205. -/
theorem test_commit_message :
    ({ State.reset with nv := { State.reset.nv with uid := 0x5C1E07A29F3044D10B86E5C72A19D063 } } : State).commitMessage 2 0x2113 3
      (toLe 4 836) 1205 =
    [0x02, 0x63, 0xD0, 0x19, 0x2A, 0xC7, 0xE5, 0x86, 0x0B, 0xD1, 0x44, 0x30, 0x9F, 0xA2, 0x07, 0x1E, 0x5C, 0x13, 0x21, 0x03, 0x04, 0x00,
     0x44, 0x03, 0x00, 0x00, 0xB5, 0x04, 0, 0, 0, 0, 0, 0] := by decide +kernel

/-- Chapter 04: the keys of point A's voxel and of its parent. -/
theorem test_morton_example : morton 700 758 25 = 0x1869FAD4 ∧ morton 350 379 12 = 0x030D3F5A := by decide +kernel

/-- Chapter 06: the word of the MXFP4 `MAC`, and lane 0 of its row: 10.0 becomes 9.25. -/
theorem test_mac_word : spurWord 1 3 (8 * 2 ^ 46 + 5 * 2 ^ 35 + 2 * 2 ^ 21 + 3 * 2 ^ 16 + 1) = 0x10C2002800430001 := by decide +kernel

theorem test_mac_row :
    laneOf (macRow 8 { fmt := 8, tile := [0x16, 0x0A] ++ bytes 1022, scales := 0x80 :: bytes 63, poison := false }
      ([0xD3, 0x07] ++ bytes 30) [0x7D, 0] 0x41200000).1 0 = 0x41140000 := by decide +kernel

/-- Chapter 14: the word 0x1A2B2C40 lies in stack 0, channel 12, bank 11, row 418 of the M2. -/
theorem test_dram_place : dramRow 2 0x1A2B2C40 = 12 * 2 ^ 55 + 11 * 2 ^ 51 + 418 * 2 ^ 36 := by decide +kernel

/-! ### Commits that pass; `ALM_SWITCH`, whose value holds the hash of an Almanac copy -/

theorem commitReason_recFor (s : State) (idx sub : Nat) (v : Bytes) (e : EntryRow) (he : entryOf idx sub = some e)
    (h1 : s.replaying = false) (h2 : (e.acc = .cw && resourcePresent s.variant idx sub) = true)
    (h3 : (committing s idx sub v).keyCovers 0 idx = true) (h4 : s.rd R.CMD_CTR = 0) (h5 : s.inLockout = false) :
    (committing s idx sub v).fresh.commitReason 0 idx sub (recFor s idx sub v) = 0 := by
  have k1 : (committing s idx sub v).fresh.replaying = false := h1
  have k2 : (e.acc = .cw && resourcePresent (committing s idx sub v).variant idx sub) = true := h2
  have k3 : (committing s idx sub v).fresh.keyCovers (recFor s idx sub v).keyId.toNat idx = true := h3
  have k4 : (committing s idx sub v).fresh.rd R.CMD_CTR = 0 := h4
  have k5 : (committing s idx sub v).fresh.inLockout = false := h5
  have k6 : (committing s idx sub v).fresh.shadow 0 = some (entryKey idx sub, v) := by
    unfold State.shadow committing State.setShadow State.fresh
    simp
  have k7 : (committing s idx sub v).fresh.commitTag (recFor s idx sub v).keyId.toNat idx sub v 1
      = toLe 16 (recFor s idx sub v).tag.toNat := by
    refine (toLe_ofNat_leNat _ ?_).symm
    unfold State.commitTag
    rw [List.length_take, kmac256_length _ _ _ _ (by decide) (by decide)]; decide
  have k8 : (recFor s idx sub v).counter.toNat = 1 := rfl
  have k9 : (recFor s idx sub v).rsvd = 0 := rfl
  simp only [Bool.and_eq_true, decide_eq_true_eq] at k2
  unfold State.commitReason
  simp [k1, k6, k9, he, k2.1, k2.2, k3, k4, k5, k7, k8]
  exact fun h => absurd h (by decide)

/-- What a state must show for `recFor`'s record to pass: all of R480's checks but the tag's. -/
def readyFor (s : State) (idx sub : Nat) (v : Bytes) : Bool :=
  let t := (committing s idx sub v).fresh
  !s.replaying && (committing s idx sub v).keyCovers 0 idx && s.rd R.CMD_CTR = 0 && !s.inLockout && t.routeUp 0 && !t.routeBusy 0 &&
    t.keeperUp && t.routes.queue = [] && t.routes.started = none && t.dome.waitCommit = none && !s.nv.flashPresent

theorem takes_recFor (s : State) (idx sub : Nat) (v : Bytes) (e : EntryRow) (he : entryOf idx sub = some e)
    (h2 : (e.acc = .cw && resourcePresent s.variant idx sub) = true) (h : readyFor s idx sub v = true) :
    (committing s idx sub v).fresh.takesCommit 0 idx sub (recFor s idx sub v) := by
  simp only [readyFor, Bool.and_eq_true, Bool.not_eq_true', decide_eq_true_eq] at h
  obtain ⟨⟨⟨⟨⟨⟨⟨⟨⟨⟨h1, h3⟩, h4⟩, h5⟩, u1⟩, u2⟩, u3⟩, u4⟩, u5⟩, u6⟩, u7⟩ := h
  refine ⟨u1, u2, u3, ⟨u4, u5, u6⟩, commitReason_recFor s idx sub v e he h1 h2 h3 h4 h5, ?_⟩
  have : (committing s idx sub v).fresh.nv.flashPresent = false := u7
  rw [this]; rfl

theorem some_get_of {α : Type} {o : Option α} (h : o.isSome = true) : o = some (o.get h) := by
  cases o with
  | some _ => rfl
  | none => cases h

/-- The witness of a commit's clause: the record of `recFor`, and the target's own check. -/
theorem meets_commit (s : State) (idx sub : Nat) (v : Bytes) (check : Bytes → State → Nat) (hs : (entryOf idx sub).isSome = true)
    (h0 : s.power.porstLow = false) (h2 : (((entryOf idx sub).get hs).acc = .cw && resourcePresent s.variant idx sub) = true)
    (h : readyFor s idx sub v = true) (hc : check v (committing s idx sub v).fresh = 0) :
    Meets (fun x => x.takesCommit 0 idx sub (recFor s idx sub v) ∧ check (x.shadowValue 0) x = 0) (committing s idx sub v) := by
  refine ⟨h0, takes_recFor s idx sub v _ (some_get_of hs) h2 h, ?_⟩
  have hv : (committing s idx sub v).fresh.shadowValue 0 = v := by
    have hs : (committing s idx sub v).fresh.shadow 0 = some (entryKey idx sub, v) := by
      unfold State.shadow committing State.setShadow State.fresh
      simp
    unfold State.shadowValue
    rw [hs]
  show check ((committing s idx sub v).fresh.shadowValue 0) (committing s idx sub v).fresh = 0
  rw [hv]; exact hc

theorem alm_value : slice almSwitch0 4 32 = shake256 (almReady.almBytes 1) 32 := by
  have h : (toLe 4 1).length = 4 := rfl
  unfold slice almSwitch0
  rw [List.drop_append_of_le_length (Nat.le_of_eq h.symm), List.drop_of_length_le (Nat.le_of_eq h), List.nil_append,
    List.take_of_length_le (Nat.le_of_eq (shake256_length _ _ (by decide) (by decide)))]

theorem alm_gen : leAt almSwitch0 0 4 = 1 := by
  have h : (toLe 4 1).length = 4 := rfl
  unfold leAt slice almSwitch0
  rw [List.drop_zero, List.take_append_of_le_length (Nat.le_of_eq h.symm)]
  rfl

theorem alm_frame (s : State) (rt : Routes) (d : Dome) (v : Bytes) :
    State.almSwitchCheck v { s with routes := rt, dome := d } = State.almSwitchCheck v s := rfl

theorem committing_fresh (s : State) (idx sub : Nat) (v : Bytes) : (committing s idx sub v).fresh =
    { s.fresh with routes := (committing s idx sub v).routes, dome := (committing s idx sub v).dome } := rfl

theorem fresh_almObj (s : State) : s.fresh.almObj = s.almObj := rfl

theorem fresh_slotCount (s : State) : s.fresh.slotCount = s.slotCount := rfl

theorem alm_ok : State.almSwitchCheck almSwitch0 almReady.fresh = 0 := by
  have hb : almReady.fresh.almBytes almReady.fresh.almInactive = almReady.almBytes 1 := by
    rw [show almReady.fresh.almInactive = 1 by decide +kernel]
    unfold State.almBytes
    rw [fresh_almObj, fresh_slotCount]
  unfold State.almSwitchCheck
  simp only [alm_gen, hb, alm_value, ne_eq, not_true_eq_false, if_false]
  decide +kernel

/-! ### Statements about the whole block -/

/-- The device held in reset, with one command waiting that is not the pin's. -/
def heldReset : State := { State.reset with power := { Power.reset with porstLow := true }, pending := [.nop 0 0] }

theorem meets_BlockNeverStops : ∃ t, Runs 1 State.reset t := ⟨_, .succ rfl (.zero _)⟩

theorem meets_ResetHoldsEverything : heldReset.power.porstLow = true ∧ (∀ c ∈ heldReset.pending, ofPorst c = false) ∧
    ∃ t, Runs 1 heldReset t := ⟨rfl, by decide, _, .succ rfl (.zero _)⟩

theorem meets_IdleTimeAddsUp : State.reset.pending = [] ∧ State.reset.power.porstLow = false ∧ State.reset.clock.valid := by
  simp only [Clock.valid]; decide +kernel

/-- A clock one cycle before every carry. -/
theorem meets_TickAddsIncrement :
    (fun s : State => s.pending = [] ∧ s.power.porstLow = false ∧ s.clock.valid)
      { live with clock := { sec := 2 ^ 64 - 1, ns := 999999999, frac := 2 ^ 32 - 1 } } := by
  simp only [Clock.valid]; decide +kernel

theorem pll_does : Does (.pllLock 0) (fun _ => True) (fun s => s.wr R.CLK_LOCK (setBit (s.rd R.CLK_LOCK) 0)) := by
  intro s h _
  show execPllLock 0 s = _
  unfold execPllLock
  unfold State.run
  simp [h]

theorem meets_CalmCommandEnds :
    Does (.pllLock 0) (fun _ => True) (fun s => s.wr R.CLK_LOCK (setBit (s.rd R.CLK_LOCK) 0)) ∧ live.power.porstLow = false ∧
    (live.fresh.wr R.CLK_LOCK (setBit (live.fresh.rd R.CLK_LOCK) 0)).calm := ⟨pll_does, rfl, rfl⟩

/-! ### Refusals and commits -/

/-- A value out of range is refused; a route with a request waiting is busy. -/
theorem meets_RefusedWriteFrame :
    writeRequest (.claim 3 0xFFFF) = some (3, 0x2A00, 0x0E, [0xFF, 0xFF]) ∧
    Meets (fun s => s.routeTakes 3 ∧ s.writeReason 0x2A00 0x0E [0xFF, 0xFF] ≠ 0) live ∧
    Meets (fun s => s.routeUp 3 = false ∨ s.routeBusy 3 = true) (live.put R.UDP_EN 0) ∧
    Meets (fun s => s.routeUp 0 = false ∨ s.routeBusy 0 = true) queuedReq := by
  simp only [Meets, State.routeTakes]; decide +kernel

theorem meets_RefusedCommitFrame :
    commitRequest (.swReset 0 (recFor live 0x3000 0x10 [1]) noEnv) = some (0, 0x3000, 0x10, recFor live 0x3000 0x10 [1]) ∧
    Meets (fun s => s.routeTakes 0 ∧ s.keeperUp = true ∧ s.keeperFree ∧
      s.commitReason 0 0x3000 0x10 (recFor live 0x3000 0x10 [1]) ≠ 0) live := by
  simp only [Meets, State.routeTakes, State.keeperFree]
  exact ⟨rfl, by decide +kernel⟩

/-- A commit that passes every check, and one change of it for each check that fails. -/
def good : State := committing live 0x3000 0x10 [1]

def goodRec : CommitRec := recFor live 0x3000 0x10 [1]

theorem meets_CommitChecksInOrder_form :
    good.replaying = false ∧ { goodRec with rsvd := 1 }.rsvd ≠ 0 ∧
    (goodRec.rsvd = 0 ∧ isCw 0x3000 0 = false) ∧
    (isCw 0x3000 0x10 = true ∧ resourcePresent good.variant 0x3000 0x10 = true ∧ live.shadow 0 = none) ∧
    (good.shadow 0 = some (entryKey 0x3000 0x10, [1]) ∧ entryKey 0x3000 0x10 ≠ entryKey 0x2100 0x0C) := by decide +kernel

theorem meets_CommitChecksInOrder_values :
    good.keyCovers 1 0x3000 = false ∧ good.keyCovers goodRec.keyId.toNat 0x3000 = true ∧
    (good.put R.CMD_CTR (2 ^ 64 - 1)).rd R.CMD_CTR = 2 ^ 64 - 1 ∧
    (good.put R.CMD_CTR 1).rd R.CMD_CTR ≠ 2 ^ 64 - 1 ∧ goodRec.counter.toNat ≤ (good.put R.CMD_CTR 1).rd R.CMD_CTR ∧
    good.rd R.CMD_CTR < goodRec.counter.toNat ∧
    (fun s : State => s.takesCommit 0 0x3000 0x10 goodRec) good.fresh ∧ toLe 16 (0 : BitVec 128).toNat ≠ toLe 16 (1 : BitVec 128).toNat :=
  ⟨by decide +kernel, by decide +kernel, by decide +kernel, by decide +kernel, by decide +kernel, by decide +kernel,
    takes_recFor live 0x3000 0x10 [1] _ (some_get_of (by decide +kernel)) (by decide +kernel) (by decide +kernel), by decide +kernel⟩

theorem meets_LockoutAfterSixteen :
    (fun s : State => s.routes.failRun < 15) { live with routes := { live.routes with failRun := 14 } } ∧
    (fun s : State => 15 ≤ s.routes.failRun) { live with routes := { live.routes with failRun := 15 } } ∧
    (0x2E05 : Nat) ≠ 0x2E06 ∧
    (fun s : State => s.routes.lockUntil = some (s.tclk + 1) ∧ s.inLockout = true)
      { live with routes := { live.routes with lockUntil := some (live.tclk + 1) } } := by decide +kernel

/-! ### Stated rules of the units -/

theorem meets_MortonKey : (65535 : Nat) < 2 ^ 16 ∧ (15 : Nat) < 16 := by decide

theorem meets_MacFormatMismatch :
    Meets (fun s => s.issues (0 : Fin 128).val (spurWord 1 3 (2 ^ 46 : BitVec 54).toNat) ∧ fMmaFmt (2 ^ 46 : BitVec 54).toNat < 0xC ∧
      fmtMatch (fMmaFmt (2 ^ 46 : BitVec 54).toNat) ((s.spur (0 : Fin 128).val).wbuf (fWb (2 ^ 46 : BitVec 54).toNat)).fmt = false)
      (spurAt (spurWord 1 3 (2 ^ 46))) := by
  simp only [Meets, State.issues]; decide +kernel

theorem meets_TrapRecords : (127 : Nat) < 128 ∧ (0x0A : Nat) ≠ 0x0B ∧ (126 : Nat) ≠ 127 := by decide

theorem meets_MaskedLaneWrite : (31 : Nat) < 32 ∧ (30 : Nat) ≠ 31 := by decide

theorem meets_CairnOperations : (armed.cairn 0).cstate = .armed ∧ (2 ^ 32 - 1 : Nat) < 2 ^ 32 := by decide +kernel

/-- Cairn 0 is ARMED and no waiter record of the host routes is free. -/
def crowded : State :=
  { armed with cs := { armed.cs with
      waiters := (List.range 256).map fun i => (7936 + i, some (waiter0 0)) } }

theorem meets_WaitOutcomes :
    (live.cairn 0).cstate ≠ .armed ∧
    ((armed.cairn 0).cstate = .armed ∧ condHolds 0 (armed.cairn 0).value 0 = true) ∧
    (condHolds 0 (armed.cairn 0).value 1 = false ∧ (armed.freeWaiter 0x7000).isSome = true) ∧
    ((crowded.cairn 0).cstate = .armed ∧ condHolds 0 (crowded.cairn 0).value 1 = false ∧ crowded.freeWaiter 0x7000 = none) := by
  decide +kernel

/-- Route 0's cairn, and another's. -/
def claimed (owner : Nat) : State :=
  { live with cs := { CairnStore.reset with cairns := [(0, { Cairn.idle with cstate := .armed, owner := owner })] } }

theorem meets_ClaimAndUnclaim :
    Meets (fun s => s.takesWrite (0 : Route).val 0x2A00 0x0E (toLe 2 0) ∧ (s.cairn 0).cstate = .free) live ∧
    Meets (fun s => s.takesWrite (0 : Route).val 0x2A00 0x0E (toLe 2 0) ∧ (s.cairn 0).cstate ≠ .free) (claimed 0x7000) ∧
    Meets (fun s => s.takesWrite (0 : Route).val 0x2A00 0x0F (toLe 2 0) ∧ (s.cairn 0).cstate ≠ .free ∧ (s.cairn 0).owner = 0x7000)
      (claimed 0x7000) ∧
    Meets (fun s => s.takesWrite (0 : Route).val 0x2A00 0x0F (toLe 2 0) ∧ ((s.cairn 0).cstate = .free ∨ (s.cairn 0).owner ≠ 0x7000))
      (claimed 0x7002) ∧
    Meets (fun s => s.takesWrite (0 : Route).val 0x2A00 0x0F (toLe 2 0) ∧ ((s.cairn 0).cstate = .free ∨ (s.cairn 0).owner ≠ 0x7000))
      live := by
  simp only [Meets, State.takesWrite]; decide +kernel

theorem meets_QueuePointerLayout :
    (fun s : State => (s.queue 0).wp < 2 ^ 32 ∧ (s.queue 0).cp < 2 ^ 32 ∧ (s.queue 0).rp < 2 ^ 32 ∧ (s.queue 0).mp < 2 ^ 32 ∧
      (s.queue 0).lp < 2 ^ 32)
      (live.setQueue 0 { Queue.empty with wp := 2 ^ 32 - 1, cp := 1, rp := 2, mp := 3, lp := 2 ^ 32 - 1 }) := by decide +kernel

theorem meets_PushThenPop :
    (fun s : State => s.qEnabled 0 = true ∧ s.qPkt 0 = false ∧ (toLe 8 5).length = 8 ∧ (s.queue 0).wp < 2 * s.qWords 0 ∧
      (s.queue 0).rp = (s.queue 0).wp ∧ s.rd (R.FLIP_ARMED 8) = 0 ∧ s.injArmed 14 0 = false ∧
      s.rd (R.Q_BASE 0) + s.qWords 0 ≤ 524288 ∧ 0 < 256)
      ((queueOf 0).setQueue 0 { Queue.empty with wp := 31, cp := 31, rp := 31 }) := by decide +kernel

theorem meets_ForeignAgentIgnored :
    Meets (fun s => s.qEnabled (0 : Fin 256).val = true ∧ (toLe 8 0).length % 8 = 0 ∧
      agentMatches (s.rd (R.Q_PROD (0 : Fin 256).val)) (1 : BitVec 16).toNat = false) (queueOf 0) ∧
    Meets (fun s => s.qEnabled (0 : Fin 256).val = true ∧
      agentMatches (s.rd (R.Q_CONS (0 : Fin 256).val)) (1 : BitVec 16).toNat = false) (queueOf 0) ∧
    (1 : BitVec 16).toNat / 4096 ≠ 7 := by
  simp only [Meets]; decide +kernel

theorem meets_MemoryWriteFrame : live.accStatus 8 3 = .ok ∧ live.injArmed 14 0 = false ∧ (2 : Nat) < 3 ∧ (7 : Nat) < 8 ∧ 8 + 3 ≤ 11 := by
  decide +kernel

theorem meets_WholeWordWrite : 16 % 16 = 0 ∧ (List.replicate 16 (7 : Byte)).length = 16 ∧ classOf (regionOf live.variant 16) < 8 ∧
    live.accStatus 16 16 = .ok ∧ live.injArmed 14 0 = false ∧ live.injArmed 14 1 = false ∧
    live.rd (R.FLIP_ARMED (classOf (regionOf live.variant 16))) = 0 := by decide +kernel

theorem meets_CodeOutcomes : (35 : Nat) < 36 ∧ (0 : Nat) < 15 ∧ (15 : Nat) < 16 ∧ (2 ^ 143 + 1 : Nat) < 2 ^ 144 ∧
    0 < popCount 144 (2 ^ 143 + 1) ∧ popCount 144 (2 ^ 143 + 1) ≤ 2 := by decide +kernel

theorem meets_ErrorLogFull :
    (fun s : State => s.mem.errLog.length = 64) { live with mem := { live.mem with errLog := List.replicate 64 0 } } ∧
    (fun s : State => s.mem.errLog = [7]) { live with mem := { live.mem with errLog := [7] } } ∧
    classOf (regionOf live.variant 0) < 12 := by decide +kernel

def logging (n : Nat) (lost : Bool) : State := { live with diag := { live.diag with log := List.replicate n 0, lost := lost } }

theorem meets_EventLog :
    (logging 1 false).diag.log = [0] ∧ (logging 0 false).diag.log = [] ∧ 256 ≤ (logging 256 false).diag.log.length ∧
    ((logging 255 true).diag.hold = [] ∧ ((logging 255 true).evtRoute 0x2001).testBit 11 = true ∧ (logging 255 true).diag.log.length < 256) := by
  decide +kernel

theorem meets_InjectionActsOnce :
    (fun s : State => s.injArmed 5 1 = true) { live with diag := { live.diag with inj := some (5, 1, 0) } } ∧
    (fun s : State => s.injArmed 5 1 = false) { live with diag := { live.diag with inj := some (5, 2, 0) } } := by decide +kernel


/-! ### What each completion statement asks for, clause by clause -/

theorem meets_ResetAndBootComplete :
    ((fun (n : Nat) (env : BootEnv) => 200 ≤ n ∧ Meets (fun _ => True) live) 200 noEnv) ∧
    ((fun (n : Nat) (env : BootEnv) => n < 200 ∧ Meets (fun _ => True) live) 0 noEnv) ∧
    ((fun (r : Route) (cr : CommitRec) (env : BootEnv) => Meets (fun s => s.takesCommit r.val 0x3000 0x10 cr ∧ swResetCheck (s.shadowValue r.val) s =
      0) (committing live 0x3000 0x10 [1])) 0 ((recFor live 0x3000 0x10 [1])) noEnv) ∧
    ((fun (b : BootImage) (t : Bool) (u : Bool) => Meets (fun s => s.dome.boot = some b ∧ s.diag.keeperRun = false)
      { State.reset with dome := { Dome.reset with boot := some boot0 } }) boot0 true true) ∧
    ((fun (n : Fin 169) => Meets (fun s => s.passRuns n.val = true ∧ s.injArmed 17 n.val = false)
      { (State.reset.put R.PD_STATE 0xFFFFFFFF) with power := { Power.reset with passesOn := true } }) 0) ∧
    ((fun (n : Fin 169) => Meets (fun s => s.passRuns n.val = true)
      { (State.reset.put R.PD_STATE 0xFFFFFFFF) with power := { Power.reset with passesOn := true } }) 0) ∧
    ((fun (r : Route) => Meets (fun s => s.takesWrite r.val 0x2E00 0x0C (toLe 1 1) ∧ (State.bootGo s).2 = 0) State.reset) 0) := ⟨
  by simp only [Meets]; decide +kernel,
  by simp only [Meets]; decide +kernel,
  meets_commit live 0x3000 0x10 [1] _ (by decide +kernel) rfl (by decide +kernel) (by decide +kernel) (by decide +kernel),
  by simp only [Meets]; decide +kernel,
  by simp only [Meets]; decide +kernel,
  by simp only [Meets]; decide +kernel,
  by simp only [Meets, State.takesWrite]; decide +kernel⟩

theorem meets_PowerCommandsComplete :
    ((fun (r : Route) (m : BitVec 32) (o : BitVec 32) => Meets (fun s => s.takesWrite r.val 0x3000 2 (toLe 4 m.toNat) ∧ (s.pdOnReq r.val m.toNat
      o.toNat).2 = 0) (live.put R.PD_STATE 0)) 0 0x40 0) ∧
    ((fun (r : Route) (m : BitVec 32) (o : BitVec 32) => Meets (fun s => s.takesWrite r.val 0x3000 3 (toLe 4 m.toNat) ∧ (s.pdOffReq r.val m.toNat
      o.toNat).2 = 0) live) 0 0x80000000 0) ∧
    ((fun (d : Fin 32) => Meets (fun s => s.power.switching.contains d.val = true) { live with power := { Power.reset with switching := [0] } }) 0) ∧
    ((fun (k : Fin 7) => k.val ≠ 3 ∧ k.val ≠ 4 ∧ Meets (fun _ => True) live) 0) ∧
    ((fun (v : Int) => Meets (fun s => s.injArmed 7 0 = false ∧ s.rdI 16 R.TJ_WARN < v) live) 126) ∧
    ((fun (v : Int) => Meets (fun s => s.injArmed 8 0 = false ∧ 125 < v) live) 126) ∧
    (Meets (fun s => s.rd R.ENV_HOLD ≠ 0) (live.put R.ENV_HOLD 1)) := ⟨
  by simp only [Meets, State.takesWrite]; decide +kernel,
  by simp only [Meets, State.takesWrite]; decide +kernel,
  by simp only [Meets]; decide +kernel,
  by simp only [Meets]; decide +kernel,
  by simp only [Meets]; decide +kernel,
  by simp only [Meets]; decide +kernel,
  by simp only [Meets]; decide +kernel⟩

theorem meets_KeeperFaultsComplete :
    (Meets (fun s => s.keeperUp = true) live) ∧
    (Meets (fun s => s.keeperUp = true) live) ∧
    (Meets (fun s => s.keeperUp = true) live) ∧
    (Meets (fun s => s.diag.keeperHeld = true ∧ s.diag.keeperRun = true ∧ (s.rd R.CLK_FAULT).testBit 6 = false ∧ (s.rd R.FAULT_CAUSE).testBit 4 =
      false ∧ s.diag.restarts.length < 4 ∧ s.injArmed 4 0 = false) { live with diag := { live.diag with keeperHeld := true } }) ∧
    (Meets (fun s => s.diag.keeperHeld = true ∧ s.diag.keeperRun = true ∧ (s.rd R.CLK_FAULT).testBit 6 = false ∧ (s.rd R.FAULT_CAUSE).testBit 4 =
      false) { live with diag := { live.diag with keeperHeld := true } }) ∧
    ((fun (k : Fin 2) => Meets (fun s => s.variant ≠ 1 ∨ k.val = 0) live) 0) := ⟨
  by simp only [Meets]; decide +kernel,
  by simp only [Meets]; decide +kernel,
  by simp only [Meets]; decide +kernel,
  by simp only [Meets]; decide +kernel,
  by simp only [Meets]; decide +kernel,
  by simp only [Meets]; decide +kernel⟩

theorem meets_MeridianControlsComplete :
    ((fun (r : Route) (v : BitVec 32) => Meets (fun s => s.takesWrite r.val 0x2100 4 (toLe 4 v.toNat) ∧ (s.rateWrite v.toNat).2 = 0) (live.put
      R.SERVO_EN 0)) 0 0) ∧
    ((fun (r : Route) (v : Bool) => Meets (fun s => s.takesWrite r.val 0x2100 5 (toLe 1 (boolNat v)) ∧ ((s.servoEnable (boolNat v), 0)).2 = 0) live) 0
      true) ∧
    ((fun (r : Route) (v : BitVec 8) => Meets (fun s => s.takesWrite r.val 0x2100 6 (toLe 1 v.toNat) ∧ (((s.wr R.SRC_SEL v.toNat).reselect, 0)).2 = 0)
      live) 0 0) ∧
    ((fun (r : Route) (cr : CommitRec) => Meets (fun s => s.takesCommit r.val 0x2100 0x0C cr ∧ restepCheck (s.shadowValue r.val) s = 0) (committing
      live 0x2100 0x0C (toLe 8 5))) 0 ((recFor live 0x2100 0x0C (toLe 8 5)))) ∧
    ((fun (r : Route) (p : Fin 16) (cr : CommitRec) => Meets (fun s => s.takesCommit r.val (0x2110 + p.val) 3 cr ∧ noCheck (s.shadowValue r.val) s =
      0) (committing live 0x2110 3 (toLe 4 5))) 0 0 ((recFor live 0x2110 3 (toLe 4 5)))) ∧
    ((fun (r : Route) (t : CwParam) (cr : CommitRec) => Meets (fun s => s.takesCommit r.val (cwEntry t).1 (cwEntry t).2 cr ∧ noCheck (s.shadowValue
      r.val) s = 0) (committing live 0x2110 4 (toLe 4 5))) 0 ((.rxLat 0)) ((recFor live 0x2110 4 (toLe 4 5)))) ∧
    ((fun (t : Nat) => Meets (fun s => s.routes.lockUntil = some t ∧ t ≤ s.tclk)
      { live with routes := { live.routes with lockUntil := some 1800000000000 } }) 1800000000000) := ⟨
  by simp only [Meets, State.takesWrite]; decide +kernel,
  by simp only [Meets, State.takesWrite]; decide +kernel,
  by simp only [Meets, State.takesWrite]; decide +kernel,
  meets_commit live 0x2100 0x0C (toLe 8 5) _ (by decide +kernel) rfl (by decide +kernel) (by decide +kernel) (by decide +kernel),
  meets_commit live 0x2110 3 (toLe 4 5) _ (by decide +kernel) rfl (by decide +kernel) (by decide +kernel) (by decide +kernel),
  meets_commit live 0x2110 4 (toLe 4 5) _ (by decide +kernel) rfl (by decide +kernel) (by decide +kernel) (by decide +kernel),
  by simp only [Meets]; decide +kernel⟩

theorem meets_NetworkTimeComplete :
    ((fun (p : Fin 16) (m : PtpMsg) => m.twoStep = true ∧ Meets (fun s => s.ptpGood p.val m) (live.put (R.PTP_PORT_EN 0) 1)) 0 ptp0) ∧
    ((fun (p : Fin 16) (m : PtpMsg) => Meets (fun s => s.ptpGood p.val m) (live.put (R.PTP_PORT_EN 0) 1)) 0 ptp0) ∧
    ((fun (p : Fin 16) (m : PtpMsg) => Meets (fun s => s.ptpGood p.val m) (live.put (R.PTP_PORT_EN 0) 1)) 0 ptp0) ∧
    ((fun (p : Fin 16) (m : PtpMsg) => Meets (fun s => s.ptpGood p.val m) (live.put (R.PTP_PORT_EN 0) 1)) 0 ptp0) ∧
    ((fun (p : Fin 16) (m : PtpMsg) => Meets (fun s => s.ptpGood p.val m) (live.put (R.PTP_PORT_EN 0) 1)) 0 ptp0) ∧
    ((fun (p : Fin 16) (m : PtpMsg) => Meets (fun s => s.ptpGood p.val m) (live.put (R.PTP_PORT_EN 0) 1)) 0 ptp0) ∧
    ((fun (p : Fin 16) (m : PtpMsg) => m.short = true ∧ Meets (fun s => s.ptpOn p.val = true ∧ m.domain = s.rd R.DOMAIN_NUM) (live.put (R.PTP_PORT_EN
      0) 1)) 0 ({ ptp0 with short := true })) ∧
    ((fun (p : Fin 16) (a : AnnInfo) => Meets (fun s => (s.ptpPort p.val).ann = some a ∧ a.at_ + 3 * intervalTclk a.log ≤ s.tclk) (live.setPtpPort 0
      { PtpPort.reset with ann := some ann0 })) 0 ann0) ∧
    ((fun (p : Fin 16) => Meets (fun s => s.ptpOn p.val = true ∧ s.rd (R.PORT_STATE p.val) = 6) ((live.put (R.PTP_PORT_EN 0) 1).put (R.PORT_STATE 0)
      6)) 0) ∧
    ((fun (p : Fin 16) => Meets (fun s => s.ptpOn p.val = true ∧ s.rd (R.PORT_STATE p.val) = 6) ((live.put (R.PTP_PORT_EN 0) 1).put (R.PORT_STATE 0)
      6)) 0) ∧
    ((fun (p : Fin 16) => Meets (fun s => s.ptpOn p.val = true) (live.put (R.PTP_PORT_EN 0) 1)) 0) ∧
    ((fun (a : Nat) (b : Nat) => Meets (fun s => s.mer.src = some (.ptp a b) ∧ s.mer.lastSync + s.rd R.SRC_LOSS_N * intervalTclk s.mer.syncLog ≤
      s.tclk) { live with mer := { live.mer with src := some (.ptp 0 0) } }) 0 0) ∧
    ((fun (n : Fin 4) (rising : Bool) (hold : Nat) => Meets (fun s => s.replaying = false ∧ s.rd (R.PPS_FILT n.val) ≤ hold ∧ rising = (s.rd
      (R.PPS_EDGE_SEL n.val) == 0)) live) 0 true 1000000) := ⟨
  by simp only [Meets, State.ptpGood]; decide +kernel,
  by simp only [Meets, State.ptpGood]; decide +kernel,
  by simp only [Meets, State.ptpGood]; decide +kernel,
  by simp only [Meets, State.ptpGood]; decide +kernel,
  by simp only [Meets, State.ptpGood]; decide +kernel,
  by simp only [Meets, State.ptpGood]; decide +kernel,
  by simp only [Meets]; decide +kernel,
  by simp only [Meets]; decide +kernel,
  by simp only [Meets]; decide +kernel,
  by simp only [Meets]; decide +kernel,
  by simp only [Meets]; decide +kernel,
  by simp only [Meets]; decide +kernel,
  by simp only [Meets]; decide +kernel⟩

theorem meets_TimedOutputsComplete :
    ((fun (p : Fin 16) (w : BitVec 128) (d : Bytes) (id : Option (BitVec 16)) (t : Nat) => ftOfWord w.toNat = some t ∧ Meets (fun s => p.val <
      s.ethPorts ∧ s.replaying = false ∧ s.now + 400 * ftNs ≤ t ∧ t ≤ s.now + ftSec) live) 0 ((3600 + 1000 * 2 ^ 64)) ([]) none (((3600 * 1000000000 +
      1000) * 65536))) ∧
    ((fun (p : Fin 16) (w : BitVec 128) (d : Bytes) (id : Option (BitVec 16)) (t : Nat) => ftOfWord w.toNat = some t ∧ Meets (fun s => p.val <
      s.ethPorts ∧ s.replaying = false ∧ t < s.now + 400 * ftNs) live) 0 0 ([]) none 0) ∧
    ((fun (p : Fin 16) (f : LaunchFrame) (l : List LaunchFrame) => Meets (fun s => s.launchQ p.val = f :: l ∧ f.launch ≤ s.now) (live.setLaunchQ 0
      [frame0])) 0 frame0 ([])) ∧
    ((fun (p : Fin 16) (f : LaunchFrame) (l : List LaunchFrame) => Meets (fun s => s.launchQ p.val = f :: l ∧ f.launch ≤ s.now ∧ f.slipped = false)
      (live.setLaunchQ 0 [frame0])) 0 frame0 ([])) ∧
    ((fun (p : Fin 16) (d : Bytes) (id : Option (BitVec 16)) => Meets (fun s => p.val < s.ethPorts) live) 0 ([]) none) ∧
    ((fun (r : Route) (p : Fin 16) => Meets (fun s => s.takesRead r.val (0x2110 + p.val) 0x0A) live) 0 0) ∧
    ((fun (r : Route) (n : Fin 16) (f : TioField) (d : Bytes) => Meets (fun s => s.takesWrite r.val (0x2120 + n.val) (tioSub f) d ∧ (s.tioWrite n.val
      (tioSub f) d).2 = 0) live) 0 0 .start ((List.replicate 16 0))) ∧
    ((fun (n : Fin 16) (t : Nat) => Meets (fun s => s.tioNext n.val = some t ∧ t ≤ s.now ∧ s.tioEnd n.val = none ∧ s.rd (R.TIO_MODE n.val) ≠ 5)
      (live.setTioNext 0 (some 0))) 0 0) ∧
    ((fun (n : Fin 16) (t : Nat) => Meets (fun s => s.tioEnd n.val = some t ∧ t ≤ s.now) (live.setTioEnd 0 (some 0))) 0 0) ∧
    ((fun (n : Fin 16) (rising : Bool) (pair : Bool) (hold : Nat) => Meets (fun s => s.replaying = false ∧ s.rd (R.TIO_FILT n.val) ≤ hold) live) 0
      true true 1000000) ∧
    ((fun (n : Fin 16) (rising : Bool) (pair : Bool) (hold : Nat) => Meets (fun s => s.replaying = false ∧ hold < s.rd (R.TIO_FILT n.val)) live) 0
      true true 0) := ⟨
  by simp only [Meets]; decide +kernel,
  by simp only [Meets]; decide +kernel,
  by simp only [Meets]; decide +kernel,
  by simp only [Meets]; decide +kernel,
  by simp only [Meets]; decide +kernel,
  by simp only [Meets, State.takesRead]; decide +kernel,
  by simp only [Meets, State.takesWrite]; decide +kernel,
  by simp only [Meets]; decide +kernel,
  by simp only [Meets]; decide +kernel,
  by simp only [Meets]; decide +kernel,
  by simp only [Meets]; decide +kernel⟩

theorem meets_IngressComplete :
    ((fun (p : Fin 32) (vc : Fin 4) (h : HdrEcc) (num : BitVec 16) => Meets (fun s => s.replaying = false ∧ s.portUp (0x2270 + p.val) = true ∧
      (s.csiHeader p.val h).1 = true) live) 0 0 .ok 0) ∧
    ((fun (p : Fin 32) (vc : Fin 4) (h : HdrEcc) (num : BitVec 16) => Meets (fun s => s.replaying = true) (live.put R.RP_STATE 1)) 0 0 .ok 0) ∧
    ((fun (p : Fin 32) (vc : Fin 4) (h : HdrEcc) (dt : BitVec 6) (ok : Bool) (d : Bytes) => Meets (fun s => s.replaying = false ∧ s.portUp (0x2270 +
      p.val) = true ∧ (s.csiHeader p.val h).1 = true) live) 0 0 .ok 0 true ([])) ∧
    ((fun (p : Fin 32) (vc : Fin 4) (h : HdrEcc) (num : BitVec 16) => Meets (fun s => s.replaying = false ∧ s.portUp (0x2270 + p.val) = true ∧
      (s.csiHeader p.val h).1 = false) live) 0 0 .bad 0) ∧
    ((fun (p : Fin 32) (vc : Fin 4) (h : HdrEcc) (num : BitVec 16) => Meets (fun s => s.replaying = false ∧ s.portUp (0x2270 + p.val) = true ∧
      (s.csiHeader p.val h).1 = true) live) 0 0 .ok 0) ∧
    ((fun (p : Fin 16) (ok : Bool) (b : Bytes) => Meets (fun s => s.replaying = false ∧ s.portUp (0x2290 + p.val) = true ∧ s.siu.linkDown.testBit
      p.val = false) live) 0 true ([])) ∧
    ((fun (c : Fin 4) (id : BitVec 29) (d : Bytes) => Meets (fun s => s.replaying = false ∧ s.portUp (0x22A0 + c.val) = true ∧ s.siu.busOff.testBit
      c.val = false ∧ s.rd R.USDO_EN ≠ 1) usdoOff) 0 0 ([])) ∧
    ((fun (m : Fin 4) (hold : Nat) (i : Nat) => Meets (fun s => s.replaying = false ∧ s.portUp (0x22A4 + m.val) = true ∧ s.rd (R.DRDY_FILT m.val) ≤
      hold ∧ smGet (fun _ => none) s.siu.spi m.val = none ∧ s.spiSlot m.val = some i) (slotAt 4 0x3000)) 0 1000000 0) ∧
    ((fun (m : Fin 4) (d : Bytes) (stamp : Nat) (i : Nat) => Meets (fun s => smGet (fun _ => none) s.siu.spi m.val = some stamp ∧ s.replaying = false
      ∧ s.spiSlot m.val = some i) { slotAt 4 0x3000 with siu := { live.siu with spi := [(0, some 0)] } }) 0 ([]) 0 0) ∧
    ((fun (u : Fin 2) (n : Nat) (b : Bytes) => Meets (fun s => s.replaying = false ∧ s.portUp (0x22A8 + u.val) = true) live) 0 0 ([])) ∧
    ((fun (u : Fin 2) (n : Nat) (b : Bytes) => Meets (fun s => s.replaying = false ∧ s.portUp (0x22A8 + u.val) = true) live) 0 0 ([])) ∧
    ((fun (i : Fin 96) (k : Nat) => Meets (fun s => s.rd (R.SLOT_EN i.val) = 1 ∧ s.rd (R.SLOT_KIND i.val) = 5 ∧ k = s.now * s.rd (R.C_RATE i.val) /
      ftSec ∧ (s.slotRt i.val).enc.grid < k) ((slotAt 5 0x6000).put (R.C_RATE 0) 1)) 0 3600) := ⟨
  by simp only [Meets]; decide +kernel,
  by simp only [Meets]; decide +kernel,
  by simp only [Meets]; decide +kernel,
  by simp only [Meets]; decide +kernel,
  by simp only [Meets]; decide +kernel,
  by simp only [Meets]; decide +kernel,
  by simp only [Meets]; decide +kernel,
  by simp only [Meets]; decide +kernel,
  by simp only [Meets]; decide +kernel,
  by simp only [Meets]; decide +kernel,
  by simp only [Meets]; decide +kernel,
  by simp only [Meets]; decide +kernel⟩

theorem meets_SlotsAndPortsComplete :
    ((fun (r : Route) (i : Fin 96) (v : Bool) => Meets (fun s => s.takesWrite r.val (0x2200 + i.val) 1 (toLe 1 (boolNat v)) ∧ (s.enableSlot i.val v).2
      = 0) (live.put (R.SLOT_KIND 0) 4)) 0 0 true) ∧
    ((fun (i : Fin 96) => Meets (fun s => s.rd (R.SLOT_STATE i.val) = 2 ∧ (s.slotRt i.val).timer + s.rd (R.STALE_T i.val) * ftUs ≤ s.now) (live.put
      (R.SLOT_STATE 0) 2)) 0) ∧
    ((fun (i : Fin 96) => Meets (fun s => s.now < (s.slotRt i.val).timer + s.rd (R.STALE_T i.val) * ftUs) (live.put (R.STALE_T 0) 4000000000)) 0) ∧
    ((fun (i : Fin 96) => Meets (fun s => (s.rd (R.SLOT_STATE i.val) = 1 ∨ s.rd (R.SLOT_STATE i.val) = 3) ∧ (s.slotRt i.val).timer + s.rd (R.DEAD_T
      i.val) * ftUs ≤ s.now) (live.put (R.SLOT_STATE 0) 1)) 0) ∧
    ((fun (i : Fin 96) => Meets (fun s => s.now < (s.slotRt i.val).timer + s.rd (R.DEAD_T i.val) * ftUs) (live.put (R.DEAD_T 0) 4000000000)) 0) ∧
    ((fun (p : Fin 16) => Meets (fun s => s.siu.linkDown.testBit p.val = false ∧
      ({ s with siu := { s.siu with linkDown := setBit s.siu.linkDown p.val } } : State).slotsOn 1 p.val ≠ []) (slotAt 4 0x1000)) 0) ∧
    ((fun (c : Fin 4) => Meets (fun s => s.siu.busOff.testBit c.val = false) live) 0) ∧
    ((fun (p : Fin 32) => Meets (fun s => s.replaying = false ∧ s.slotsOn 0 p.val ≠ []) (slotAt 3 0x0000)) 0) := ⟨
  by simp only [Meets, State.takesWrite]; decide +kernel,
  by simp only [Meets]; decide +kernel,
  by simp only [Meets]; decide +kernel,
  by simp only [Meets]; decide +kernel,
  by simp only [Meets]; decide +kernel,
  by simp only [Meets]; decide +kernel,
  by simp only [Meets]; decide +kernel,
  by simp only [Meets]; decide +kernel⟩

theorem meets_TalusComplete :
    ((fun (p : Pt) (l : List Pt) => Meets (fun s => s.siu.fifoT = p :: l) { live with siu := { live.siu with fifoT := [pt0] } }) pt0 ([])) ∧
    (Meets (fun s => s.siu.fifoT = []) live) ∧
    ((fun (b : Nat) (v : VSet) => Meets (fun s => s.lowestOpen = some (b, v) ∧ s.instant v.epoch + s.lag ≤ s.now) (withSet 0 .opened)) 0 ((vset0 0
      .opened))) ∧
    ((fun (b : Nat) (v : VSet) => Meets (fun s => s.lowestOpen = some (b, v) ∧ s.now < s.instant v.epoch + s.lag) ((withSet 1000000 .opened).put
      R.EPOCH_P 100000000)) 0 ((vset0 1000000 .opened))) ∧
    ((fun (b : Nat) (v : VSet) => Meets (fun s => s.lowestBuilding = some (b, v) ∧ s.deep.rb = none) (withSet 0 .building)) 0 ((vset0 0 .building))) ∧
    ((fun (x : RbBuild) (v : VSet) (w : Nat) => Meets (fun s => s.rbNow = some (x, v, w) ∧ x.fail = false) (building rb0)) rb0 ((vset0 0 .built)) 1) ∧
    ((fun (x : RbBuild) (v : VSet) (w : Nat) => Meets (fun s => s.rbNow = some (x, v, w) ∧ s.rbAllDone x v w = true) (building rb1)) rb1 ((vset0 0
      .built)) 1) ∧
    ((fun (b : Fin 3) (v : VSet) => Meets (fun s => s.vset b.val = some v ∧ v.phase = .built ∧ s.setReleased b.val = true) (withSet 0 .built)) 0
      ((vset0 0 .built))) := ⟨
  by simp only [Meets]; decide +kernel,
  by simp only [Meets]; decide +kernel,
  by simp only [Meets]; decide +kernel,
  by simp only [Meets]; decide +kernel,
  by simp only [Meets]; decide +kernel,
  by simp only [Meets]; decide +kernel,
  by simp only [Meets]; decide +kernel,
  by simp only [Meets]; decide +kernel⟩

theorem meets_SentinelFlowCompletes :
    ((fun (p : Pt) (l : List Pt) => Meets (fun s => s.siu.fifoS = p :: l) { live with siu := { live.siu with fifoS := [pt0] } }) pt0 ([])) ∧
    (Meets (fun s => s.snt.running = true ∧ s.sliceEnd s.snt.nextEnd ≤ s.now) { live with snt := { live.snt with running := true } }) ∧
    (Meets (fun s => s.now < s.sliceEnd s.snt.nextEnd) { live with snt := { live.snt with nextEnd := 10000000000 } }) ∧
    (Meets (fun s => s.rd R.SNT_STATE = 2 ∧ s.snt.firstSlice ≤ s.snt.nextClose ∧ s.sliceCloseT s.snt.nextClose ≤ s.now) live) ∧
    (Meets (fun s => s.now < s.sliceCloseT s.snt.nextClose) { live with snt := { live.snt with nextClose := 10000000000 } }) ∧
    ((fun (r : Res) (l : List Res) => Meets (fun s => s.snt.waiting = r :: l ∧ s.injArmed 23 0 = false)
      { live with snt := { live.snt with waiting := [res0] } }) res0 ([])) ∧
    ((fun (p : Fin 8) (k : BitVec 64) (h : Bool) (f : Bool) (m : Fin 8) (recs : List (BitVec 64)) => Meets (fun s => s.hears p.val = true) (live.put
      R.RANGE_N 2)) 1 0 true true 0 ([])) ∧
    ((fun (p : Fin 8) (k : BitVec 64) (h : Bool) (f : Bool) (m : Fin 8) (recs : List (BitVec 64)) => Meets (fun s => s.hears p.val = false) live) 0 0
      true true 0 ([])) ∧
    ((fun (p : Fin 8) (t : Nat) => Meets (fun s => p.val < s.rd R.RANGE_N ∧ p.val ≠ s.host.rangeId ∧ s.reachable p.val = true ∧ (s.peer p.val).lastXch
      = some t ∧ t + s.rd R.PEER_TMO * tclkUs ≤ s.tclk) (((live.put R.RANGE_N 2).put R.PEER_MASK 2).setPeer 1
      { rid := 1, lastXch := some 0, hostLive := true, failed := false, mapNo := 0 })) 1 0) ∧
    ((fun (g : Fin 262144) => Meets (fun s => s.rd R.SNT_STATE = 2 ∧ s.snt.clearing = false) live) 0) ∧
    (Meets (fun s => s.snt.clearing = true ∧ s.rd R.SNT_STATE = 1 ∧ s.snt.selfTest = false)
      { (live.put R.SNT_STATE 1) with snt := { live.snt with clearing := true } }) ∧
    (Meets (fun s => s.snt.clearing = true ∧ s.rd R.SNT_STATE ≠ 1) { live with snt := { live.snt with clearing := true } }) := ⟨
  by simp only [Meets]; decide +kernel,
  by simp only [Meets]; decide +kernel,
  by simp only [Meets]; decide +kernel,
  by simp only [Meets]; decide +kernel,
  by simp only [Meets]; decide +kernel,
  by simp only [Meets]; decide +kernel,
  by simp only [Meets]; decide +kernel,
  by simp only [Meets]; decide +kernel,
  by simp only [Meets]; decide +kernel,
  by simp only [Meets]; decide +kernel,
  by simp only [Meets]; decide +kernel,
  by simp only [Meets]; decide +kernel⟩

theorem meets_SentinelOutputsComplete :
    ((fun (r : Route) => Meets (fun s => s.takesWrite r.val 0x2510 2 (toLe 1 1) ∧ (State.corCommit s).2 = 0)
      { live with snt := { live.snt with corData := corBytes } }) 0) ∧
    ((fun (c : Corridor) => Meets (fun s => s.snt.corNext = some c ∧ ceilDiv (c.committed + 20 * ftUs) s.sliceLen * s.sliceLen ≤ s.now)
      { live with snt := { live.snt with corNext := some cor0 } }) cor0) ∧
    ((fun (c : Corridor) => Meets (fun s => s.snt.cor = some c ∧ c.stale = false ∧ s.rd R.COR_TMO * ftUs < s.now - c.t)
      { live with snt := { live.snt with cor := some cor0 } }) cor0) ∧
    ((fun (r : Route) (m : BitVec 96) => Meets (fun s => s.takesWrite r.val 0x2500 0x0E (toLe 12 m.toNat) ∧ ((s.w1c R.SUSPECT_MASK m.toNat, 0)).2 = 0)
      live) 0 0) ∧
    ((fun (r : Route) (cr : CommitRec) => Meets (fun s => s.takesCommit r.val 0x2500 0x1F cr ∧ sntRestartCheck (s.shadowValue r.val) s = 0)
      (committing live 0x2500 0x1F [1])) 0 ((recFor live 0x2500 0x1F [1]))) ∧
    (Meets (fun s => s.snt.selfTest = true ∧ s.injArmed 24 0 = false) { live with snt := { live.snt with selfTest := true } }) ∧
    (Meets (fun s => s.snt.selfTest = true) { live with snt := { live.snt with selfTest := true } }) ∧
    (Meets (fun s => s.snt.hbIndex < s.now / (500 * ftUs)) live) ∧
    ((fun (busy : Bool) => Meets (fun s => s.snt.hzHeld = none ∧ s.replaying = false ∧ s.pdOn 16 = true ∧ s.rd R.HZ_PHASE * ftUs ≤ s.now ∧
      s.snt.hzLast ≠ some s.hazardIndex) live) true) ∧
    ((fun (w : Nat) (d : Bytes) => Meets (fun s => s.snt.hzHeld = some (w, d) ∧ w + s.rd R.HZ_PERIOD * ftUs / 2 ≤ s.now)
      { live with snt := { live.snt with hzHeld := some (0, []) } }) 0 ([])) ∧
    ((fun (x : Res) (l : List Res) => Meets (fun s => s.rd R.SNT_STATE = 2 ∧ s.snt.waiting = x :: l ∧ s.snt.firstSlice ≤ x.slice ∧ s.sliceCloseT
      x.slice + 2 * ftUs < s.now) { live with snt := { live.snt with waiting := [res0] } }) res0 ([])) ∧
    (Meets (fun s => s.snt.failFrom ≠ none ∧ s.sliceCloseT s.snt.nextClose ≤ s.now ∧ s.rd R.SNT_STATE ≠ 2)
      { (live.put R.SNT_STATE 1) with snt := { live.snt with failFrom := some 0 } }) := ⟨
  by simp only [Meets, State.takesWrite]; decide +kernel,
  by simp only [Meets]; decide +kernel,
  by simp only [Meets]; decide +kernel,
  by simp only [Meets, State.takesWrite]; decide +kernel,
  meets_commit live 0x2500 0x1F [1] _ (by decide +kernel) rfl (by decide +kernel) (by decide +kernel) (by decide +kernel),
  by simp only [Meets]; decide +kernel,
  by simp only [Meets]; decide +kernel,
  by simp only [Meets]; decide +kernel,
  by simp only [Meets]; decide +kernel,
  by simp only [Meets]; decide +kernel,
  by simp only [Meets]; decide +kernel,
  by simp only [Meets]; decide +kernel⟩

theorem meets_SpurControlAndMatrix :
    ((fun (n : Fin 128) (w : BitVec 64) => 7 ≤ wordClass w.toNat ∧ Meets (fun s => s.issues n.val w.toNat) (spurAt 0xFFFFFFFFFFFFFFFF)) 0
      0xFFFFFFFFFFFFFFFF) ∧
    ((fun (n : Fin 128) (w : BitVec 64) => wordClass w.toNat < 7 ∧ opListed (wordClass w.toNat) (wordOp w.toNat) = false ∧ Meets (fun s => s.issues
      n.val w.toNat) (spurAt 0)) 0 0) ∧
    ((fun (n : Fin 128) (f : BitVec 54) => Meets (fun s => s.issues n.val (spurWord 0 1 f.toNat)) (spurAt (spurWord 0 1 0))) 0 0) ∧
    ((fun (n : Fin 128) (f : BitVec 54) => Meets (fun s => s.issues n.val (spurWord 0 2 f.toNat)) (spurAt (spurWord 0 2 0))) 0 0) ∧
    ((fun (n : Fin 128) (f : BitVec 54) => Meets (fun s => s.issues n.val (spurWord 0 3 f.toNat)) (spurAt (spurWord 0 3 0))) 0 0) ∧
    ((fun (n : Fin 128) (f : BitVec 54) => Meets (fun s => s.issues n.val (spurWord 0 4 f.toNat)) (spurAt (spurWord 0 4 0))) 0 0) ∧
    ((fun (n : Fin 128) (f : BitVec 54) => Meets (fun s => s.issues n.val (spurWord 0 5 f.toNat)) (spurAt (spurWord 0 5 0))) 0 0) ∧
    ((fun (n : Fin 128) (f : BitVec 54) => Meets (fun s => s.issues n.val (spurWord 0 6 f.toNat)) (spurAt (spurWord 0 6 0))) 0 0) ∧
    ((fun (n : Fin 128) (f : BitVec 54) => Meets (fun s => s.issues n.val (spurWord 0 7 f.toNat)) (spurAt (spurWord 0 7 0))) 0 0) ∧
    ((fun (n : Fin 128) (f : BitVec 54) (far : Option Bytes) => Meets (fun s => s.issues n.val (spurWord 1 1 f.toNat) ∧ fMmaFmt f.toNat < 0xC ∧ isMx
      (fMmaFmt f.toNat) = false ∧ (s.devRead n.val ((s.spur n.val).addr (fAin f.toNat)) (32 * rowBytes (fMmaFmt f.toNat)) far).st = .ok) (spurAt
      (spurWord 1 1 0))) 0 0 none) ∧
    ((fun (n : Fin 128) (f : BitVec 54) (far : Option Bytes) => Meets (fun s => s.issues n.val (spurWord 1 2 f.toNat) ∧ fMmaFmt f.toNat < 0xC ∧ isMx
      (fMmaFmt f.toNat) = false ∧ (s.devRead n.val ((s.spur n.val).addr (fAin f.toNat)) (32 * rowBytes (fMmaFmt f.toNat)) far).st = .ok) (spurAt
      (spurWord 1 2 0))) 0 0 none) ∧
    ((fun (n : Fin 128) (f : BitVec 54) (far : Option Bytes) (t : State) => Meets (fun s => s.issues n.val (spurWord 1 3 f.toNat) ∧ fMmaFmt f.toNat <
      0xC ∧ fmtMatch (fMmaFmt f.toNat) ((s.spur n.val).wbuf (fWb f.toNat)).fmt = true ∧ fAcc f.toNat + fRows f.toNat ≤ 512 ∧ s.macRows n.val f.toNat
      (fRows f.toNat) 0 far = some t) (spurAt (spurWord 1 3 0))) 0 0 none (((spurAt (spurWord 1 3 0)).fresh.macRows 0 0 (fRows 0) 0 none).getD live)) := ⟨
  by simp only [Meets, State.issues]; decide +kernel,
  by simp only [Meets, State.issues]; decide +kernel,
  meets_issues _,
  meets_issues _,
  meets_issues _,
  meets_issues _,
  meets_issues _,
  meets_issues _,
  meets_issues _,
  by simp only [Meets, State.issues]; decide +kernel,
  by simp only [Meets, State.issues]; decide +kernel,
  ⟨rfl, by simp only [State.issues]; decide +kernel, by decide, by decide +kernel, by decide, some_getD live (by decide +kernel)⟩⟩

theorem meets_SpurFloatLanes :
    ((fun (n : Fin 128) (f : BitVec 54) => Meets (fun s => s.issues n.val (spurWord 2 0x01 f.toNat)) (spurAt (spurWord 2 0x01 0))) 0 0) ∧
    ((fun (n : Fin 128) (f : BitVec 54) => Meets (fun s => s.issues n.val (spurWord 2 0x02 f.toNat)) (spurAt (spurWord 2 0x02 0))) 0 0) ∧
    ((fun (n : Fin 128) (f : BitVec 54) => Meets (fun s => s.issues n.val (spurWord 2 0x03 f.toNat)) (spurAt (spurWord 2 0x03 0))) 0 0) ∧
    ((fun (n : Fin 128) (f : BitVec 54) => Meets (fun s => s.issues n.val (spurWord 2 0x04 f.toNat)) (spurAt (spurWord 2 0x04 0))) 0 0) ∧
    ((fun (n : Fin 128) (f : BitVec 54) => Meets (fun s => s.issues n.val (spurWord 2 0x05 f.toNat)) (spurAt (spurWord 2 0x05 0))) 0 0) ∧
    ((fun (n : Fin 128) (f : BitVec 54) => Meets (fun s => s.issues n.val (spurWord 2 0x06 f.toNat)) (spurAt (spurWord 2 0x06 0))) 0 0) ∧
    ((fun (n : Fin 128) (f : BitVec 54) => Meets (fun s => s.issues n.val (spurWord 2 0x07 f.toNat)) (spurAt (spurWord 2 0x07 0))) 0 0) ∧
    ((fun (n : Fin 128) (f : BitVec 54) => Meets (fun s => s.issues n.val (spurWord 2 0x08 f.toNat)) (spurAt (spurWord 2 0x08 0))) 0 0) ∧
    ((fun (n : Fin 128) (f : BitVec 54) => Meets (fun s => s.issues n.val (spurWord 2 0x09 f.toNat)) (spurAt (spurWord 2 0x09 0))) 0 0) ∧
    ((fun (n : Fin 128) (f : BitVec 54) => Meets (fun s => s.issues n.val (spurWord 2 0x0A f.toNat)) (spurAt (spurWord 2 0x0A 0))) 0 0) ∧
    ((fun (n : Fin 128) (f : BitVec 54) => Meets (fun s => s.issues n.val (spurWord 2 0x0B f.toNat)) (spurAt (spurWord 2 0x0B 0))) 0 0) ∧
    ((fun (n : Fin 128) (f : BitVec 54) => Meets (fun s => s.issues n.val (spurWord 2 0x0C f.toNat)) (spurAt (spurWord 2 0x0C 0))) 0 0) ∧
    ((fun (n : Fin 128) (f : BitVec 54) => Meets (fun s => s.issues n.val (spurWord 2 0x0D f.toNat)) (spurAt (spurWord 2 0x0D 0))) 0 0) ∧
    ((fun (n : Fin 128) (f : BitVec 54) => Meets (fun s => s.issues n.val (spurWord 2 0x0E f.toNat)) (spurAt (spurWord 2 0x0E 0))) 0 0) ∧
    ((fun (n : Fin 128) (f : BitVec 54) => Meets (fun s => s.issues n.val (spurWord 2 0x10 f.toNat) ∧ cvtTarget (fVFmt f.toNat) = true) (spurAt
      (spurWord 2 0x10 0))) 0 0) ∧
    ((fun (n : Fin 128) (f : BitVec 54) => Meets (fun s => s.issues n.val (spurWord 2 0x11 f.toNat) ∧ isMx (fVFmt f.toNat) = true) (spurAt (spurWord 2
      0x11 0x1000000))) 0 0x1000000) ∧
    ((fun (n : Fin 128) (f : BitVec 54) => Meets (fun s => s.issues n.val (spurWord 2 0x12 f.toNat)) (spurAt (spurWord 2 0x12 0))) 0 0) ∧
    ((fun (n : Fin 128) (f : BitVec 54) => Meets (fun s => s.issues n.val (spurWord 2 0x13 f.toNat)) (spurAt (spurWord 2 0x13 0))) 0 0) := ⟨
  meets_issues _,
  meets_issues _,
  meets_issues _,
  meets_issues _,
  meets_issues _,
  meets_issues _,
  meets_issues _,
  meets_issues _,
  meets_issues _,
  meets_issues _,
  meets_issues _,
  meets_issues _,
  meets_issues _,
  meets_issues _,
  by simp only [Meets, State.issues]; decide +kernel,
  by simp only [Meets, State.issues]; decide +kernel,
  meets_issues _,
  meets_issues _⟩

theorem meets_SpurIntegerLanes :
    ((fun (n : Fin 128) (f : BitVec 54) => Meets (fun s => s.issues n.val (spurWord 2 0x20 f.toNat)) (spurAt (spurWord 2 0x20 0))) 0 0) ∧
    ((fun (n : Fin 128) (f : BitVec 54) => Meets (fun s => s.issues n.val (spurWord 2 0x21 f.toNat)) (spurAt (spurWord 2 0x21 0))) 0 0) ∧
    ((fun (n : Fin 128) (f : BitVec 54) => Meets (fun s => s.issues n.val (spurWord 2 0x22 f.toNat)) (spurAt (spurWord 2 0x22 0))) 0 0) ∧
    ((fun (n : Fin 128) (f : BitVec 54) => Meets (fun s => s.issues n.val (spurWord 2 0x23 f.toNat)) (spurAt (spurWord 2 0x23 0))) 0 0) ∧
    ((fun (n : Fin 128) (f : BitVec 54) => Meets (fun s => s.issues n.val (spurWord 2 0x24 f.toNat)) (spurAt (spurWord 2 0x24 0))) 0 0) ∧
    ((fun (n : Fin 128) (f : BitVec 54) => Meets (fun s => s.issues n.val (spurWord 2 0x25 f.toNat)) (spurAt (spurWord 2 0x25 0))) 0 0) ∧
    ((fun (n : Fin 128) (f : BitVec 54) => Meets (fun s => s.issues n.val (spurWord 2 0x26 f.toNat)) (spurAt (spurWord 2 0x26 0))) 0 0) ∧
    ((fun (n : Fin 128) (f : BitVec 54) => Meets (fun s => s.issues n.val (spurWord 2 0x27 f.toNat)) (spurAt (spurWord 2 0x27 0))) 0 0) ∧
    ((fun (n : Fin 128) (f : BitVec 54) => Meets (fun s => s.issues n.val (spurWord 2 0x28 f.toNat)) (spurAt (spurWord 2 0x28 0))) 0 0) ∧
    ((fun (n : Fin 128) (f : BitVec 54) => Meets (fun s => s.issues n.val (spurWord 2 0x29 f.toNat)) (spurAt (spurWord 2 0x29 0))) 0 0) := ⟨
  meets_issues _,
  meets_issues _,
  meets_issues _,
  meets_issues _,
  meets_issues _,
  meets_issues _,
  meets_issues _,
  meets_issues _,
  meets_issues _,
  meets_issues _⟩

theorem meets_SpurMoves :
    ((fun (n : Fin 128) (f : BitVec 54) (far : Option Bytes) => Meets (fun s => s.issues n.val (spurWord 3 1 f.toNat) ∧ (s.devRead n.val ((s.spur
      n.val).movAddr f.toNat) 128 far).st = .ok) (spurAt (spurWord 3 1 0))) 0 0 none) ∧
    ((fun (n : Fin 128) (f : BitVec 54) (far : Option Bytes) => Meets (fun s => s.issues n.val (spurWord 3 3 f.toNat) ∧ fMFmt f.toNat < 0xE ∧
      (s.devRead n.val ((s.spur n.val).movAddr f.toNat) (packedBytes (fMFmt f.toNat)) far).st = .ok) (spurAt (spurWord 3 3 0))) 0 0 none) ∧
    ((fun (n : Fin 128) (f : BitVec 54) (t : State) => Meets (fun s => s.issues n.val (spurWord 3 2 f.toNat) ∧ s.devWrite n.val ((s.spur
      n.val).movAddr f.toNat) (toLe 128 ((s.spur n.val).vec (fMV f.toNat))) ((s.spur n.val).vP.testBit (fMV f.toNat)) = (.ok, t)) (spurAt (spurWord 3
      2 0))) 0 0 (((spurAt (spurWord 3 2 0)).fresh.devWrite (0 : Fin 128).val (((spurAt (spurWord 3 2 0)).fresh.spur (0 : Fin 128).val).movAddr (0 :
      BitVec 54).toNat) (toLe 128 (((spurAt (spurWord 3 2 0)).fresh.spur (0 : Fin 128).val).vec (fMV (0 : BitVec 54).toNat))) ((((spurAt (spurWord 3 2
      0)).fresh.spur (0 : Fin 128).val)).vP.testBit (fMV (0 : BitVec 54).toNat))).2)) ∧
    ((fun (n : Fin 128) (f : BitVec 54) (t : State) => Meets (fun s => s.issues n.val (spurWord 3 4 f.toNat) ∧ fMFmt f.toNat < 0xC ∧ s.devWrite n.val
      ((s.spur n.val).movAddr f.toNat) (toLe (packedBytes (fMFmt f.toNat)) ((s.spur n.val).vec (fMV f.toNat))) ((s.spur n.val).vP.testBit (fMV
      f.toNat)) = (.ok, t)) (spurAt (spurWord 3 4 0))) 0 0 (((spurAt (spurWord 3 4 0)).fresh.devWrite (0 : Fin 128).val (((spurAt (spurWord 3 4
      0)).fresh.spur (0 : Fin 128).val).movAddr (0 : BitVec 54).toNat) (toLe (packedBytes (fMFmt (0 : BitVec 54).toNat)) (((spurAt (spurWord 3 4
      0)).fresh.spur (0 : Fin 128).val).vec (fMV (0 : BitVec 54).toNat))) ((((spurAt (spurWord 3 4 0)).fresh.spur (0 : Fin 128).val)).vP.testBit (fMV
      (0 : BitVec 54).toNat))).2)) ∧
    ((fun (n : Fin 128) (f : BitVec 54) (t : State) => Meets (fun s => s.issues n.val (spurWord 3 8 f.toNat) ∧ s.devWrite n.val ((s.spur
      n.val).movAddr f.toNat) (toLe 1 (laneOf ((s.spur n.val).vec (fMV f.toNat)) 31)) ((s.spur n.val).vP.testBit (fMV f.toNat)) = (.ok, t)) (spurAt
      (spurWord 3 8 0))) 0 0 (((spurAt (spurWord 3 8 0)).fresh.devWrite (0 : Fin 128).val (((spurAt (spurWord 3 8 0)).fresh.spur (0 : Fin
      128).val).movAddr (0 : BitVec 54).toNat) (toLe 1 (laneOf (((spurAt (spurWord 3 8 0)).fresh.spur (0 : Fin 128).val).vec (fMV (0 : BitVec
      54).toNat)) 31)) ((((spurAt (spurWord 3 8 0)).fresh.spur (0 : Fin 128).val)).vP.testBit (fMV (0 : BitVec 54).toNat))).2)) ∧
    ((fun (n : Fin 128) (f : BitVec 54) => Meets (fun s => s.issues n.val (spurWord 3 5 f.toNat)) (spurAt (spurWord 3 5 0))) 0 0) ∧
    ((fun (n : Fin 128) (f : BitVec 54) => Meets (fun s => s.issues n.val (spurWord 3 6 f.toNat)) (spurAt (spurWord 3 6 0))) 0 0) ∧
    ((fun (n : Fin 128) (f : BitVec 54) => Meets (fun s => s.issues n.val (spurWord 3 7 f.toNat)) (spurAt (spurWord 3 7 0))) 0 0) ∧
    ((fun (n : Fin 128) (f : BitVec 54) => Meets (fun s => s.issues n.val (spurWord 3 9 f.toNat)) (spurAt (spurWord 3 9 0))) 0 0) := ⟨
  by simp only [Meets, State.issues]; decide +kernel,
  by simp only [Meets, State.issues]; decide +kernel,
  by refine ⟨rfl, (by simp only [State.issues]; decide +kernel), fst_ok (by decide +kernel)⟩,
  by refine ⟨rfl, (by simp only [State.issues]; decide +kernel), by decide, fst_ok (by decide +kernel)⟩,
  by refine ⟨rfl, (by simp only [State.issues]; decide +kernel), fst_ok (by decide +kernel)⟩,
  meets_issues _,
  meets_issues _,
  meets_issues _,
  meets_issues _⟩

theorem meets_SpurListsAndFences :
    ((fun (n : Fin 128) (f : BitVec 54) (far : Option Bytes) (d : Nat) (t : State) => Meets (fun s => s.issues n.val (spurWord 4 1 f.toNat) ∧
      s.listDesc n.val f.toNat .gath = some d ∧ s.listRun .gath n.val f.toNat d (fCnt f.toNat) 0 far = some t) (spurAt (spurWord 4 1 listF))) 0 listF
      none desc0 (((spurAt (spurWord 4 1 listF)).fresh.listRun .gath 0 listF desc0 1 0 none).getD live)) ∧
    ((fun (n : Fin 128) (f : BitVec 54) (far : Option Bytes) (d : Nat) (t : State) => Meets (fun s => s.issues n.val (spurWord 4 2 f.toNat) ∧
      s.listDesc n.val f.toNat .scat = some d ∧ s.listRun .scat n.val f.toNat d (fCnt f.toNat) 0 far = some t) (spurAt (spurWord 4 2 listF))) 0 listF
      none desc0 (((spurAt (spurWord 4 2 listF)).fresh.listRun .scat 0 listF desc0 1 0 none).getD live)) ∧
    ((fun (n : Fin 128) (f : BitVec 54) (far : Option Bytes) (d : Nat) (t : State) => Meets (fun s => s.issues n.val (spurWord 4 3 f.toNat) ∧
      s.listDesc n.val f.toNat .scata = some d ∧ s.listRun .scata n.val f.toNat d (fCnt f.toNat) 0 far = some t) (spurAt (spurWord 4 3 listF))) 0
      listF none desc0 (((spurAt (spurWord 4 3 listF)).fresh.listRun .scata 0 listF desc0 1 0 none).getD live)) ∧
    ((fun (n : Fin 128) (f : BitVec 54) => Meets (fun s => s.issues n.val (spurWord 5 1 f.toNat)) (spurAt (spurWord 5 1 0))) 0 0) ∧
    ((fun (n : Fin 128) (scope : Nat) => Meets (fun s => (s.spur n.val).fence = some scope ∧ s.fencePending n.val scope = false ∧ (s.spur
      n.val).failedWrite = false) (fenced [])) 0 15) ∧
    ((fun (n : Fin 128) (scope : Nat) => Meets (fun s => (s.spur n.val).fence = some scope ∧ s.fencePending n.val scope = true) (fenced [write0])) 0
      15) ∧
    ((fun (n : Fin 128) => Meets (fun s => (s.spur n.val).srFixed = false ∧ (s.spur n.val).srT + srPeriod ≤ s.tclk) live) 0) := ⟨
  ⟨rfl, by simp only [State.issues]; decide +kernel, by decide +kernel, some_getD live (by decide +kernel)⟩,
  ⟨rfl, by simp only [State.issues]; decide +kernel, by decide +kernel, some_getD live (by decide +kernel)⟩,
  ⟨rfl, by simp only [State.issues]; decide +kernel, by decide +kernel, some_getD live (by decide +kernel)⟩,
  meets_issues _,
  by simp only [Meets]; decide +kernel,
  by simp only [Meets]; decide +kernel,
  by simp only [Meets]; decide +kernel⟩

theorem meets_CairnCommandsComplete :
    ((fun (n : Fin 128) (f : BitVec 54) (k : Nat) => Meets (fun s => s.issues n.val (spurWord 6 1 f.toNat)) (spurAt (spurWord 6 1 0))) 0 0 0) ∧
    ((fun (n : Fin 128) (f : BitVec 54) (k : Nat) => Meets (fun s => s.issues n.val (spurWord 6 2 f.toNat)) (spurAt (spurWord 6 2 0))) 0 0 0) ∧
    ((fun (n : Fin 128) (f : BitVec 54) (k : Nat) => Meets (fun s => s.issues n.val (spurWord 6 3 f.toNat) ∧ (s.cairn (fCairn f.toNat)).cstate =
      .armed ∧ condHolds 0 (s.cairn (fCairn f.toNat)).value (fVal f.toNat) = true) (spurAt (spurWord 6 3 0))) 0 0 0) ∧
    ((fun (n : Fin 128) (f : BitVec 54) (k : Nat) => Meets (fun s => s.issues n.val (spurWord 6 4 f.toNat) ∧ (s.cairn (fCairn f.toNat)).cstate =
      .armed ∧ condHolds 1 (s.cairn (fCairn f.toNat)).value (fVal f.toNat) = true) (spurAt (spurWord 6 4 0))) 0 0 0) ∧
    ((fun (n : Fin 128) (f : BitVec 54) (k : Nat) => Meets (fun s => s.issues n.val (spurWord 6 5 f.toNat) ∧ (s.cairn (fCairn f.toNat)).cstate =
      .armed ∧ condHolds 2 (s.cairn (fCairn f.toNat)).value (fVal f.toNat) = true) (spurAt (spurWord 6 5 0))) 0 0 0) ∧
    ((fun (n : Fin 128) (f : BitVec 54) (k : Nat) => Meets (fun s => s.issues n.val (spurWord 6 3 f.toNat) ∧ (s.cairn (fCairn f.toNat)).cstate ≠
      .armed) (spurAt (spurWord 6 3 0x100000000))) 0 0x100000000 0) ∧
    ((fun (a : BitVec 16) (f : BitVec 54) (k : Nat) => a.toNat / 4096 ≠ 7 ∧ Meets (fun _ => True) live) 0 0 0) ∧
    ((fun (a : BitVec 16) (f : BitVec 54) (k : Nat) => a.toNat / 4096 ≠ 7 ∧ Meets (fun _ => True) live) 0 0 0) ∧
    ((fun (a : BitVec 16) (f : BitVec 54) (k : Nat) => a.toNat / 4096 ≠ 7 ∧ Meets (fun _ => True) live) 0 0 0) ∧
    ((fun (a : BitVec 16) (f : BitVec 54) (k : Nat) => a.toNat / 4096 ≠ 7 ∧ Meets (fun _ => True) live) 0 0 0) ∧
    ((fun (a : BitVec 16) (f : BitVec 54) (k : Nat) => a.toNat / 4096 ≠ 7 ∧ Meets (fun _ => True) live) 0 0 0) ∧
    ((fun (a : BitVec 16) (st : WaitStatus) (l : List (Nat × WaitStatus)) => Meets (fun s => takeWake a.toNat s.cs.wakes = (some st, l) ∧ a.toNat <
      128 ∧ (s.spur a.toNat).waiting = true ∧ st = .ok) waking) 0 .ok ([])) ∧
    ((fun (w : Fin 8192) (x : Waiter) => Meets (fun s => s.waiter w.val = some x ∧ x.deadline ≤ s.now) (sleeping 0)) 0 ((waiter0 0))) ∧
    ((fun (w : Fin 8192) (x : Waiter) => Meets (fun s => s.waiter w.val = some x ∧ s.now < x.deadline) (sleeping 300000000000000000)) 0 ((waiter0
      300000000000000000))) ∧
    ((fun (a : BitVec 16) (c : Fin 16384) (v : BitVec 32) => a.toNat / 4096 ≠ 7 ∧ Meets (fun s => (s.cairn c.val).cstate ≠ .free ∧ (s.cairn
      c.val).owner = a.toNat) armed) 0 0 0) ∧
    ((fun (a : BitVec 16) (c : Fin 16384) (v : BitVec 32) => a.toNat / 4096 ≠ 7 ∧ Meets (fun s => (s.cairn c.val).cstate = .free ∨ (s.cairn
      c.val).owner ≠ a.toNat) live) 0 0 0) ∧
    ((fun (c : Fin 16384) (v : BitVec 64) => Meets (fun s => s.replaying = false) live) 0 0) ∧
    ((fun (r : Route) (d : Bytes) => Meets (fun s => s.takesWrite r.val (0x2A04 + r.val) 1 d ∧ (s.hwReq r.val d).2 = 0) armed) 0 ([0, 0, 0, 0, 0, 0,
      0, 0, 1, 0, 0, 0])) ∧
    ((fun (r : Route) => Meets (fun s => s.takesWrite r.val (0x2A04 + r.val) 3 (toLe 1 1) ∧ ((s.hwCancel r.val, 0)).2 = 0) live) 0) ∧
    ((fun (r : Route) => Meets (fun s => s.takesWrite r.val (0x2A04 + r.val) 3 (toLe 1 0) ∧ ((s, 0)).2 = 0) live) 0) := ⟨
  meets_issues _,
  meets_issues _,
  by simp only [Meets, State.issues]; decide +kernel,
  by simp only [Meets, State.issues]; decide +kernel,
  by simp only [Meets, State.issues]; decide +kernel,
  by simp only [Meets, State.issues]; decide +kernel,
  by simp only [Meets]; decide +kernel,
  by simp only [Meets]; decide +kernel,
  by simp only [Meets]; decide +kernel,
  by simp only [Meets]; decide +kernel,
  by simp only [Meets]; decide +kernel,
  by simp only [Meets]; decide +kernel,
  by simp only [Meets]; decide +kernel,
  by simp only [Meets]; decide +kernel,
  by simp only [Meets]; decide +kernel,
  by simp only [Meets]; decide +kernel,
  by simp only [Meets]; decide +kernel,
  by simp only [Meets, State.takesWrite]; decide +kernel,
  by simp only [Meets, State.takesWrite]; decide +kernel,
  by simp only [Meets, State.takesWrite]; decide +kernel⟩

theorem meets_QueueCommandsComplete :
    ((fun (q : Fin 256) (a : BitVec 16) (d : Bytes) (p : Bool) => a.toNat / 4096 ≠ 7 ∧ Meets (fun _ => True) live) 0 0 ([]) true) ∧
    ((fun (q : Fin 256) (a : BitVec 16) (d : Bytes) (p : Bool) => a.toNat / 4096 = 7 ∧ Meets (fun s => s.takesWrite (a.toNat % 4096 % 4) (0x2B00 +
      q.val) 0x20 d ∧ ((s.qPush q.val a.toNat d p, 0)).2 = 0) (queueOf 0x7000)) 0 0x7000 ([]) true) ∧
    ((fun (q : Fin 256) (a : BitVec 16) (n : Fin 257) => a.toNat / 4096 ≠ 7 ∧ Meets (fun s => s.qEnabled q.val = true ∧ agentMatches (s.rd (R.Q_CONS
      q.val)) a.toNat = true ∧ (s.queue q.val).wait = none) (queueOf 0)) 0 0 0) ∧
    ((fun (q : Fin 256) (a : BitVec 16) (n : Fin 257) (d : Bytes) (p : Bool) (t : State) => a.toNat / 4096 = 7 ∧ a ≠ 0x7001 ∧ Meets (fun s =>
      s.routeTakes (a.toNat % 4096) ∧ s.qEnabled q.val = true ∧ agentMatches (s.rd (R.Q_CONS q.val)) a.toNat = true ∧ qTakeN q.val a.toNat n.val s =
      (d, p, t)) (queueOf 0x7000)) 0 0x7000 0 ([]) false ((queueOf 0x7000).fresh)) ∧
    ((fun (q : Fin 256) (w : PopWait) => Meets (fun s => (s.queue q.val).wait = some w ∧ s.qCount q.val ≠ 0 ∧ w.agent ≠ 0x7001) (popping 0 1)) 0
      ((pop0 0))) ∧
    ((fun (q : Fin 256) (w : PopWait) => Meets (fun s => (s.queue q.val).wait = some w ∧ w.agent = 0x7001 ∧ w.since + 8 * tclkUs ≤ s.tclk ∧ s.qCount
      q.val = 0) (popping 0x7001 0)) 0 ((pop0 0x7001))) ∧
    ((fun (q : Fin 256) (a : BitVec 16) => a.toNat / 4096 ≠ 7 ∧ Meets (fun s => s.qEnabled q.val = true ∧ agentMatches (s.rd (R.Q_PROD q.val)) a.toNat
      = true) (queueOf 0)) 0 0) ∧
    ((fun (q : Fin 256) (a : BitVec 16) => a.toNat / 4096 ≠ 7 ∧ Meets (fun s => s.qEnabled q.val = true ∧ agentMatches (s.rd (R.Q_PROD q.val)) a.toNat
      = true) (queueOf 0)) 0 0) ∧
    ((fun (q : Fin 256) (a : BitVec 16) => a.toNat / 4096 ≠ 7 ∧ Meets (fun s => s.qEnabled q.val = true ∧ agentMatches (s.rd (R.Q_CONS q.val)) a.toNat
      = true) (queueOf 0)) 0 0) ∧
    ((fun (q : Fin 256) (a : BitVec 16) => a.toNat / 4096 ≠ 7 ∧ Meets (fun s => s.qEnabled q.val = true ∧ agentMatches (s.rd (R.Q_CONS q.val)) a.toNat
      = true) (queueOf 0)) 0 0) ∧
    ((fun (q : Fin 256) (a : BitVec 16) => a.toNat / 4096 ≠ 7 ∧ Meets (fun s => s.qEnabled q.val = true ∧ agentMatches (s.rd (R.Q_CONS q.val)) a.toNat
      = true) (queueOf 0)) 0 0) ∧
    ((fun (r : Route) (q : Fin 256) (a : BitVec 16) => a.toNat = 0x7000 + r.val ∧ Meets (fun s => s.takesWrite r.val (0x2B00 + q.val) 0x0B (toLe 1 1)
      ∧ s.qEnabled q.val = true ∧ agentMatches (s.rd (R.Q_PROD q.val)) a.toNat = true) (queueOf 0x7000)) 0 0 0x7000) ∧
    ((fun (r : Route) (q : Fin 256) (a : BitVec 16) => a.toNat = 0x7000 + r.val ∧ Meets (fun s => s.takesWrite r.val (0x2B00 + q.val) 0x0F (toLe 1 1)
      ∧ s.qEnabled q.val = true ∧ agentMatches (s.rd (R.Q_CONS q.val)) a.toNat = true) (queueOf 0x7000)) 0 0 0x7000) ∧
    ((fun (r : Route) (q : Fin 256) (cr : CommitRec) => Meets (fun s => s.takesCommit r.val (0x2B00 + q.val) 0x10 cr ∧ (qFlushCheck q.val)
      (s.shadowValue r.val) s = 0) (committing live 0x2BFF 0x10 [1])) 0 255 ((recFor live 0x2BFF 0x10 [1]))) ∧
    ((fun (r : Route) (q : Fin 256) => Meets (fun s => s.takesRead r.val (0x2B00 + q.val) 9) live) 0 0) ∧
    ((fun (q : Fin 256) => Meets (fun s => (s.queue q.val).wait = none) live) 0) := ⟨
  by simp only [Meets]; decide +kernel,
  by simp only [Meets, State.takesWrite]; decide +kernel,
  by simp only [Meets]; decide +kernel,
  ⟨by decide, by decide, rfl, by simp only [State.routeTakes]; decide +kernel, by decide +kernel, by decide +kernel, rfl⟩,
  by simp only [Meets]; decide +kernel,
  by simp only [Meets]; decide +kernel,
  by simp only [Meets]; decide +kernel,
  by simp only [Meets]; decide +kernel,
  by simp only [Meets]; decide +kernel,
  by simp only [Meets]; decide +kernel,
  by simp only [Meets]; decide +kernel,
  by simp only [Meets, State.takesWrite]; decide +kernel,
  by simp only [Meets, State.takesWrite]; decide +kernel,
  meets_commit live 0x2BFF 0x10 [1] _ (by decide +kernel) rfl (by decide +kernel) (by decide +kernel) (by decide +kernel),
  by simp only [Meets, State.takesRead]; decide +kernel,
  by simp only [Meets]; decide +kernel⟩

theorem meets_DescriptorCommandsComplete :
    ((fun (r : Route) (d : Bytes) => Meets (fun s => s.takesWrite r.val 0x2C30 1 d ∧ s.keeperFree ∧ (s.allocNewReq r.val d).2 = 0) live) 0 ((toLe 8 0
      ++ toLe 8 256 ++ toLe 8 1))) ∧
    ((fun (r : Route) (i : BitVec 16) => Meets (fun s => s.takesWrite r.val 0x2C30 2 (toLe 2 i.toNat) ∧ s.keeperFree ∧ (s.allocFreeReq r.val
      i.toNat).2 = 0) withAlloc) 0 1) ∧
    ((fun (r : Route) (d : Bytes) => Meets (fun s => s.takesWrite r.val 0x2C40 1 d ∧ s.keeperFree ∧ (s.descNewReq r.val d).2 = 0) withAlloc) 0 ((toLe
      64 desc0))) ∧
    ((fun (r : Route) (h : BitVec 32) => Meets (fun s => s.takesWrite r.val 0x2C40 2 (toLe 4 h.toNat) ∧ s.keeperFree ∧ (s.descFreeReq r.val h.toNat).2
      = 0) withDesc) 0 1) ∧
    ((fun (r : Route) (d : Bytes) => Meets (fun s => s.takesWrite r.val 0x2C50 1 d ∧ s.keeperFree ∧ (s.copyNewReq r.val d).2 = 0) withDesc) 0 ((toLe
      16 (2 ^ 96 + 2 * 2 ^ 64 + 0x4688)))) ∧
    ((fun (r : Route) (i : BitVec 16) => Meets (fun s => s.takesWrite r.val 0x2C50 2 (toLe 2 i.toNat) ∧ s.keeperFree ∧ (s.copyFreeReq i.toNat).2 = 0)
      live) 0 1) := ⟨
  by simp only [Meets, State.takesWrite, State.keeperFree]; decide +kernel,
  by simp only [Meets, State.takesWrite, State.keeperFree]; decide +kernel,
  by simp only [Meets, State.takesWrite, State.keeperFree]; decide +kernel,
  by simp only [Meets, State.takesWrite, State.keeperFree]; decide +kernel,
  by simp only [Meets, State.takesWrite, State.keeperFree]; decide +kernel,
  by simp only [Meets, State.takesWrite, State.keeperFree]; decide +kernel⟩

theorem meets_TimetableComplete :
    ((fun (r : Route) => Meets (fun s => s.takesWrite r.val 0x2800 2 (toLe 1 1) ∧ s.replaying = false ∧ s.keeperFree ∧ s.imgLoad.2 = 0) live) 0) ∧
    ((fun (x : ImageExtra) => Meets (fun s => s.deep.tt.checking = true)
      { live with deep := { Deep.reset with tt := { Tt.reset with checking := true } } }) extra0) ∧
    (Meets (fun s => s.deep.tt.loaded = true ∧ s.instant s.deep.tt.epochNext ≤ s.now) (timed 0x1000 1 0 [])) ∧
    (Meets (fun s => s.deep.tt.loaded = false ∨ s.now < s.instant s.deep.tt.epochNext) live) ∧
    ((fun (c : Fin 8) (q : Nat) => Meets (fun s => s.nextOf c.val = some q ∧ s.deep.tt.loaded = true ∧ s.cycOrigin c.val q ≤ s.now) (timed 0x1000 1 0
      [])) 0 1) ∧
    ((fun (c : Fin 8) (i : Nat) (t : BitVec 16) (e : SbEntry) (r : TaskRec) => Meets (fun s => s.entry c.val i t.toNat = some e ∧ s.taskRec c.val
      t.toNat = some r ∧ e.st = 1 ∧ e.inrdy = 2 ^ r.inputs.length - 1 ∧ s.cycOrigin c.val i + r.startMin * ftNs ≤ s.now) (timed 0x1000 1 0 [])) 0 0 0
      ((sb0 1 0)) ((task0 0x1000 []))) ∧
    ((fun (c : Fin 8) (i : Nat) (t : BitVec 16) (k : Fin 8) (e : SbEntry) (r : TaskRec) (x : InEnt) (o : Int) => Meets (fun s => s.openInput c.val i
      t.toNat k.val = some (e, r, x) ∧ s.inputNow e x = .ready o) (fedBy 3 0)) 0 0 0 0 ((sb0 1 0)) ((task0 0x1000 [in0 3 0])) ((in0 3 0)) 0) ∧
    ((fun (c : Fin 8) (i : Nat) (t : BitVec 16) (k : Fin 8) (e : SbEntry) (r : TaskRec) (x : InEnt) => Meets (fun s => s.openInput c.val i t.toNat
      k.val = some (e, r, x) ∧ s.inputNow e x = .no) (timed 0x1000 1 0 [in0 3 0])) 0 0 0 0 ((sb0 1 0)) ((task0 0x1000 [in0 3 0])) ((in0 3 0))) ∧
    ((fun (c : Fin 8) (i : Nat) (t : BitVec 16) (k : Fin 8) (e : SbEntry) (r : TaskRec) (x : InEnt) => Meets (fun s => s.openInput c.val i t.toNat
      k.val = some (e, r, x) ∧ s.cycOrigin c.val i + r.inDl * ftNs ≤ s.now ∧ 3 ≤ x.kind ∧ x.fb ≠ 0 ∧ s.inputNow e x = .no) (timed 0x1000 1 0 [in0 3
      1])) 0 0 0 0 ((sb0 1 0)) ((task0 0x1000 [in0 3 1])) ((in0 3 1))) ∧
    ((fun (c : Fin 8) (i : Nat) (t : BitVec 16) (e : SbEntry) (r : TaskRec) => Meets (fun s => s.entry c.val i t.toNat = some e ∧ s.taskRec c.val
      t.toNat = some r ∧ e.st = 2 ∧ s.unitIdle r = true ∧ s.unitsClear e.key r = true ∧ s.unitsEnded r = true) (timed 0x1000 2 0 [])) 0 0 0 ((sb0 2
      0)) ((task0 0x1000 []))) ∧
    ((fun (c : Fin 8) (i : Nat) (t : BitVec 16) (e : SbEntry) (r : TaskRec) (f : Bool) => Meets (fun s => s.entry c.val i t.toNat = some e ∧ s.taskRec
      c.val t.toNat = some r ∧ e.st = 3 ∧ s.taskEnd e r = some f) (timed 0x1000 3 0 [])) 0 0 0 ((sb0 3 0)) ((task0 0x1000 [])) false) ∧
    ((fun (c : Fin 8) (i : Nat) (t : BitVec 16) (e : SbEntry) (r : TaskRec) => Meets (fun s => s.entry c.val i t.toNat = some e ∧ s.taskRec c.val
      t.toNat = some r ∧ 1 ≤ e.st ∧ e.st ≤ 3 ∧ s.injArmed 41 r.unit = false ∧ s.cycOrigin c.val i + r.doneDl * ftNs ≤ s.now ∧ (e.st = 3 → s.taskEnd e
      r = none)) (timed 0x3000 3 0 [])) 0 0 0 ((sb0 3 0)) ((task0 0x3000 []))) ∧
    ((fun (c : Fin 8) (i : Nat) => c.val ≠ 0 ∧ Meets (fun s => s.deep.tt.loaded = true ∧ s.cycOrigin c.val i + 2 * s.cycleQ c.val ≤ s.now ∧
      s.deep.tt.sb.filter (fun e => (decide (e.cycle = c.val) && decide (e.inst = i)) && decide (e.st = 3)) = []) (timed 0x1000 1 0 [])) 1 0) := ⟨
  by simp only [Meets, State.takesWrite, State.keeperFree]; decide +kernel,
  by simp only [Meets]; decide +kernel,
  by simp only [Meets]; decide +kernel,
  by simp only [Meets]; decide +kernel,
  by simp only [Meets]; decide +kernel,
  by simp only [Meets]; decide +kernel,
  by simp only [Meets]; exact ⟨by decide, by decide +kernel, ready_of_eq (by decide +kernel)⟩,
  by simp only [Meets]; exact ⟨by decide, by decide +kernel, rfl⟩,
  by simp only [Meets]; exact ⟨by decide, by decide +kernel, by decide +kernel, by decide, by decide, rfl⟩,
  by simp only [Meets]; decide +kernel,
  by simp only [Meets]; decide +kernel,
  by simp only [Meets]; decide +kernel,
  by simp only [Meets]; decide +kernel⟩

theorem meets_ResultsAndSlotsComplete :
    ((fun (l : List PeerStream) (e : SbEntry) => Meets (fun s => s.deepTask = some e ∧ s.emitsDeep = true) (timed 0xC004 3 0 [])) ([]) ((sb0 3 0))) ∧
    (Meets (fun s => s.deep.tt.stoppedNext ≠ 0 ∧ s.deepStopped = true ∧ s.instant s.deep.tt.stoppedNext ≤ s.now ∧ s.emitsDeep = true)
      { (timed 0x1000 1 0 []).put R.DEV_STATE 4 with deep := { Deep.reset with tt := { Tt.reset with stoppedNext := 1 } } }) ∧
    ((fun (x : BitVec 16) (k : Fin 1024) (a : BitVec 16) (addr : BitVec 48) (n : Nat) (p : Bool) => Meets (fun s => k.val < wheelLen x.toNat ∧
      s.gateAccepts x.toNat k.val a.toNat false = true ∧ s.injArmed 40 a.toNat = false) slotted) 0x100 0 0 0 0 true) ∧
    ((fun (x : BitVec 16) (k : Fin 1024) (a : BitVec 16) (addr : BitVec 48) (d : Bytes) (p : Bool) => Meets (fun s => k.val < wheelLen x.toNat ∧
      s.gateAccepts x.toNat k.val a.toNat true = true ∧ s.injArmed 40 a.toNat = false) slotted) 0x100 0 0 0 ([]) true) ∧
    ((fun (x : BitVec 16) (k : Fin 1024) (a : BitVec 16) (addr : BitVec 48) (d : Bytes) (p : Bool) => Meets (fun s => k.val < wheelLen x.toNat ∧
      s.gateAccepts x.toNat k.val a.toNat true = false) live) 0 0 0 0 ([]) true) ∧
    ((fun (x : BitVec 16) (k : Fin 1024) => Meets (fun s => k.val < wheelLen x.toNat ∧ s.deep.tt.gateBad.contains (x.toNat, k.val) = false) live) 0 0) ∧
    ((fun (x : BitVec 16) (k : Fin 1024) => Meets (fun s => s.keeperUp = true) live) 0 0) := ⟨
  by simp only [Meets]; decide +kernel,
  by simp only [Meets]; decide +kernel,
  by simp only [Meets]; decide +kernel,
  by simp only [Meets]; decide +kernel,
  by simp only [Meets]; decide +kernel,
  by simp only [Meets]; decide +kernel,
  by simp only [Meets]; decide +kernel⟩

theorem meets_AstrographComplete_almSwitch :
    (fun (r : Route) (cr : CommitRec) => Meets (fun s => s.takesCommit r.val 0x2700 4 cr ∧ State.almSwitchCheck (s.shadowValue r.val) s = 0)
      (committing almReady 0x2700 4 almSwitch0)) 0 (recFor almReady 0x2700 4 almSwitch0) := by
  refine meets_commit almReady 0x2700 4 almSwitch0 State.almSwitchCheck (by decide +kernel) rfl (by decide +kernel) (by decide +kernel) ?_
  rw [committing_fresh, alm_frame]
  exact alm_ok

theorem meets_AstrographComplete :
    ((fun (i : Fin 32) (b : Bytes) (e : SbEntry) (r : TaskRec) => Meets (fun s => s.agSpec i.val = b ∧ b.isEmpty = false ∧ gOp (specHead b) = 0 ∧
      s.agTask i.val = some (e, r)) (lifting 0)) 0 ((toLe 64 (0 * 2 ^ 104))) ((sb0 3 0)) ((task0 0x3000 []))) ∧
    ((fun (i : Fin 32) (b : Bytes) (e : SbEntry) (r : TaskRec) => Meets (fun s => s.agSpec i.val = b ∧ b.isEmpty = false ∧ gOp (specHead b) = 1 ∧
      s.agTask i.val = some (e, r)) (lifting 1)) 0 ((toLe 64 (1 * 2 ^ 104))) ((sb0 3 0)) ((task0 0x3000 []))) ∧
    ((fun (i : Fin 32) (b : Bytes) (e : SbEntry) (r : TaskRec) => Meets (fun s => s.agSpec i.val = b ∧ b.isEmpty = false ∧ gOp (specHead b) = 2 ∧
      s.agTask i.val = some (e, r)) (lifting 2)) 0 ((toLe 64 (2 * 2 ^ 104))) ((sb0 3 0)) ((task0 0x3000 []))) ∧
    ((fun (i : Fin 32) (b : Bytes) (e : SbEntry) (r : TaskRec) => Meets (fun s => s.agSpec i.val = b ∧ b.isEmpty = false ∧ gOp (specHead b) = 3 ∧
      s.agTask i.val = some (e, r)) (lifting 3)) 0 ((toLe 64 (3 * 2 ^ 104))) ((sb0 3 0)) ((task0 0x3000 []))) ∧
    ((fun (r : Route) (i : BitVec 16) (d : Bytes) => isAlm i.toNat = true ∧ Meets (fun s => s.takesWrite r.val i.toNat 0 d ∧ s.keeperFree ∧
      (s.almWrite i.toNat d).2 = 0) live) 0 0x5401 ((List.replicate 32 0))) ∧
    ((fun (r : Route) => Meets (fun s => s.takesWrite r.val 0x2700 8 [1] ∧ s.keeperFree ∧ (s.almCloneRun).2 = 0) live) 0) ∧
    ((fun (g : Nat) (m : Nat) => Meets (fun s => s.deep.ag.almPend = some (g, m) ∧ s.instant m ≤ s.now)
      { live with deep := { Deep.reset with ag := { Astro.reset with almPend := some (0, 0) } } }) 0 0) ∧
    ((fun (g : Nat) (m : Nat) => Meets (fun s => s.deep.ag.almPend = some (g, m) ∧ s.now < s.instant m)
      { live.put R.EPOCH_P 100000000 with deep := { Deep.reset with ag := { Astro.reset with almPend := some (0, 1000000) } } }) 0 1000000) := ⟨
  by simp only [Meets]; decide +kernel,
  by simp only [Meets]; decide +kernel,
  by simp only [Meets]; decide +kernel,
  by simp only [Meets]; decide +kernel,
  by simp only [Meets, State.takesWrite, State.keeperFree]; decide +kernel,
  by simp only [Meets, State.takesWrite, State.keeperFree]; decide +kernel,
  by simp only [Meets]; decide +kernel,
  by simp only [Meets]; decide +kernel⟩

theorem meets_TheodoliteComplete :
    ((fun (u : Fin 2) (x : ThUnit) => Meets (fun s => s.thUnit u.val = some x ∧ pKind (s.thProg x.prog) = 0) (solving 0)) 0 unit0) ∧
    ((fun (u : Fin 2) (x : ThUnit) => Meets (fun s => s.thUnit u.val = some x ∧ pKind (s.thProg x.prog) = 1) (solving 1)) 0 unit0) ∧
    ((fun (u : Fin 2) (x : ThUnit) => Meets (fun s => s.thUnit u.val = some x ∧ pKind (s.thProg x.prog) = 2) (solving 2)) 0 unit0) ∧
    ((fun (u : Fin 2) (x : ThUnit) => Meets (fun s => s.thUnit u.val = some x ∧ pKind (s.thProg x.prog) = 3) (solving 3)) 0 unit0) ∧
    ((fun (u : Fin 2) (x : ThUnit) => Meets (fun s => s.thUnit u.val = some x ∧ pKind (s.thProg x.prog) = 4) (solving 4)) 0 unit0) ∧
    ((fun (u : Fin 2) (x : ThUnit) (k : Fin 256) => Meets (fun s => s.thUnit u.val = some x ∧ pKind (s.thProg x.prog) = 5) (solving 5)) 0 unit0 0) ∧
    ((fun (u : Fin 2) (x : ThUnit) (k : Fin 256) => Meets (fun s => s.thUnit u.val = some x ∧ pKind (s.thProg x.prog) = 6) (solving 6)) 0 unit0 0) ∧
    ((fun (u : Fin 2) (x : ThUnit) (k : Fin 256) => Meets (fun s => s.thUnit u.val = some x ∧ pKind (s.thProg x.prog) = 7) (solving 7)) 0 unit0 0) ∧
    ((fun (u : Fin 2) (x : ThUnit) (k : Fin 256) => Meets (fun s => s.thUnit u.val = some x ∧ pKind (s.thProg x.prog) ≠ 0) (solving 7)) 0 unit0 0) ∧
    ((fun (u : Fin 2) (x : ThUnit) => Meets (fun s => s.thUnit u.val = some x ∧ (s.waveIx x).all x.probDone = true) (solving 0)) 0 unit0) ∧
    ((fun (u : Fin 2) (x : ThUnit) => Meets (fun s => s.thUnit u.val = some x ∧ s.tStopAt x ≤ s.now) (solving 0)) 0 unit0) ∧
    ((fun (u : Fin 2) (x : ThUnit) => Meets (fun s => s.thUnit u.val = some x ∧ s.now < s.tStopAt x)
      { timed 0x4000 3 0 [] with deep := { (timed 0x4000 3 0 []).deep with th := { Theo.reset with units := [(0, some { unit0 with key := (0, 4000000000, 0) })] } } })
      0 ({ unit0 with key := (0, 4000000000, 0) })) ∧
    ((fun (v : Sample) (l : List Sample) (b : PropBase) => Meets (fun s => s.deep.th.propQ = v :: l ∧ s.deep.th.base = some b)
      { live with deep := { Deep.reset with th := { Theo.reset with propQ := [sample0], base := some base0 } } }) sample0 ([]) base0) ∧
    ((fun (r : Route) (d : Bytes) => Meets (fun s => s.takesWrite r.val 0x2900 4 d ∧ (((s.wr R.GNSS_ORIGIN (leNat d)).mapTheo fun th =>
      { th with resetDue := true }, 0)).2 = 0) live) 0 ((List.replicate 24 0))) := ⟨
  by simp only [Meets]; decide +kernel,
  by simp only [Meets]; decide +kernel,
  by simp only [Meets]; decide +kernel,
  by simp only [Meets]; decide +kernel,
  by simp only [Meets]; decide +kernel,
  by simp only [Meets]; decide +kernel,
  by simp only [Meets]; decide +kernel,
  by simp only [Meets]; decide +kernel,
  by simp only [Meets]; decide +kernel,
  by simp only [Meets]; decide +kernel,
  by simp only [Meets]; decide +kernel,
  by simp only [Meets]; decide +kernel,
  by simp only [Meets]; decide +kernel,
  by simp only [Meets, State.takesWrite]; decide +kernel⟩

theorem meets_MemoryCommandsComplete :
    ((fun (k : Fin 3) (c : Fin 16) (m : BitVec 144) => Meets (fun s => s.scrubberOwns k.val c.val = true ∧ (k.val = 2 → c.val < 2) ∧ (k.val = 1 →
      s.variant ≠ 1) ∧ s.mem.verify = none ∧ s.storeOpen (if k.val = 2 then 166 else k.val) = true) slotted) 0 0 0) ∧
    ((fun (r : Route) (d : Bytes) => Meets (fun s => s.takesWrite r.val 0x2C00 0x0C d ∧ (s.scrubReq d).2 = 0) live) 0 ((toLe 16 (2 ^ 40 + 16 * 2 ^
      64)))) ∧
    ((fun (q : PassReq) (l : List PassReq) => Meets (fun s => s.mem.passes = q :: l)
      { live with mem := { live.mem with passes := [{ start := 0, len := 16, correct := false }] } }) ({ start := 0, len := 16, correct := false })
      ([])) ∧
    (Meets (fun s => s.mem.passes = []) live) ∧
    ((fun (r : Route) => Meets (fun s => s.takesRead r.val 0x2C00 3) live) 0) ∧
    ((fun (r : Route) (i : BitVec 16) => Meets (fun s => s.takesWrite r.val 0x2C00 7 (toLe 2 i.toNat) ∧ s.keeperFree ∧ (s.wtClear i.toNat).2 = 0)
      live) 0 1) ∧
    ((fun (i : Nat) => Meets (fun s => s.mem.verify = some i) { live with mem := { live.mem with verify := some 0 } }) 0) ∧
    (Meets (fun s => s.mem.degradedEnds = true) { live with mem := { live.mem with degradedEnds := true } }) ∧
    ((fun (r : Route) (c : Fin 12) (cr : CommitRec) => Meets (fun s => s.takesCommit r.val (0x2C10 + c.val) 1 cr ∧ flipMaskCheck (s.shadowValue r.val)
      s = 0) (committing live 0x2C10 1 (toLe 16 1))) 0 0 ((recFor live 0x2C10 1 (toLe 16 1)))) := ⟨
  by simp only [Meets]; decide +kernel,
  by simp only [Meets, State.takesWrite]; decide +kernel,
  by simp only [Meets]; decide +kernel,
  by simp only [Meets]; decide +kernel,
  by simp only [Meets, State.takesRead]; decide +kernel,
  by simp only [Meets, State.takesWrite, State.keeperFree]; decide +kernel,
  by simp only [Meets]; decide +kernel,
  by simp only [Meets]; decide +kernel,
  meets_commit live 0x2C10 1 (toLe 16 1) _ (by decide +kernel) rfl (by decide +kernel) (by decide +kernel) (by decide +kernel)⟩

theorem meets_HostLinkComplete :
    ((fun (g : Fin 5) (w : Fin 9) => Meets (fun s => g.val ≠ 0 ∧ laneWidth w.val = true ∧ s.entryPowered 0x2D00 = true) live) 1 1) ∧
    ((fun (r : Route) => Meets (fun s => s.takesWrite r.val 0x2D00 5 [1] ∧ ((s.hostBeat, 0)).2 = 0) live) 0) ∧
    ((fun (t : Nat) => Meets (fun s => s.host.hbTime = some t ∧ t + s.rd R.HOST_TMO * tclkUs < s.tclk)
      { live with host := { live.host with hbTime := some 0 } }) 0) ∧
    ((fun (t : Nat) => Meets (fun s => s.host.hbTime = some t ∧ s.tclk ≤ t + s.rd R.HOST_TMO * tclkUs)
      { live with host := { live.host with hbTime := some live.tclk } }) live.tclk) := ⟨
  by simp only [Meets]; decide +kernel,
  by simp only [Meets, State.takesWrite]; decide +kernel,
  by simp only [Meets]; decide +kernel,
  by simp only [Meets]; decide +kernel⟩

theorem meets_DataPortAndDmaComplete :
    ((fun (acc : AccessKind) => accLen acc % 8 = 0 ∧ Meets (fun s => s.host.dpRun = none ∧ s.fenceHeld = false) live) ((.write (List.replicate 8 0)))) ∧
    ((fun (acc : AccessKind) => Meets (fun s => s.host.dpRun = none ∧ s.fenceHeld = false) live) ((.read 4))) ∧
    ((fun (o : Fin 65536) (acc : AccessKind) => Meets (fun s => s.host.dpRun = none ∧ s.fenceHeld = false) live) 0 ((.read 4))) ∧
    ((fun (r : Route) => Meets (fun s => s.host.dpRun = none ∧ s.fenceHeld = false ∧ s.takesRead r.val 0x2D20 8) live) 0) ∧
    ((fun (r : Route) => Meets (fun s => s.host.dpRun = none ∧ s.fenceHeld = true)
      { live with host := { live.host with remote := [{ write0 with agent := 0x7001 }] } }) 0) ∧
    ((fun (t : BitVec 16) (a : RemoteAcc) => Meets (fun s => s.host.remote.find? (fun x => x.tag = t.toNat) = some a ∧ a.start + 40 * tclkUs ≤ s.tclk)
      { live with host := { live.host with remote := [write0] } }) 0 write0) ∧
    ((fun (r : Route) (c : Fin 64) (v : BitVec 32) => Meets (fun s => s.takesWrite r.val (0x2D40 + c.val) 8 (toLe 4 v.toNat) ∧ (s.dmaTail c.val
      v.toNat).2 = 0) (live.put (R.DMA_MODE 0) 1)) 0 0 0) ∧
    ((fun (c : Fin 64) (d : Option Bytes) => Meets (fun s => s.ringReady c.val = true ∧ (s.ringRecord c.val).fail = none ∧ xfKind (leNat (s.ringRecord
      c.val).data) ≠ 1) (ringDma 0)) 0 none) ∧
    ((fun (c : Fin 64) => Meets (fun s => s.ringReady c.val = true ∧ (s.ringRecord c.val).fail = none ∧ xfKind (leNat (s.ringRecord c.val).data) = 1)
      (ringDma 1)) 0) ∧
    ((fun (c : Fin 64) (x : DmaCur) => Meets (fun s => s.ringReady c.val = false ∧ s.rd (R.DMA_MODE c.val) ≠ 2 ∧ s.rd (R.DMA_STATE c.val) = 1 ∧
      s.dmaCur c.val = some x ∧ x.moved = false) (dmaHolds false)) 0 ({ word := 0, moved := false })) ∧
    ((fun (c : Fin 64) (x : DmaCur) => Meets (fun s => s.dmaCur c.val = some x ∧ x.moved = true ∧ s.host.remote.any (fun a => a.agent = 0x5000 + c.val
      && a.write) = false) (dmaHolds true)) 0 ({ word := 0, moved := true })) ∧
    ((fun (r : Route) (c : Fin 64) (v : Bool) => Meets (fun s => s.takesWrite r.val (0x2D40 + c.val) 9 (toLe 1 (boolNat v)) ∧ (s.dmaResetReq c.val
      v).2 = 0) (live.put (R.DMA_MODE 0) 1)) 0 0 true) := ⟨
  by simp only [Meets]; decide +kernel,
  by simp only [Meets]; decide +kernel,
  by simp only [Meets]; decide +kernel,
  by simp only [Meets, State.takesRead]; decide +kernel,
  by simp only [Meets]; decide +kernel,
  by simp only [Meets]; decide +kernel,
  by simp only [Meets, State.takesWrite]; decide +kernel,
  by simp only [Meets]; decide +kernel,
  by simp only [Meets]; decide +kernel,
  by simp only [Meets]; decide +kernel,
  by simp only [Meets]; decide +kernel,
  by simp only [Meets, State.takesWrite]; decide +kernel⟩

theorem meets_ColAndRangeComplete :
    ((fun (l : Fin 6) (p : Fin 8) (i : BitVec 64) (v : Fin 4) => Meets (fun s => s.linkOn l.val = true ∧ s.rd (R.LINK_STATE l.val) ≠ 2 ∧ v.val ≠ 0 ∧
      p.val ≠ s.host.rangeId) live) 0 1 0 1) ∧
    ((fun (l : Fin 6) (p : Fin 8) (i : BitVec 64) (v : Fin 4) => Meets (fun s => s.linkOn l.val = true ∧ s.rd (R.LINK_STATE l.val) ≠ 2 ∧ v.val ≠ 0 ∧
      p.val = s.host.rangeId) live) 0 0 0 1) ∧
    ((fun (l : Fin 6) => Meets (fun s => s.rd (R.LINK_STATE l.val) = 2) linked) 0) ∧
    ((fun (l : Fin 6) => Meets (fun s => s.rd (R.LINK_STATE l.val) ≠ 2) live) 0) ∧
    ((fun (l : Fin 6) (f : Flit) => Meets (fun s => s.flitArrives l.val f 1) linked) 0 ((flit0 1))) ∧
    ((fun (l : Fin 6) (f : Flit) => Meets (fun s => s.flitArrives l.val f 2) linked) 0 ((flit0 2))) ∧
    ((fun (l : Fin 6) (f : Flit) => Meets (fun s => s.flitArrives l.val f 3) linked) 0 ((flit0 3))) ∧
    ((fun (l : Fin 6) (f : Flit) => Meets (fun s => s.flitArrives l.val f 4) linked) 0 ((flit0 4))) ∧
    ((fun (l : Fin 6) (f : Flit) => Meets (fun s => s.flitArrives l.val f 5) linked) 0 ((flit0 5))) ∧
    ((fun (r : Route) (cr : CommitRec) => Meets (fun s => s.takesCommit r.val 0x2DA0 5 cr ∧ mapSelCheck (s.shadowValue r.val) s = 0) (committing
      { live.put R.EPOCH_P 100000000 with objs := [(0x5700, [0])] } 0x2DA0 5 (toLe 16 (1000000 * 2 ^ 64)))) 0 ((recFor
      { live.put R.EPOCH_P 100000000 with objs := [(0x5700, [0])] } 0x2DA0 5 (toLe 16 (1000000 * 2 ^ 64))))) ∧
    ((fun (r : Route) (cr : CommitRec) => Meets (fun s => s.takesCommit r.val 0x2DA0 4 cr ∧ peerAdmitCheck (s.shadowValue r.val) s = 0) (committing
      live 0x2DA0 4 [0])) 0 ((recFor live 0x2DA0 4 [0]))) ∧
    ((fun (r : Route) (cr : CommitRec) => Meets (fun s => s.takesCommit r.val 0x2DA0 1 cr ∧ noCheck (s.shadowValue r.val) s = 0) (committing live
      0x2DA0 1 [1])) 0 ((recFor live 0x2DA0 1 [1]))) := ⟨
  by simp only [Meets]; decide +kernel,
  by simp only [Meets]; decide +kernel,
  by simp only [Meets]; decide +kernel,
  by simp only [Meets]; decide +kernel,
  by simp only [Meets, State.flitArrives]; decide +kernel,
  by simp only [Meets, State.flitArrives]; decide +kernel,
  by simp only [Meets, State.flitArrives]; decide +kernel,
  by simp only [Meets, State.flitArrives]; decide +kernel,
  by simp only [Meets, State.flitArrives]; decide +kernel,
  meets_commit ({ live.put R.EPOCH_P 100000000 with objs := [(0x5700, [0])] }) 0x2DA0 5 (toLe 16 (1000000 * 2 ^ 64)) _ (by decide +kernel) rfl (by decide +kernel) (by decide +kernel) (by decide +kernel),
  meets_commit live 0x2DA0 4 [0] _ (by decide +kernel) rfl (by decide +kernel) (by decide +kernel) (by decide +kernel),
  meets_commit live 0x2DA0 1 [1] _ (by decide +kernel) rfl (by decide +kernel) (by decide +kernel) (by decide +kernel)⟩

theorem meets_RouteCommandsComplete :
    ((fun (r : Route) (i : BitVec 16) (b : BitVec 8) (d : Bytes) (t : State) (c : Nat) => Meets (fun s => s.routeTakes r.val ∧ s.reqWrite r.val
      i.toNat b.toNat d (.write i.toNat b.toNat d) = (t, c)) live) 0 0x3000 0 ([]) ((live.fresh.reqWrite (0 : Route).val (0x3000 : BitVec 16).toNat (0
      : BitVec 8).toNat [] (.write (0x3000 : BitVec 16).toNat (0 : BitVec 8).toNat [])).1) ((live.fresh.reqWrite (0 : Route).val (0x3000 : BitVec
      16).toNat (0 : BitVec 8).toNat [] (.write (0x3000 : BitVec 16).toNat (0 : BitVec 8).toNat [])).2)) ∧
    ((fun (r : Route) (i : BitVec 16) (b : BitVec 8) (d : Bytes) => isCw i.toNat b.toNat = true ∧ (i.toNat < 0x2010 ∨ 0x2013 < i.toNat ∨ b.toNat ≠ 9)
      ∧ Meets (fun s => s.takesWrite r.val i.toNat b.toNat d) live) 0 0x2110 3 ((toLe 4 0))) ∧
    ((fun (r : Route) (t : State) (c : Nat) => Meets (fun s => s.takesWrite r.val (0x2010 + r.val) 9 [1] ∧ s.dwGo r.val r.val 1 = (t, c)) live) 0
      ((live.fresh.dwGo (0 : Route).val (0 : Route).val 1).1) ((live.fresh.dwGo (0 : Route).val (0 : Route).val 1).2)) ∧
    ((fun (r : Route) (t : State) (c : Nat) => Meets (fun s => s.takesWrite r.val (0x2010 + r.val) 9 [2] ∧ s.dwGo r.val r.val 2 = (t, c)) live) 0
      ((live.fresh.dwGo (0 : Route).val (0 : Route).val 2).1) ((live.fresh.dwGo (0 : Route).val (0 : Route).val 2).2)) ∧
    ((fun (r : Nat) (k : Nat) (q : DefReq) (l : List (Nat × DefReq × Nat)) => q.writes = false ∧ Meets (fun s => s.routes.queue = (r, q, k) :: l ∧
      s.keeperUp = true ∧ s.routes.started = none ∧ s.dome.waitCommit = none) queuedReq) 0 0 cell0 ([])) ∧
    ((fun (r : Nat) (q : DefReq) (a : ReadAns) => a.reason ≠ queuedReason ∧ Meets (fun s => s.routes.started = some (r, q, none) ∧ s.keeperUp = true ∧
      s.dome.waitCommit = none ∧ s.runDef r q = a) startedReq) 0 cell0 ((startedReq.fresh.runDef 0 cell0))) ∧
    (Meets (fun s => s.routes.started = none) live) ∧
    ((fun (r : Nat) (i : Nat) (b : Nat) (cr : CommitRec) => Meets (fun s => s.dome.waitCommit = some (r, i, b, cr))
      { live with dome := { live.dome with waitCommit := some (0, 0, 0, recFor live 0x3000 0x10 [0]) } }) 0 0 0 ((recFor live 0x3000 0x10 [0]))) ∧
    (Meets (fun s => s.dome.waitCommit = none) live) := ⟨
  by simp only [Meets, State.routeTakes]; exact ⟨by decide +kernel, by decide +kernel, trivial⟩,
  by simp only [Meets, State.takesWrite]; decide +kernel,
  by simp only [Meets, State.takesWrite]; exact ⟨by decide +kernel, by decide +kernel, trivial⟩,
  by simp only [Meets, State.takesWrite]; exact ⟨by decide +kernel, by decide +kernel, trivial⟩,
  by simp only [Meets]; decide +kernel,
  by simp only [Meets]; exact ⟨by decide +kernel, by decide +kernel, by decide +kernel, by decide +kernel, by decide +kernel, trivial⟩,
  by simp only [Meets]; decide +kernel,
  ⟨rfl, rfl⟩,
  by simp only [Meets]; decide +kernel⟩

theorem meets_FieldRoutesComplete :
    ((fun (i : BitVec 16) (b : BitVec 8) (d : Bytes) => Meets (fun s => s.usdoUp = true ∧ s.usdoOpen = false) live) 0 0 ([])) ∧
    ((fun (i : BitVec 16) (b : BitVec 8) (d : Bytes) => Meets (fun s => s.usdoUp = true ∧ s.usdoOpen = false) live) 0 0 ([])) ∧
    ((fun (i : BitVec 16) (b : BitVec 8) (d : Bytes) (l : Bool) => Meets (fun s => s.usdoUp = true ∧ s.usdoOpen = true) (inSession 0)) 0 0 ([]) true) ∧
    ((fun (i : BitVec 16) (b : BitVec 8) => Meets (fun s => s.usdoUp = true ∧ s.usdoOpen = false ∧ s.fenceWaits i.toNat b.toNat = false ∧ s.readReason
      i.toNat b.toNat = 0 ∧ entryDeferred i.toNat b.toNat = false ∧ ownEntry 2 i.toNat = false) live) ((BitVec.ofNat 16 (R.USDO_EN / 256)))
      ((BitVec.ofNat 8 R.USDO_EN))) ∧
    ((fun (d : Bytes) (x : UsdoSession) => Meets (fun s => s.usdoUp = true ∧ s.routes.usdo = some x ∧ s.tclk ≤ x.last + tclkSec / 10) (inSession
      live.tclk)) ([]) ((session0 live.tclk))) ∧
    ((fun (d : Bytes) (x : UsdoSession) => Meets (fun s => s.usdoUp = true ∧ s.routes.usdo = some x ∧ s.tclk ≤ x.last + tclkSec / 10) (inSession
      live.tclk)) ([]) ((session0 live.tclk))) ∧
    ((fun (x : UsdoSession) => Meets (fun s => s.routes.usdo = some x ∧ x.last + tclkSec / 10 < s.tclk) (inSession 0)) ((session0 0))) ∧
    (Meets (fun s => s.rd R.USDO_EN = 1 ∧ s.usdoPort = true) live) ∧
    (Meets (fun s => s.rd R.USDO_EN = 1 ∧ s.usdoPort = true) live) ∧
    (Meets (fun s => s.rd R.USDO_EN = 1 ∧ s.usdoPort = true) live) ∧
    (Meets (fun s => s.rd R.USDO_EN = 1 ∧ s.usdoPort = true) live) ∧
    (Meets (fun s => s.rd R.HEARTBEAT ≠ 0 ∧ s.usdoPort = true ∧ s.routes.lastBeat + s.rd R.HEARTBEAT * (tclkUs * 1000) ≤ s.tclk) (live.put R.HEARTBEAT
      1)) ∧
    ((fun (q : UdpReq) => Meets (fun s => s.fenceWaits q.index.toNat q.sub.toNat = false ∧ s.routeTakes 3 ∧ s.udpBad q = false ∧ (smGet (fun _ =>
      ({ txn := 2 ^ 32, resp := [] } : UdpLast)) s.routes.udpLast (udpKey q)).txn ≠ q.txn.toNat) udpOpen) ((udp0 1))) ∧
    ((fun (q : UdpReq) => Meets (fun s => s.routeTakes 3 ∧ s.udpBad q = false ∧ (smGet (fun _ => ({ txn := 2 ^ 32, resp := [] } : UdpLast))
      s.routes.udpLast (udpKey q)).txn ≠ q.txn.toNat) udpOpen) ((udp0 1))) ∧
    ((fun (q : UdpReq) => Meets (fun s => s.routeUp 3 = true ∧ s.udpBad q = true) udpOpen) ((udp0 0))) := ⟨
  by simp only [Meets]; decide +kernel,
  by simp only [Meets]; decide +kernel,
  by simp only [Meets]; decide +kernel,
  by simp only [Meets]; decide +kernel,
  by simp only [Meets]; decide +kernel,
  by simp only [Meets]; decide +kernel,
  by simp only [Meets]; decide +kernel,
  by simp only [Meets]; decide +kernel,
  by simp only [Meets]; decide +kernel,
  by simp only [Meets]; decide +kernel,
  by simp only [Meets]; decide +kernel,
  by simp only [Meets]; decide +kernel,
  by simp only [Meets, State.routeTakes]; decide +kernel,
  by simp only [Meets, State.routeTakes]; decide +kernel,
  by simp only [Meets]; decide +kernel⟩

theorem meets_DomeComplete :
    ((fun (r : Route) (cr : CommitRec) => Meets (fun s => s.takesCommit r.val 0x2E00 0x0A cr ∧ rbAdvCheck (s.shadowValue r.val) s = 0) (committing
      live 0x2E00 0x0A [0, 0])) 0 ((recFor live 0x2E00 0x0A [0, 0]))) ∧
    ((fun (i : Nat) (n : Nat) => Meets (fun s => s.dome.burn = some (i, n)) { live with dome := { live.dome with burn := some (0, 0) } }) 0 0) ∧
    ((fun (r : Route) (i : Fin 4) (cr : CommitRec) => Meets (fun s => s.takesCommit r.val (0x2E04 + i.val) 4 cr ∧ (fkRevokeCheck i.val) (s.shadowValue
      r.val) s = 0) (committing live 0x2E05 4 [1])) 0 1 ((recFor live 0x2E05 4 [1]))) ∧
    ((fun (r : Route) (d : Bytes) => Meets (fun s => s.takesWrite r.val 0x2E02 9 d ∧ ((s.extendMr 7 d, 0)).2 = 0) live) 0 ((List.replicate 64 0))) ∧
    ((fun (r : Route) => Meets (fun s => s.takesWrite r.val 0x2E02 0x0B (toLe 1 1) ∧ (State.attGo s).2 = 0) live) 0) ∧
    ((fun (b : Bytes) => Meets (fun s => s.dome.quote = some b) { live with dome := { live.dome with quote := some [] } }) ([])) ∧
    ((fun (r : Route) (d : Bytes) => Meets (fun s => s.takesWrite r.val 0x2E01 1 d ∧ (s.keyEnv d).2 = 0) live) 0 ((List.replicate 210 0))) ∧
    ((fun (e : Bytes) => Meets (fun s => s.dome.envelope = some e ∧ ({ s with dome := { s.dome with envelope := none } } : State).envelopeReason e =
      0) (enveloped envelope0)) envelope0) ∧
    ((fun (e : Bytes) (c : Nat) => c ≠ 0 ∧ Meets (fun s => s.dome.envelope = some e ∧ ({ s with dome := { s.dome with envelope := none } } :
      State).envelopeReason e = c) (enveloped [])) ([]) 2) ∧
    ((fun (r : Route) (l : Fin 3) => Meets (fun s => s.takesWrite r.val 0x2E03 2 (toLe 1 l.val) ∧ (s.jtagReq l.val).2 = 0) live) 0 0) ∧
    ((fun (r : Route) => Meets (fun s => s.takesWrite r.val 0x2E03 2 (toLe 1 0) ∧ ((s.jtagRelock, 0)).2 = 0) live) 0) ∧
    ((fun (r : Route) (d : Bytes) => Meets (fun s => s.takesWrite r.val 0x2E03 4 d ∧ (s.jtagResp d).2 = 0) live) 0 ((List.replicate 115 0))) ∧
    ((fun (b : Bytes) (l : Nat) (t : Nat) => Meets (fun s => s.dome.chal = some (b, l, t) ∧ t + 60 * tclkSec ≤ s.tclk)
      { live with dome := { live.dome with chal := some ([], 0, 0) } }) ([]) 0 0) ∧
    ((fun (b : Bytes) (l : Nat) (t : Nat) => Meets (fun s => s.dome.chal = some (b, l, t) ∧ s.tclk < t + 60 * tclkSec)
      { live with dome := { live.dome with chal := some ([], 0, live.tclk) } }) ([]) 0 live.tclk) ∧
    ((fun (i : JtagInstr) => Meets (fun s => jtagLevelOf i ≤ s.dome.jtagLevel ∧ s.rd R.SNT_STATE ≠ 2) (live.put R.SNT_STATE 1)) .idcode) ∧
    ((fun (i : JtagInstr) => Meets (fun s => s.dome.jtagLevel < jtagLevelOf i) live) .debug) := ⟨
  meets_commit live 0x2E00 0x0A [0, 0] _ (by decide +kernel) rfl (by decide +kernel) (by decide +kernel) (by decide +kernel),
  by simp only [Meets]; decide +kernel,
  meets_commit live 0x2E05 4 [1] _ (by decide +kernel) rfl (by decide +kernel) (by decide +kernel) (by decide +kernel),
  by simp only [Meets, State.takesWrite]; decide +kernel,
  by simp only [Meets, State.takesWrite]; decide +kernel,
  by simp only [Meets]; decide +kernel,
  by simp only [Meets, State.takesWrite]; decide +kernel,
  by simp only [Meets]; decide +kernel,
  by simp only [Meets]; decide +kernel,
  by simp only [Meets, State.takesWrite]; decide +kernel,
  by simp only [Meets, State.takesWrite]; decide +kernel,
  by simp only [Meets, State.takesWrite]; decide +kernel,
  by simp only [Meets]; decide +kernel,
  by simp only [Meets]; decide +kernel,
  by simp only [Meets]; decide +kernel,
  by simp only [Meets]; decide +kernel⟩

theorem meets_DiagnosticsComplete :
    ((fun (r : Route) => Meets (fun s => s.takesRead r.val 0x2F00 1) live) 0) ∧
    ((fun (e : EventRecord) (l : List EventRecord) => Meets (fun s => s.diag.canQ = e :: l ∧ s.replaying = false ∧ s.portUp (0x22A0 + s.rd
      R.EVT_CAN_PORT) = true ∧ s.siu.busOff.testBit (s.rd R.EVT_CAN_PORT) = false) { live with diag := { live.diag with canQ := [0] } }) 0 ([])) ∧
    (Meets (fun s => s.replaying = true) (live.put R.RP_STATE 1)) ∧
    ((fun (r : Route) (cr : CommitRec) => Meets (fun s => s.takesCommit r.val 0x2F00 0x0E cr ∧ injReqCheck (s.shadowValue r.val) s = 0) (committing
      live 0x2F00 0x0E [1, 0, 0, 0])) 0 ((recFor live 0x2F00 0x0E [1, 0, 0, 0]))) ∧
    ((fun (d : Nat) (i : Nat) (t : Nat) => Meets (fun s => s.diag.inj = some (d, i, t) ∧ t + tclkSec ≤ s.tclk)
      { live with diag := { live.diag with inj := some (0, 0, 0) } }) 0 0 0) ∧
    ((fun (r : Route) (v : Bool) => Meets (fun s => s.takesWrite r.val 0x2F60 1 (toLe 1 (boolNat v)) ∧ (s.lbEnable (boolNat v)).2 = 0) live) 0 true) ∧
    ((fun (e : LbRec) (l : List LbRec) => Meets (fun s => s.lb.ring = e :: l ∧ s.ringFits e = true) (ringing true)) lb0 ([])) ∧
    ((fun (e : LbRec) (l : List LbRec) => Meets (fun s => s.lb.ring = e :: l ∧ s.ringFits e = false) (ringing false)) lb0 ([])) ∧
    (Meets (fun s => s.rd R.LB_EN ≠ 0 ∧ s.lb.lastBase + 500000 ≤ s.tclk) (live.put R.LB_EN 1)) ∧
    ((fun (r : Route) (cr : CommitRec) => Meets (fun s => s.takesCommit r.val 0x2F70 1 cr ∧ rpGoCheck (s.shadowValue r.val) s = 0) (committing
      { live with lb := { live.lb with rpRecs := [lb0] }, deep := { live.deep with tt := { live.deep.tt with image := some (List.replicate 128 0, extra0) } } }
      0x2F70 1 [1])) 0 ((recFor
      { live with lb := { live.lb with rpRecs := [lb0] }, deep := { live.deep with tt := { live.deep.tt with image := some (List.replicate 128 0, extra0) } } }
      0x2F70 1 [1]))) ∧
    ((fun (x : LbRec) (l : List LbRec) => Meets (fun s => s.lb.rpRecs = x :: l ∧ s.replaying = true ∧ s.lb.rpStart + (x.tclk - s.lb.rpFirst) ≤ s.tclk)
      (replayingOf [lb0])) lb0 ([])) ∧
    ((fun (r : Route) => Meets (fun s => s.takesWrite r.val 0x2F70 2 [1] ∧ (s.rpStop 1).2 = 0) live) 0) ∧
    (Meets (fun s => s.replaying = true ∧ s.lb.rpRecs = []) (replayingOf [])) ∧
    (Meets (fun s => s.replaying = false) live) ∧
    ((fun (l : List LbRec) => Meets (fun s => lbBytes l ≤ (s.rd R.RP_HOST_WR + 2 ^ 64 - s.rd R.RP_HOST_RD) % 2 ^ 64) live) ([])) := ⟨
  by simp only [Meets, State.takesRead]; decide +kernel,
  by simp only [Meets]; decide +kernel,
  by simp only [Meets]; decide +kernel,
  meets_commit live 0x2F00 0x0E [1, 0, 0, 0] _ (by decide +kernel) rfl (by decide +kernel) (by decide +kernel) (by decide +kernel),
  by simp only [Meets]; decide +kernel,
  by simp only [Meets, State.takesWrite]; decide +kernel,
  by simp only [Meets]; decide +kernel,
  by simp only [Meets]; decide +kernel,
  by simp only [Meets]; decide +kernel,
  meets_commit ({ live with lb := { live.lb with rpRecs := [lb0] }, deep := { live.deep with tt := { live.deep.tt with image := some (List.replicate 128 0, extra0) } } }) 0x2F70 1 [1] _ (by decide +kernel) rfl (by decide +kernel) (by decide +kernel) (by decide +kernel),
  by simp only [Meets]; decide +kernel,
  by simp only [Meets, State.takesWrite]; decide +kernel,
  by simp only [Meets]; decide +kernel,
  by simp only [Meets]; decide +kernel,
  by simp only [Meets]; decide +kernel⟩

end Sys2Proof.Tests
end

section
/-! PROOFS. Meridian's accumulator and the TCLK cycle (R13, R42), and the saturating counters (R21). -/
namespace Sys2Proof.Machine

/-! ### Two's complement -/

theorem neg_two_pow_le_sgnOf (w n : Nat) : -((2 ^ (w - 1) : Nat) : Int) ≤ sgnOf w n := by
  have hw : 2 ^ w ≤ 2 * 2 ^ (w - 1) := by
    rw [← Nat.pow_succ']
    exact Nat.pow_le_pow_right Nat.two_pos (by omega)
  unfold sgnOf
  dsimp only
  split <;> omega

/-! ### Meridian's accumulator (R42) -/

/-- The carries keep the parts in range, from whatever parts they start. -/
theorem Clock.advance_valid (c : Clock) (d : Nat) : (c.advance d).valid :=
  ⟨Nat.mod_lt _ (by decide), Nat.mod_lt _ (by decide), Nat.mod_lt _ (by decide)⟩

/-- With its carries at 2^32 and 10^9 the accumulator adds as one number; the seconds wrap at 2^64. -/
theorem Clock.advance_units (c : Clock) (d : Nat) :
    (c.advance d).units = (c.units + d) % (2 ^ 64 * 1000000000 * 2 ^ 32) := by
  simp only [Clock.units, Clock.advance]
  omega

/-! ### A TCLK cycle -/

variable (s : State)

theorem step_idle (h : s.pending = []) : step s = .next s.tick := by
  simp only [step, h]

theorem State.tick_live (h : s.power.porstLow = false) :
    s.tick = { s with
      tclk := s.tclk + 1
      clock := s.clock.advance ((incNom : Int) + s.rdI 32 R.RATE_ADJ).toNat
      mer := { s.mer with adjSum := s.mer.adjSum + s.rdI 32 R.RATE_ADJ }
      out := [] } := by
  simp [State.tick, h]

/-- A 32-bit adjustment never turns the increment negative, so `Int.toNat` drops nothing of it. -/
theorem State.incNom_add_rdI_nonneg (k : Nat) : 0 ≤ (incNom : Int) + s.rdI 32 k := by
  have h : -((2 ^ 31 : Nat) : Int) ≤ s.rdI 32 k := neg_two_pow_le_sgnOf 32 _
  show 0 ≤ (8589934592 : Int) + _
  omega

theorem State.tick_clock_valid (h : s.power.porstLow = false) : s.tick.clock.valid := by
  rw [s.tick_live h]
  exact Clock.advance_valid _ _

theorem State.tick_clock_units (h : s.power.porstLow = false) :
    (s.tick.clock.units : Int) =
      ((s.clock.units : Int) + ((incNom : Int) + s.rdI 32 R.RATE_ADJ)) % (2 ^ 64 * 1000000000 * 2 ^ 32) := by
  rw [s.tick_live h, Clock.advance_units, Int.natCast_emod, Int.natCast_add,
    Int.toNat_of_nonneg (s.incNom_add_rdI_nonneg _)]
  rfl

end Sys2Proof.Machine

namespace Sys2Proof.Proofs
open Sys2Proof.Machine

/-- Settles O5: with the queue empty the step is a tick, whose increment is positive and is added with its carries. -/
theorem tickAddsIncrement : Obligations.TickAddsIncrement := by
  intro s hpending hlive _
  refine ⟨s.tick, step_idle s hpending, s.tick_clock_valid hlive, ?_, rfl, ?_⟩
  · rw [s.tick_clock_units hlive, ← Int.add_assoc]
    rfl
  · rw [s.tick_live hlive]

/-- Settles O28: a count is a write of the saturated sum to the one register. -/
theorem countersSaturate : Obligations.CountersSaturate := fun s k =>
  ⟨s.rd_bump_same k, fun _ hj => s.rd_bump_ne hj, rfl⟩

end Sys2Proof.Proofs
end

section
/-! PROOFS. The image and the timetable (chapter 10): loading and admission, instants and origins, the states of a task's
entry, and entries that become EMPTY. -/
namespace Sys2Proof.Machine

/-! ### The operations the commands share -/

/-- A command whose meaning `m` is `run f` does what `f` does where `P` holds. -/
theorem Does.of_meaning {c : Instr} {P : State → Prop} {E f : State → State} (m : State → Host.Outcome State Fault Refusal)
    (hexec : ∀ s, exec c s = m s) (hrun : ∀ s, m s = s.run f) (hf : ∀ s, P s → f s = E s) : Does c P E :=
  Does.of_run (fun s => (hexec s).trans (hrun s)) hf

section
variable (s : State)

theorem State.injHere_unarmed {nn inst : Nat} (h : s.injArmed nn inst = false) : s.injHere nn inst = s := by
  simp [State.injHere, h]

/-- WAIT becomes READY (R303). -/
theorem State.tryReady_complete {c i t : Nat} {e : SbEntry} {r : TaskRec} (he : s.entry c i t = some e) (hr : s.taskRec c t = some r)
    (hwait : e.st = 1) (hin : e.inrdy = 2 ^ r.inputs.length - 1) (hmin : s.cycOrigin c i + r.startMin * ftNs ≤ s.now) :
    s.tryReady c i t = s.mapEntry (c, i, t) fun x => { x with st := 2 } := by
  simp [State.tryReady, he, hr, hwait, hin, hmin]

end

/-! ### The image (R282, R286) -/

theorem does_imgLoad (r : Route) :
    Does (.imgLoad r) (fun s => s.takesWrite r.val 0x2800 2 (toLe 1 1) ∧ s.replaying = false ∧ s.keeperFree ∧ s.imgLoad.2 = 0)
      fun s => s.imgLoad.1.written r.val 0x2800 2 (toLe 1 1) := by
  refine Does.of_meaning (execImgLoad r) (fun _ => rfl) (fun _ => rfl) fun s ⟨htaken, hreplay, hfree, hok⟩ => ?_
  have hf : (if s.replaying then (s, 0x2008) else s.deferred r.val 0x2800 2 .imgLoad State.imgLoad) = s.imgLoad := by
    simp [hreplay, s.deferred_free hfree]
  rw [s.hostWrite_taken htaken (by rw [hf, hok]), hf]

theorem does_admissionComplete (x : ImageExtra) :
    Does (.admissionComplete x) (fun s => s.deep.tt.checking = true) fun s => s.readImage.2.admitImage s.readImage.1 x :=
  Does.of_meaning (execAdmissionComplete x) (fun _ => rfl) (fun _ => rfl) fun s hchecking => by simp [hchecking]

/-! ### Instants and origins (R29, R303) -/

theorem does_epochInstant_reached :
    Does .epochInstant (fun s => s.deep.tt.loaded = true ∧ s.instant s.deep.tt.epochNext ≤ s.now) (fun s => s.epochInstant) :=
  Does.of_meaning execEpochInstant (fun _ => rfl) (fun _ => rfl) fun s ⟨hloaded, hdue⟩ => by simp [hloaded, Nat.not_lt_of_le hdue]

theorem does_epochInstant_early :
    Does .epochInstant (fun s => s.deep.tt.loaded = false ∨ s.now < s.instant s.deep.tt.epochNext) (fun s => s) := by
  refine Does.of_meaning execEpochInstant (fun _ => rfl) (fun _ => rfl) fun s hearly => ?_
  rcases hearly with hunloaded | hbefore
  · simp [hunloaded]
  · simp [hbefore]

theorem does_instanceOrigin (c : Fin 8) (q : Nat) :
    Does (.instanceOrigin c) (fun s => s.nextOf c.val = some q ∧ s.deep.tt.loaded = true ∧ s.cycOrigin c.val q ≤ s.now)
      fun s => s.instanceOrigin c.val q :=
  Does.of_meaning (execInstanceOrigin c) (fun _ => rfl) (fun _ => rfl) fun s ⟨hnext, hloaded, hdue⟩ => by
    simp [hnext, hloaded, Nat.not_lt_of_le hdue]

/-! ### A task's entry (R303 to R306) -/

section
variable (c : Fin 8) (i : Nat) (t : BitVec 16) (e : SbEntry) (r : TaskRec)

theorem does_startMin :
    Does (.startMin c i t)
      (fun s => s.entry c.val i t.toNat = some e ∧ s.taskRec c.val t.toNat = some r ∧ e.st = 1 ∧
        e.inrdy = 2 ^ r.inputs.length - 1 ∧ s.cycOrigin c.val i + r.startMin * ftNs ≤ s.now)
      fun s => s.mapEntry (c.val, i, t.toNat) fun x => { x with st := 2 } :=
  Does.of_meaning (execStartMin c i t) (fun _ => rfl) (fun _ => rfl) fun s ⟨he, hr, hwait, hin, hmin⟩ =>
    s.tryReady_complete he hr hwait hin hmin

theorem does_inputResolve_ready (k : Fin 8) (x : InEnt) (o : Int) :
    Does (.inputResolve c i t k) (fun s => s.openInput c.val i t.toNat k.val = some (e, r, x) ∧ s.inputNow e x = .ready o)
      fun s => s.resolveInput c.val i t.toNat k.val (some o) false :=
  Does.of_meaning (execInputResolve c i t k) (fun _ => rfl) (fun _ => rfl) fun s ⟨hopen, hnow⟩ => by simp only [hopen, hnow]

theorem does_inputResolve_waits (k : Fin 8) (x : InEnt) :
    Does (.inputResolve c i t k) (fun s => s.openInput c.val i t.toNat k.val = some (e, r, x) ∧ s.inputNow e x = .no)
      fun s => s :=
  Does.of_meaning (execInputResolve c i t k) (fun _ => rfl) (fun _ => rfl) fun s ⟨hopen, hnow⟩ => by simp only [hopen, hnow]

/-- Kinds 3 to 5 are neither camera inputs nor taken from the cycle before, so only the fallback is left (R305). -/
theorem does_inDl_fallback (k : Fin 8) (x : InEnt) :
    Does (.inDl c i t k)
      (fun s => s.openInput c.val i t.toNat k.val = some (e, r, x) ∧ s.cycOrigin c.val i + r.inDl * ftNs ≤ s.now ∧ 3 ≤ x.kind ∧
        x.fb ≠ 0 ∧ s.inputNow e x = .no)
      fun s => (s.resolveInput c.val i t.toNat k.val (some noOldest) true).fellBack c.val i t.toNat k.val := by
  refine Does.of_meaning (execInDl c i t k) (fun _ => rfl) (fun _ => rfl) fun s ⟨hopen, hdue, hkind, hfb, hnow⟩ => ?_
  have hcam : x.kind ≠ 2 := by omega
  have hprev : x.kind ≠ 1 := by omega
  simp [hopen, Nat.not_lt_of_le hdue, hcam, hprev, hnow, hkind, hfb]

theorem does_taskDispatch :
    Does (.taskDispatch c i t)
      (fun s => s.entry c.val i t.toNat = some e ∧ s.taskRec c.val t.toNat = some r ∧ e.st = 2 ∧ s.unitIdle r = true ∧
        s.unitsClear e.key r = true ∧ s.unitsEnded r = true)
      fun s => (s.mapEntry e.key fun x => { x with st := 3 }).unitStart r e.key :=
  Does.of_meaning (execTaskDispatch c i t) (fun _ => rfl) (fun _ => rfl) fun s ⟨he, hr, hready, hidle, hclear, hended⟩ => by
    simp [he, hr, hready, hidle, hclear, hended]

theorem does_taskComplete (f : Bool) :
    Does (.taskComplete c i t)
      (fun s => s.entry c.val i t.toNat = some e ∧ s.taskRec c.val t.toNat = some r ∧ e.st = 3 ∧ s.taskEnd e r = some f)
      fun s => s.taskFinish e r f :=
  Does.of_meaning (execTaskComplete c i t) (fun _ => rfl) (fun _ => rfl) fun s ⟨he, hr, hrun, hend⟩ => by
    simp [he, hr, hrun, hend]

/-- A task in RUN that has ended is left to its completion; any other that is not finished is aborted (R304, R306). -/
theorem does_taskAbort :
    Does (.taskAbort c i t)
      (fun s => s.entry c.val i t.toNat = some e ∧ s.taskRec c.val t.toNat = some r ∧ 1 ≤ e.st ∧ e.st ≤ 3 ∧
        s.injArmed 41 r.unit = false ∧ s.cycOrigin c.val i + r.doneDl * ftNs ≤ s.now ∧ (e.st = 3 → s.taskEnd e r = none))
      fun s => ((s.abortEntry e s.now).bump R.ABORT_CNT).detect 41 r.unit [(16, e.task)] := by
  refine Does.of_meaning (execTaskAbort c i t) (fun _ => rfl) (fun _ => rfl) fun s ⟨he, hr, hfrom, hto, hinj, hdue, hrunning⟩ => ?_
  have hnotEnded : (decide (e.st = 3) && (s.taskEnd e r).isSome) = false := by
    by_cases hrun : e.st = 3
    · simp [hrunning hrun]
    · simp [hrun]
  simp [he, hr, hfrom, hto, hinj, hdue, hnotEnded, s.injHere_unarmed hinj]

end

/-! ### Entries become EMPTY (R303, R311) -/

/-- Without a task in RUN no unit is stopped, and cycle 0 alone has epochs. -/
theorem does_instanceEmpty (c : Fin 8) (i : Nat) (hc : c.val ≠ 0) :
    Does (.instanceEmpty c i)
      (fun s => s.deep.tt.loaded = true ∧ s.cycOrigin c.val i + 2 * s.cycleQ c.val ≤ s.now ∧
        s.deep.tt.sb.filter (fun e => (decide (e.cycle = c.val) && decide (e.inst = i)) && decide (e.st = 3)) = [])
      fun s => s.mapTt fun t =>
        { t with sb := t.sb.filter (fun e => !(e.cycle = c.val && e.inst = i)), fbInst := t.fbInst.filter (fun p => p ≠ (c.val, i)) } := by
  refine Does.of_meaning (execInstanceEmpty c i) (fun _ => rfl) (fun _ => rfl) fun s ⟨hloaded, hdue, hnone⟩ => ?_
  simp [hloaded, Nat.not_lt_of_le hdue, hnone, hc]

end Sys2Proof.Machine

namespace Sys2Proof.Proofs
open Sys2Proof.Machine

/-- Settles O49: each command tests what its clause assumes, and then does what the clause says. -/
theorem timetableComplete : Obligations.TimetableComplete :=
  ⟨does_imgLoad, does_admissionComplete, does_epochInstant_reached, does_epochInstant_early, does_instanceOrigin, does_startMin,
    fun c i t k e r x o => does_inputResolve_ready c i t e r k x o, fun c i t k e r x => does_inputResolve_waits c i t e r k x,
    fun c i t k e r x => does_inDl_fallback c i t e r k x, does_taskDispatch, does_taskComplete, does_taskAbort,
    does_instanceEmpty⟩

end Sys2Proof.Proofs
end

section
/-! PROOFS. Meridian's time without commands and after reset (R42, R43, R535), and the commands of Meridian, of network time, of
the launch queues and of the time pins (chapter 02). -/
namespace Sys2Proof.Machine

/-! ### Time without commands (R42) -/

theorem Clock.units_lt {c : Clock} (h : c.valid) : c.units < 2 ^ 64 * 1000000000 * 2 ^ 32 := by
  obtain ⟨hsec, hns, hfrac⟩ := h
  unfold Clock.units
  omega

section
variable {s : State}

theorem State.tick_porstLow (h : s.power.porstLow = false) : s.tick.power.porstLow = false := by
  rw [s.tick_live h]
  exact h

theorem State.tick_dict (h : s.power.porstLow = false) : s.tick.dict = s.dict := by
  rw [s.tick_live h]

theorem State.rdI_of_dict {t : State} (h : t.dict = s.dict) (w k : Nat) : t.rdI w k = s.rdI w k := by
  simp only [State.rdI, State.rd, h]

end

/-- What `n` idle cycles make of `s`: the count and the accumulator move, the registers, the memory and the free values stay. -/
structure IdleAfter (n : Nat) (s t : State) : Prop where
  tclk : t.tclk = s.tclk + n
  valid : t.clock.valid
  units : (t.clock.units : Int) =
    ((s.clock.units : Int) + n * (8589934592 + s.rdI 32 R.RATE_ADJ)) % (2 ^ 64 * 1000000000 * 2 ^ 32)
  dict : t.dict = s.dict
  mem : t.mem = s.mem
  free : t.free = s.free
  pending : t.pending = []

theorem IdleAfter.zero {s : State} (hpending : s.pending = []) (hvalid : s.clock.valid) : IdleAfter 0 s s where
  tclk := rfl
  valid := hvalid
  units := by
    have hlt := Clock.units_lt hvalid
    rw [Int.natCast_zero, Int.zero_mul, Int.add_zero, Int.emod_eq_of_lt] <;> omega
  dict := rfl
  mem := rfl
  free := rfl
  pending := hpending

/-- One tick before `n` idle cycles makes `n + 1` of them: the tick leaves `RATE_ADJ`, and so the increment, as it is. -/
theorem IdleAfter.tick {n : Nat} {s t : State} (hlive : s.power.porstLow = false) (h : IdleAfter n s.tick t) :
    IdleAfter (n + 1) s t where
  tclk := by
    rw [h.tclk, s.tick_live hlive]
    exact Nat.add_right_comm _ _ _
  valid := h.valid
  units := by
    rw [h.units, State.rdI_of_dict (State.tick_dict hlive), s.tick_clock_units hlive, Int.emod_add_emod]
    have hinc : (incNom : Int) = 8589934592 := rfl
    rw [hinc, Int.natCast_succ, Int.add_mul n 1, Int.one_mul, Int.add_assoc, Int.add_comm (_ + _) (n * _)]
  dict := h.dict.trans (State.tick_dict hlive)
  mem := by rw [h.mem, s.tick_live hlive]
  free := by rw [h.free, s.tick_live hlive]
  pending := h.pending

theorem runs_idleAfter (n : Nat) {s : State} (hpending : s.pending = []) (hlive : s.power.porstLow = false) (hvalid : s.clock.valid) :
    ∃ t, Runs n s t ∧ IdleAfter n s t := by
  induction n generalizing s with
  | zero => exact ⟨s, .zero s, .zero hpending hvalid⟩
  | succ n ih =>
    have hnext : s.tick.pending = [] := by rw [s.tick_live hlive]; exact hpending
    obtain ⟨t, hruns, hafter⟩ := ih hnext (State.tick_porstLow hlive) (s.tick_clock_valid hlive)
    exact ⟨t, .succ (step_idle s hpending) hruns, hafter.tick hlive⟩

/-! ### Commands that are one request of a route (R467, R480) -/

section
variable {c : Instr} {r idx sub : Nat} (m : State → Host.Outcome State Fault Refusal) (hexec : ∀ s, exec c s = m s)
include hexec

theorem Writes.of_meaning {d : Bytes} {f : State → State × Nat} (hrun : ∀ s, m s = s.run fun s => s.hostWrite r idx sub d f) :
    Writes c r idx sub d f :=
  Does.of_meaning m hexec hrun fun s ⟨htaken, heffect⟩ => s.hostWrite_taken htaken heffect

theorem Reads.of_meaning {n : Nat} {f : State → Bytes × State} (hrun : ∀ s, m s = s.run fun s => s.hostRead r idx sub n f) :
    Reads c r idx sub f :=
  Does.of_meaning m hexec hrun fun s htaken => s.hostRead_taken htaken

theorem Commits.of_meaning {cr : CommitRec} {check : Bytes → State → Nat} {apply : Bytes → State → State}
    (hrun : ∀ s, m s = s.run fun s => s.commit r idx sub cr check apply) : Commits c r idx sub cr check apply :=
  Does.of_meaning m hexec hrun fun s ⟨htaken, hcheck⟩ => s.commit_taken htaken hcheck

end

/-! ### Meridian's controls (R44, R46, R54, R56, R482) -/

theorem writes_rateAdjWrite (r : Route) (v : BitVec 32) :
    Writes (.rateAdjWrite r v) r.val 0x2100 4 (toLe 4 v.toNat) fun s => s.rateWrite v.toNat :=
  .of_meaning (execRateAdjWrite r v) (fun _ => rfl) fun _ => rfl

theorem writes_servoEnWrite (r : Route) (v : Bool) :
    Writes (.servoEnWrite r v) r.val 0x2100 5 (toLe 1 (boolNat v)) fun s => (s.servoEnable (boolNat v), 0) :=
  .of_meaning (execServoEnWrite r v) (fun _ => rfl) fun _ => rfl

theorem writes_srcSelWrite (r : Route) (v : BitVec 8) :
    Writes (.srcSelWrite r v) r.val 0x2100 6 (toLe 1 v.toNat) fun s => ((s.wr R.SRC_SEL v.toNat).reselect, 0) :=
  .of_meaning (execSrcSelWrite r v) (fun _ => rfl) fun _ => rfl

theorem commits_restep (r : Route) (cr : CommitRec) : Commits (.restep r cr) r.val 0x2100 0x0C cr restepCheck restepApply :=
  .of_meaning (execRestep r cr) (fun _ => rfl) fun _ => rfl

theorem commits_asym (r : Route) (p : Fin 16) (cr : CommitRec) :
    Commits (.asym r p cr) r.val (0x2110 + p.val) 3 cr noCheck (keyApply (R.ASYM p.val)) :=
  .of_meaning (execAsym r p cr) (fun _ => rfl) fun _ => rfl

theorem commits_cwParamCommit (r : Route) (t : CwParam) (cr : CommitRec) :
    Commits (.cwParamCommit r t cr) r.val (cwEntry t).1 (cwEntry t).2 cr noCheck
      (keyApply (entryKey (cwEntry t).1 (cwEntry t).2)) :=
  .of_meaning (execCwParamCommit r t cr) (fun _ => rfl) fun _ => rfl

theorem does_lockoutEnd (t : Nat) :
    Does .lockoutEnd (fun s => s.routes.lockUntil = some t ∧ t ≤ s.tclk)
      fun s => { s with routes := { s.routes with lockUntil := none } } :=
  Does.of_meaning execLockoutEnd (fun _ => rfl) (fun _ => rfl) fun s ⟨hlock, hdue⟩ => by simp [hlock, Nat.not_lt_of_le hdue]

/-! ### Messages that arrive (R48, R49, R563, R564) -/

section
variable {s : State} {p : Nat} {m : PtpMsg}

theorem State.ptpMsg_good (h : s.ptpGood p m) (f : State → State) : s.ptpMsg p m false f = f s := by
  obtain ⟨hon, hdomain, hshort, hversion, hns⟩ := h
  simp [State.ptpMsg, hon, hdomain, hshort, hversion, Nat.not_le_of_lt hns]

theorem State.ptpMsg_short (hshort : m.short = true) (hon : s.ptpOn p = true) (hdomain : m.domain = s.rd R.DOMAIN_NUM) (bad : Bool)
    (f : State → State) : s.ptpMsg p m bad f = s.bump (R.BAD_MSG p) := by
  simp [State.ptpMsg, hon, hdomain, hshort]

/-- A command that carries a message and refuses none for its type does what taking the message does. -/
theorem Does.of_ptpMsg {c : Instr} {f : State → State} (meaning : State → Host.Outcome State Fault Refusal)
    (hexec : ∀ s, exec c s = meaning s) (hrun : ∀ s, meaning s = s.run fun s => s.ptpMsg p m false f) :
    Does c (fun s => s.ptpGood p m) f :=
  Does.of_meaning meaning hexec hrun fun _ hgood => State.ptpMsg_good hgood f

end

section
variable (p : Fin 16) (m : PtpMsg)

/-- A one-step Sync is a bad message; one that its Follow_Up completes is taken (R49, R563). -/
theorem does_sync (h : m.twoStep = true) : Does (.sync p m) (fun s => s.ptpGood p.val m) fun s => s.takeSync p.val m :=
  .of_ptpMsg (execSync p m) (fun _ => rfl) fun s => by simp only [execSync, h, Bool.not_true]

theorem does_followUp : Does (.followUp p m) (fun s => s.ptpGood p.val m) fun s => s.takeFollowUp p.val m :=
  .of_ptpMsg (execFollowUp p m) (fun _ => rfl) fun _ => rfl

theorem does_pdelayReq : Does (.pdelayReq p m) (fun s => s.ptpGood p.val m) fun s => s.answerPdelay p.val m :=
  .of_ptpMsg (execPdelayReq p m) (fun _ => rfl) fun _ => rfl

theorem does_pdelayResp : Does (.pdelayResp p m) (fun s => s.ptpGood p.val m) fun s => s.takePdelayResp p.val m :=
  .of_ptpMsg (execPdelayResp p m) (fun _ => rfl) fun _ => rfl

theorem does_pdelayRespFollowUp :
    Does (.pdelayRespFollowUp p m) (fun s => s.ptpGood p.val m) fun s => s.takePdelayFollowUp p.val m :=
  .of_ptpMsg (execPdelayRespFollowUp p m) (fun _ => rfl) fun _ => rfl

theorem does_announce : Does (.announce p m) (fun s => s.ptpGood p.val m) fun s => s.takeAnnounce p.val m :=
  .of_ptpMsg (execAnnounce p m) (fun _ => rfl) fun _ => rfl

theorem does_announce_short (h : m.short = true) :
    Does (.announce p m) (fun s => s.ptpOn p.val = true ∧ m.domain = s.rd R.DOMAIN_NUM) fun s => s.bump (R.BAD_MSG p.val) :=
  Does.of_meaning (execAnnounce p m) (fun _ => rfl) (fun _ => rfl) fun _ ⟨hon, hdomain⟩ =>
    State.ptpMsg_short h hon hdomain false _

/-! ### A port's own messages and timers (R46, R48, R51, R564) -/

theorem does_announceReceiptTimeout (a : AnnInfo) :
    Does (.announceReceiptTimeout p) (fun s => (s.ptpPort p.val).ann = some a ∧ a.at_ + 3 * intervalTclk a.log ≤ s.tclk)
      fun s => (s.setPtpPort p.val { s.ptpPort p.val with ann := none }).reselect :=
  Does.of_meaning (execAnnounceReceiptTimeout p) (fun _ => rfl) (fun _ => rfl) fun s ⟨hann, hdue⟩ => by
    simp [hann, Nat.not_lt_of_le hdue]

theorem does_announceTx :
    Does (.announceTx p) (fun s => s.ptpOn p.val = true ∧ s.rd (R.PORT_STATE p.val) = 6) fun s =>
      let q := s.ptpPort p.val
      (s.setPtpPort p.val { q with seqTx := (q.seqTx + 1) % 65536 }).emit (.ptp p.val .announce (s.ptpOwn q.seqTx 0 s.now)) :=
  Does.of_meaning (execAnnounceTx p) (fun _ => rfl) (fun _ => rfl) fun s ⟨hon, hmaster⟩ => by simp [hon, hmaster]

theorem does_syncTx :
    Does (.syncTx p) (fun s => s.ptpOn p.val = true ∧ s.rd (R.PORT_STATE p.val) = 6) fun s =>
      let q := s.ptpPort p.val
      let log := s.rdI 8 (R.LOG_SYNC p.val)
      ((s.setPtpPort p.val { q with seqTx := (q.seqTx + 1) % 65536 }).emit (.ptp p.val .sync (s.ptpOwn q.seqTx log 0))).emit
        (.ptp p.val .followUp (s.ptpOwn q.seqTx log (s.txStamp p.val))) :=
  Does.of_meaning (execSyncTx p) (fun _ => rfl) (fun _ => rfl) fun s ⟨hon, hmaster⟩ => by simp [hon, hmaster]

theorem does_pdelayReqTx :
    Does (.pdelayReqTx p) (fun s => s.ptpOn p.val = true) fun s =>
      let q := s.ptpPort p.val
      (s.setPtpPort p.val { q with seqTx := (q.seqTx + 1) % 65536, req := some (q.seqTx, (s.txStamp p.val : Int)), resp := none }).emit
        (.ptp p.val .pdelayReq (s.ptpOwn q.seqTx (s.rdI 8 (R.LOG_PDELAY p.val)) 0)) :=
  Does.of_meaning (execPdelayReqTx p) (fun _ => rfl) (fun _ => rfl) fun s hon => by simp [hon]

end

theorem does_sourceLoss_ptp (a b : Nat) :
    Does .sourceLoss
      (fun s => s.mer.src = some (.ptp a b) ∧ s.mer.lastSync + s.rd R.SRC_LOSS_N * intervalTclk s.mer.syncLog ≤ s.tclk)
      fun s => { s with mer := { s.mer with syncLost := true } }.reselect :=
  Does.of_meaning execSourceLoss (fun _ => rfl) (fun _ => rfl) fun s ⟨hsrc, hdue⟩ => by simp [hsrc, Nat.not_lt_of_le hdue]

/-! ### Edges (R47, R78) -/

theorem State.livePort_live {s : State} (h : s.replaying = false) (f : State → State) : s.livePort f = f s := by
  simp [State.livePort, h]

theorem does_ppsEdge (n : Fin 4) (rising : Bool) (hold : Nat) :
    Does (.ppsEdge n rising hold)
      (fun s => s.replaying = false ∧ s.rd (R.PPS_FILT n.val) ≤ hold ∧ rising = (s.rd (R.PPS_EDGE_SEL n.val) == 0))
      fun s => s.takePps n.val rising (s.now - syncDelay - s.rd (R.PPS_LAT n.val) * ftNs) :=
  Does.of_meaning (execPpsEdge n rising hold) (fun _ => rfl) (fun _ => rfl) fun s ⟨hlive, hhold, hactive⟩ => by
    rw [State.livePort_live hlive, ← hactive]
    simp [Nat.not_lt_of_le hhold]

section
variable (n : Fin 16) (rising pair : Bool) (hold : Nat)

theorem does_tioEdge :
    Does (.tioEdge n rising hold pair) (fun s => s.replaying = false ∧ s.rd (R.TIO_FILT n.val) ≤ hold)
      fun s => s.tioEdge n.val (s.now - syncDelay) rising pair :=
  Does.of_meaning (execTioEdge n rising hold pair) (fun _ => rfl) (fun _ => rfl) fun s ⟨hlive, hhold⟩ => by
    rw [State.livePort_live hlive, if_neg (Nat.not_lt_of_le hhold)]

theorem does_tioEdge_filtered :
    Does (.tioEdge n rising hold pair) (fun s => s.replaying = false ∧ hold < s.rd (R.TIO_FILT n.val))
      fun s => s.bump (R.TIO_GLITCH n.val) :=
  Does.of_meaning (execTioEdge n rising hold pair) (fun _ => rfl) (fun _ => rfl) fun s ⟨hlive, hshort⟩ => by
    rw [State.livePort_live hlive, if_pos hshort]

end

/-! ### Frames (R59, R62, R63) -/

section
variable (p : Fin 16) (w : BitVec 128) (d : Bytes) (id : Option (BitVec 16)) (t : Nat)

theorem does_launchFrameSubmit_waits (h : ftOfWord w.toNat = some t) :
    Does (.launchFrameSubmit p w d id)
      (fun s => p.val < s.ethPorts ∧ s.replaying = false ∧ s.now + 400 * ftNs ≤ t ∧ t ≤ s.now + ftSec)
      fun s => s.setLaunchQ p.val (s.launchQ p.val ++ [{ launch := t, data := d, stamp := id.map (fun x => x.toNat), slipped := false }]) :=
  Does.of_meaning (execLaunchFrameSubmit p w d id) (fun _ => rfl) (fun _ => rfl) fun s ⟨hport, hlive, hearly, hrange⟩ => by
    simp [h, Nat.not_le_of_lt hport, hlive, Nat.not_lt_of_le hearly, Nat.not_lt_of_le hrange]

theorem does_launchFrameSubmit_late (h : ftOfWord w.toNat = some t) :
    Does (.launchFrameSubmit p w d id) (fun s => p.val < s.ethPorts ∧ s.replaying = false ∧ t < s.now + 400 * ftNs)
      fun s => s.lateLaunch p.val (id.map (fun x => x.toNat)) :=
  Does.of_meaning (execLaunchFrameSubmit p w d id) (fun _ => rfl) (fun _ => rfl) fun s ⟨hport, hlive, hlate⟩ => by
    simp [h, Nat.not_le_of_lt hport, hlive, hlate]

theorem does_frameTransmit :
    Does (.frameTransmit p d id) (fun s => p.val < s.ethPorts) fun s => s.sendEth p.val d (id.map (fun x => x.toNat)) 0 :=
  Does.of_meaning (execFrameTransmit p d id) (fun _ => rfl) (fun _ => rfl) fun _ hport => if_neg (Nat.not_le_of_lt hport)

end

section
variable (p : Fin 16) (f : LaunchFrame) (l : List LaunchFrame)

theorem does_launchTimeReached_leaves :
    Does (.launchTimeReached p false) (fun s => s.launchQ p.val = f :: l ∧ f.launch ≤ s.now)
      fun s => (s.setLaunchQ p.val l).sendEth p.val f.data f.stamp (if f.slipped then 2 else 1) :=
  Does.of_meaning (execLaunchTimeReached p false) (fun _ => rfl) (fun _ => rfl) fun s ⟨hhead, hdue⟩ => by
    simp [hhead, Nat.not_lt_of_le hdue]

theorem does_launchTimeReached_slips :
    Does (.launchTimeReached p true) (fun s => s.launchQ p.val = f :: l ∧ f.launch ≤ s.now ∧ f.slipped = false)
      fun s => (s.setLaunchQ p.val ({ f with slipped := true } :: l)).bump (R.LAUNCH_SLIP p.val) :=
  Does.of_meaning (execLaunchTimeReached p true) (fun _ => rfl) (fun _ => rfl) fun s ⟨hhead, hdue, hfirst⟩ => by
    simp [hhead, Nat.not_lt_of_le hdue, hfirst]

end

theorem reads_tsPop (r : Route) (p : Fin 16) : Reads (.tsPop r p) r.val (0x2110 + p.val) 0x0A fun s => s.tsPop p.val :=
  .of_meaning (execTsPop r p) (fun _ => rfl) fun _ => rfl

/-! ### Pulses (R64, R65) -/

theorem writes_tioStartWrite (r : Route) (n : Fin 16) (f : TioField) (d : Bytes) :
    Writes (.tioStartWrite r n f d) r.val (0x2120 + n.val) (tioSub f) d fun s => s.tioWrite n.val (tioSub f) d :=
  .of_meaning (execTioStartWrite r n f d) (fun _ => rfl) fun _ => rfl

/-- Outside the periodic mode no further pulse follows the one that starts (R64). -/
theorem does_tioPulse (n : Fin 16) (t : Nat) :
    Does (.tioPulse n)
      (fun s => s.tioNext n.val = some t ∧ t ≤ s.now ∧ s.tioEnd n.val = none ∧ s.rd (R.TIO_MODE n.val) ≠ 5)
      fun s => if (s.setTioNext n.val none).replaying then (s.setTioNext n.val none).bump (R.TIO_REPLAY n.val)
        else ((s.setTioNext n.val none).setTioEnd n.val (some (t + (s.setTioNext n.val none).rd (R.TIO_WIDTH n.val) * ftNs))).emit
          (.tio n.val (!(s.setTioNext n.val none).tioIdle n.val)) :=
  Does.of_meaning (execTioPulse n) (fun _ => rfl) (fun _ => rfl) fun s ⟨hnext, hdue, hidle, hsingle⟩ => by
    simp [hnext, Nat.not_lt_of_le hdue, hidle, hsingle]

theorem does_tioPulseEnd (n : Fin 16) (t : Nat) :
    Does (.tioPulseEnd n) (fun s => s.tioEnd n.val = some t ∧ t ≤ s.now)
      fun s => (s.setTioEnd n.val none).emit (.tio n.val (s.tioIdle n.val)) :=
  Does.of_meaning (execTioPulseEnd n) (fun _ => rfl) (fun _ => rfl) fun s ⟨hend, hdue⟩ => by
    simp [hend, Nat.not_lt_of_le hdue]

/-! ### After reset (R406, R483, R535) -/

/-- No initialisation pass has run, so of the stores that have one none is open (R407). -/
theorem State.reset_storeOpen {n : Nat} (h : n < 169) : State.reset.storeOpen n = false := by
  have hmask : State.reset.mem.openMask = 0 := rfl
  simp [State.storeOpen, hmask, Nat.not_le_of_lt h]

theorem State.reset_rd (k : Nat) : State.reset.rd k = regDefault k := rfl

theorem State.reset_merState : State.reset.rd R.MER_STATE = 0 := by
  rw [State.reset_rd]
  decide +kernel

theorem State.reset_rateAdj : State.reset.rd R.RATE_ADJ = 0 := by
  rw [State.reset_rd]
  decide +kernel

theorem Clock.reset_valid : Clock.reset.valid := ⟨Nat.two_pow_pos 64, Nat.succ_pos _, Nat.two_pow_pos 32⟩

end Sys2Proof.Machine

namespace Sys2Proof.Proofs
open Sys2Proof.Machine

/-- Settles O4, by induction on the number of cycles: each is a tick, which leaves the increment of the next as it is. -/
theorem idleTimeAddsUp : Obligations.IdleTimeAddsUp := by
  intro n s hpending hlive hvalid
  obtain ⟨t, hruns, h⟩ := runs_idleAfter n hpending hlive hvalid
  exact ⟨t, hruns, h.tclk, h.valid, h.units, h.dict, h.mem, h.free, h.pending⟩

/-- Settles O6: the tables of the reset state list nothing, so every entry, queue and cairn reads its default. -/
theorem resetState : Obligations.ResetState :=
  ⟨rfl, rfl, rfl, rfl, State.reset_rd, State.reset_merState, State.reset_rateAdj, Clock.reset_valid, rfl, rfl,
    fun _ => State.reset_storeOpen, rfl, rfl, fun _ => rfl, fun _ => rfl⟩

/-- Settles O33: each command is one request of its route, with the effect its clause names. -/
theorem meridianControlsComplete : Obligations.MeridianControlsComplete :=
  ⟨writes_rateAdjWrite, writes_servoEnWrite, writes_srcSelWrite, commits_restep, commits_asym, commits_cwParamCommit,
    does_lockoutEnd⟩

/-- Settles O34: a message that passes R563 reaches its type's own meaning, and a timer that is due acts. -/
theorem networkTimeComplete : Obligations.NetworkTimeComplete :=
  ⟨does_sync, does_followUp, does_pdelayReq, does_pdelayResp, does_pdelayRespFollowUp, does_announce, does_announce_short,
    does_announceReceiptTimeout, does_announceTx, does_syncTx, does_pdelayReqTx, does_sourceLoss_ptp, does_ppsEdge⟩

/-- Settles O35: a frame, a pulse or an edge takes the branch that its time, the MAC or the filter decides. -/
theorem timedOutputsComplete : Obligations.TimedOutputsComplete :=
  ⟨does_launchFrameSubmit_waits, does_launchFrameSubmit_late, does_launchTimeReached_leaves, does_launchTimeReached_slips,
    does_frameTransmit, reads_tsPop, writes_tioStartWrite, does_tioPulse, does_tioPulseEnd, does_tioEdge, does_tioEdge_filtered⟩

end Sys2Proof.Proofs
end

section
/-! PROOFS. The SIU (chapter 03): what arrives at a sensor port, the states of a slot and their timers, the settings of a port, and
links and buses that go down and come back. -/
namespace Sys2Proof.Machine

/-! ### What arrives in replay (R521) -/

theorem State.livePort_replay {s : State} (h : s.replaying = true) (f : State → State) : s.livePort f = s.bump R.RP_LIVE_DROP := by
  simp [State.livePort, h]

/-! ### CSI-2 packets (R73, R95) -/

section
variable {s : State} {p : Nat} {h : HdrEcc}

/-- What every CSI-2 packet meets before its own meaning `f`: replay, a port without power, and the ECC of its header. -/
def State.csiPacket (s : State) (p : Nat) (h : HdrEcc) (f : State → State) : State :=
  s.livePort fun s =>
    if !s.portUp (0x2270 + p) then s else if !(s.csiHeader p h).1 then (s.csiHeader p h).2 else f (s.csiHeader p h).2

theorem State.csiPacket_accepted (hlive : s.replaying = false) (hup : s.portUp (0x2270 + p) = true)
    (hheader : (s.csiHeader p h).1 = true) (f : State → State) : s.csiPacket p h f = f (s.csiHeader p h).2 := by
  unfold State.csiPacket
  rw [State.livePort_live hlive]
  simp [hup, hheader]

theorem State.csiPacket_discarded (hlive : s.replaying = false) (hup : s.portUp (0x2270 + p) = true)
    (hheader : (s.csiHeader p h).1 = false) (f : State → State) : s.csiPacket p h f = (s.csiHeader p h).2 := by
  unfold State.csiPacket
  rw [State.livePort_live hlive]
  simp [hup, hheader]

end

section
variable (p : Fin 32) (vc : Fin 4) (h : HdrEcc) (num : BitVec 16)

/-- A frame start on a channel, slot by slot (R95). -/
def State.csiFrameStart (s : State) : State :=
  (s.csiSlots p.val vc.val).foldl (fun t i =>
    (t.lbUnit i 2 t.now (shortPacket vc.val 0 num.toNat)).frameStart i t.now num.toNat) s

/-- A long packet on a channel: a bad CRC is counted, then each slot takes it as a row, as embedded data or not at all (R73). -/
def State.csiLongPacket (dt : BitVec 6) (ok : Bool) (d : Bytes) (s : State) : State :=
  let u := if ok then s else s.bump (R.CRC_BAD p.val)
  (u.csiSlots p.val vc.val).foldl (fun t i =>
    if dt.toNat = 0x12 then (t.lbUnit i 2 t.now d).frameEmbedded i d ok
    else if (t.tpl i).mid % 256 = dt.toNat then (t.lbUnit i 2 t.now d).frameRow i d ok
    else t) u

/-- A frame end on a channel, slot by slot (R91, R95). -/
def State.csiFrameEnd (s : State) : State :=
  (s.csiSlots p.val vc.val).foldl (fun t i =>
    (t.lbUnit i 2 t.now (shortPacket vc.val 1 num.toNat)).frameEnd i t.now
      (t.frameSeq i (match (t.slotRt i).frame with | some f => f.num | none => 0))) s

theorem execCsi2FrameStart_eq (s : State) :
    execCsi2FrameStart p vc h num s = s.run fun s => s.csiPacket p.val h (State.csiFrameStart p vc num) := rfl

theorem execCsi2LongPacket_eq (dt : BitVec 6) (ok : Bool) (d : Bytes) (s : State) :
    execCsi2LongPacket p vc h dt ok d s = s.run fun s => s.csiPacket p.val h (State.csiLongPacket p vc dt ok d) := rfl

theorem execCsi2FrameEnd_eq (s : State) :
    execCsi2FrameEnd p vc h num s = s.run fun s => s.csiPacket p.val h (State.csiFrameEnd p vc num) := rfl

theorem does_csi2FrameStart :
    Does (.csi2FrameStart p vc h num)
      (fun s => s.replaying = false ∧ s.portUp (0x2270 + p.val) = true ∧ (s.csiHeader p.val h).1 = true)
      fun s => (s.csiHeader p.val h).2.csiFrameStart p vc num :=
  Does.of_meaning (execCsi2FrameStart p vc h num) (fun _ => rfl) (execCsi2FrameStart_eq p vc h num)
    fun _ ⟨hlive, hup, hheader⟩ => State.csiPacket_accepted hlive hup hheader _

theorem does_csi2FrameStart_replay :
    Does (.csi2FrameStart p vc h num) (fun s => s.replaying = true) fun s => s.bump R.RP_LIVE_DROP :=
  Does.of_meaning (execCsi2FrameStart p vc h num) (fun _ => rfl) (execCsi2FrameStart_eq p vc h num)
    fun _ hreplay => State.livePort_replay hreplay _

theorem does_csi2LongPacket (dt : BitVec 6) (ok : Bool) (d : Bytes) :
    Does (.csi2LongPacket p vc h dt ok d)
      (fun s => s.replaying = false ∧ s.portUp (0x2270 + p.val) = true ∧ (s.csiHeader p.val h).1 = true)
      fun s => (s.csiHeader p.val h).2.csiLongPacket p vc dt ok d :=
  Does.of_meaning (execCsi2LongPacket p vc h dt ok d) (fun _ => rfl) (execCsi2LongPacket_eq p vc h dt ok d)
    fun _ ⟨hlive, hup, hheader⟩ => State.csiPacket_accepted hlive hup hheader _

theorem does_csi2FrameEnd_badHeader :
    Does (.csi2FrameEnd p vc h num)
      (fun s => s.replaying = false ∧ s.portUp (0x2270 + p.val) = true ∧ (s.csiHeader p.val h).1 = false)
      fun s => (s.csiHeader p.val h).2 :=
  Does.of_meaning (execCsi2FrameEnd p vc h num) (fun _ => rfl) (execCsi2FrameEnd_eq p vc h num)
    fun _ ⟨hlive, hup, hheader⟩ => State.csiPacket_discarded hlive hup hheader _

theorem does_csi2FrameEnd :
    Does (.csi2FrameEnd p vc h num)
      (fun s => s.replaying = false ∧ s.portUp (0x2270 + p.val) = true ∧ (s.csiHeader p.val h).1 = true)
      fun s => (s.csiHeader p.val h).2.csiFrameEnd p vc num :=
  Does.of_meaning (execCsi2FrameEnd p vc h num) (fun _ => rfl) (execCsi2FrameEnd_eq p vc h num)
    fun _ ⟨hlive, hup, hheader⟩ => State.csiPacket_accepted hlive hup hheader _

end

/-! ### Ethernet, CAN FD, SPI, UART and encoders (R74 to R79) -/

theorem does_ethFrameRx (p : Fin 16) (ok : Bool) (b : Bytes) :
    Does (.ethFrameRx p ok b)
      (fun s => s.replaying = false ∧ s.portUp (0x2290 + p.val) = true ∧ s.siu.linkDown.testBit p.val = false)
      fun s => s.rxEthFrame p.val ok b (s.now - s.rd (R.RX_LAT p.val) * ftNs) :=
  Does.of_meaning (execEthFrameRx p ok b) (fun _ => rfl) (fun _ => rfl) fun s ⟨hlive, hup, hlink⟩ => by
    rw [State.livePort_live hlive]
    simp [hup, hlink]

/-- With the USDO service off no identifier is its own, so every frame is for the slots (R75, R469). -/
theorem does_canFrameRx (c : Fin 4) (id : BitVec 29) (d : Bytes) :
    Does (.canFrameRx c id d)
      (fun s => s.replaying = false ∧ s.portUp (0x22A0 + c.val) = true ∧ s.siu.busOff.testBit c.val = false ∧ s.rd R.USDO_EN ≠ 1)
      fun s => s.rxCan c.val id.toNat d s.now :=
  Does.of_meaning (execCanFrameRx c id d) (fun _ => rfl) (fun _ => rfl) fun s ⟨hlive, hup, hbus, husdo⟩ => by
    rw [State.livePort_live hlive]
    simp [hup, hbus, husdo]

theorem does_spiDataReady (m : Fin 4) (hold i : Nat) :
    Does (.spiDataReady m hold)
      (fun s => s.replaying = false ∧ s.portUp (0x22A4 + m.val) = true ∧ s.rd (R.DRDY_FILT m.val) ≤ hold ∧
        smGet (fun _ => none) s.siu.spi m.val = none ∧ s.spiSlot m.val = some i)
      fun s => { s with siu := { s.siu with
        spi := smSet (fun _ => none) s.siu.spi m.val (some (s.now - syncDelay)) } }.emit (.spiStart m.val) :=
  Does.of_meaning (execSpiDataReady m hold) (fun _ => rfl) (fun _ => rfl) fun s ⟨hlive, hup, hhold, hidle, hslot⟩ => by
    rw [State.livePort_live hlive]
    simp [hup, Nat.not_lt_of_le hhold, hidle, hslot]

/-- The master of port `m` is idle again. -/
def State.spiIdle (s : State) (m : Nat) : State := { s with siu := { s.siu with spi := smSet (fun _ => none) s.siu.spi m none } }

/-- The transfer's end leaves the slots and replay as they are, so what the command starts from decides (R76). -/
theorem does_spiTransferDone (m : Fin 4) (d : Bytes) (stamp i : Nat) :
    Does (.spiTransferDone m d)
      (fun s => smGet (fun _ => none) s.siu.spi m.val = some stamp ∧ s.replaying = false ∧ s.spiSlot m.val = some i)
      fun s => ((s.spiIdle m.val).lbUnit i 4 stamp d).unit i d stamp :=
  Does.of_meaning (execSpiTransferDone m d) (fun _ => rfl) (fun _ => rfl) fun s ⟨hbusy, hlive, hslot⟩ => by
    have hidleLive : (s.spiIdle m.val).replaying = false := hlive
    have hidleSlot : (s.spiIdle m.val).spiSlot m.val = some i := hslot
    simp only [hbusy]
    refine (State.livePort_live hidleLive _).trans ?_
    simp only [hidleSlot]

section
variable (u : Fin 2) (n : Nat) (b : Bytes)

theorem does_uartSentence :
    Does (.uartSentence u n b true) (fun s => s.replaying = false ∧ s.portUp (0x22A8 + u.val) = true)
      fun s => s.rxSentence u.val b (s.now - n * ftNs) true :=
  Does.of_meaning (execUartSentence u n b true) (fun _ => rfl) (fun _ => rfl) fun s ⟨hlive, hup⟩ => by
    rw [State.livePort_live hlive]
    simp [hup]

theorem does_uartSentence_framingError :
    Does (.uartSentence u n b false) (fun s => s.replaying = false ∧ s.portUp (0x22A8 + u.val) = true)
      fun s => s.bump (R.UART_ERR u.val) :=
  Does.of_meaning (execUartSentence u n b false) (fun _ => rfl) (fun _ => rfl) fun s ⟨hlive, hup⟩ => by
    rw [State.livePort_live hlive]
    simp [hup]

end

theorem does_encoderSample (i : Fin 96) (k : Nat) :
    Does (.encoderSample i)
      (fun s => s.rd (R.SLOT_EN i.val) = 1 ∧ s.rd (R.SLOT_KIND i.val) = 5 ∧ k = s.now * s.rd (R.C_RATE i.val) / ftSec ∧
        (s.slotRt i.val).enc.grid < k)
      fun s => (s.setSlotRt i.val { s.slotRt i.val with enc := { (s.slotRt i.val).enc with grid := k } }).unit i.val
        (s.encRecord (s.slotRt i.val).enc) (k * ftSec / s.rd (R.C_RATE i.val)) :=
  Does.of_meaning (execEncoderSample i) (fun _ => rfl) (fun _ => rfl) fun s ⟨henabled, hencoder, hk, hnew⟩ => by
    simp [henabled, hencoder, ← hk, Nat.not_le_of_lt hnew]

/-! ### Slots and their timers (R83, R100) -/

theorem writes_slotEn (r : Route) (i : Fin 96) (v : Bool) :
    Writes (.slotEn r i v) r.val (0x2200 + i.val) 1 (toLe 1 (boolNat v)) fun s => s.enableSlot i.val v :=
  .of_meaning (execSlotEn r i v) (fun _ => rfl) fun _ => rfl

section
variable (i : Fin 96)

theorem does_stale_due :
    Does (.stale i)
      (fun s => s.rd (R.SLOT_STATE i.val) = 2 ∧ (s.slotRt i.val).timer + s.rd (R.STALE_T i.val) * ftUs ≤ s.now)
      fun s => s.setSlotState i.val 3 :=
  Does.of_meaning (execStale i) (fun _ => rfl) (fun _ => rfl) fun s ⟨hstate, hdue⟩ => by simp [hstate, Nat.not_lt_of_le hdue]

theorem does_stale_early :
    Does (.stale i) (fun s => s.now < (s.slotRt i.val).timer + s.rd (R.STALE_T i.val) * ftUs) fun s => s :=
  Does.of_meaning (execStale i) (fun _ => rfl) (fun _ => rfl) fun _ hearly => by simp [hearly]

theorem does_dead_due :
    Does (.dead i)
      (fun s => (s.rd (R.SLOT_STATE i.val) = 1 ∨ s.rd (R.SLOT_STATE i.val) = 3) ∧
        (s.slotRt i.val).timer + s.rd (R.DEAD_T i.val) * ftUs ≤ s.now)
      fun s => s.setSlotState i.val 4 := by
  refine Does.of_meaning (execDead i) (fun _ => rfl) (fun _ => rfl) fun s ⟨hstate, hdue⟩ => ?_
  rcases hstate with hwaiting | hstale
  · simp [hwaiting, Nat.not_lt_of_le hdue]
  · simp [hstale, Nat.not_lt_of_le hdue]

theorem does_dead_early :
    Does (.dead i) (fun s => s.now < (s.slotRt i.val).timer + s.rd (R.DEAD_T i.val) * ftUs) fun s => s :=
  Does.of_meaning (execDead i) (fun _ => rfl) (fun _ => rfl) fun _ hearly => by simp [hearly]

end

/-! ### Ports, links and buses (R85, R513) -/

/-- A command whose meaning is `run f`, without a case in which it does nothing, acts whenever it comes. -/
theorem Acts.of_meaning {c : Instr} {f : State → State} (m : State → Host.Outcome State Fault Refusal)
    (hexec : ∀ s, exec c s = m s) (hrun : ∀ s, m s = s.run f) : Acts c f :=
  Does.of_meaning m hexec hrun fun _ _ => rfl

theorem acts_portSettingApply (q : PortRef) :
    Acts (.portSettingApply q) fun s =>
      { s with siu := { s.siu with portSet := (portEntries q).foldl (fun m k => smSet regDefault m k (s.rd k)) s.siu.portSet } } :=
  .of_meaning (execPortSettingApply q) (fun _ => rfl) fun _ => rfl

theorem does_ethLinkDown (p : Fin 16) :
    Does (.ethLinkDown p)
      (fun s => s.siu.linkDown.testBit p.val = false ∧
        ({ s with siu := { s.siu with linkDown := setBit s.siu.linkDown p.val } } : State).slotsOn 1 p.val ≠ [])
      fun s => ({ s with siu := { s.siu with linkDown := setBit s.siu.linkDown p.val } }.injHere 33 p.val).detect 33 0 [] :=
  Does.of_meaning (execEthLinkDown p) (fun _ => rfl) (fun _ => rfl) fun s ⟨hup, hslots⟩ => by simp [hup, hslots]

theorem acts_ethLinkUp (p : Fin 16) :
    Acts (.ethLinkUp p) fun s => { s with siu := { s.siu with linkDown := clearBit s.siu.linkDown p.val } } :=
  .of_meaning (execEthLinkUp p) (fun _ => rfl) fun _ => rfl

theorem does_canBusOff (c : Fin 4) :
    Does (.canBusOff c) (fun s => s.siu.busOff.testBit c.val = false)
      fun s => ({ s with siu := { s.siu with busOff := setBit s.siu.busOff c.val } }.injHere 35 c.val).detect 35 0 [] :=
  Does.of_meaning (execCanBusOff c) (fun _ => rfl) (fun _ => rfl) fun _ hon => by simp [hon]

theorem acts_busOffRecovery (c : Fin 4) :
    Acts (.busOffRecovery c) fun s =>
      { s with siu := { s.siu with busOff := clearBit s.siu.busOff c.val, canPassive := clearBit s.siu.canPassive c.val } } :=
  .of_meaning (execBusOffRecovery c) (fun _ => rfl) fun _ => rfl

theorem acts_canBusError (c : Fin 4) (passive : Bool) :
    Acts (.canBusError c passive) fun s =>
      { s with siu := { s.siu with
        canPassive := if passive then setBit s.siu.canPassive c.val else clearBit s.siu.canPassive c.val } }.bump (R.CAN_ERR c.val) :=
  .of_meaning (execCanBusError c passive) (fun _ => rfl) fun _ => rfl

theorem does_startOfTransmissionError (p : Fin 32) :
    Does (.startOfTransmissionError p) (fun s => s.replaying = false ∧ s.slotsOn 0 p.val ≠ []) fun s =>
      (s.slotsOn 0 p.val).foldl (fun t i => match (t.slotRt i).frame with
        | some f => t.setSlotRt i { t.slotRt i with frame := some { f with damaged := true } }
        | none => t) ((s.injHere 34 p.val).detect 34 0 []) :=
  Does.of_meaning (execStartOfTransmissionError p) (fun _ => rfl) (fun _ => rfl) fun _ ⟨hlive, hslots⟩ =>
    (State.livePort_live hlive _).trans (if_neg hslots)

end Sys2Proof.Machine

namespace Sys2Proof.Proofs
open Sys2Proof.Machine

/-- Settles O36: past replay, the port's power and its own filter, a command takes what arrived; in replay a frame start is dropped
and counted. -/
theorem ingressComplete : Obligations.IngressComplete :=
  ⟨does_csi2FrameStart, does_csi2FrameStart_replay, does_csi2LongPacket, does_csi2FrameEnd_badHeader, does_csi2FrameEnd,
    does_ethFrameRx, does_canFrameRx, does_spiDataReady, does_spiTransferDone, does_uartSentence, does_uartSentence_framingError,
    does_encoderSample⟩

/-- Settles O37: a timer acts when it is due, a link or a bus goes down once, and what comes back acts whenever it comes. -/
theorem slotsAndPortsComplete : Obligations.SlotsAndPortsComplete :=
  ⟨writes_slotEn, does_stale_due, does_stale_early, does_dead_due, does_dead_early, acts_portSettingApply, does_ethLinkDown,
    does_canBusOff, does_startOfTransmissionError, acts_busOffRecovery, acts_canBusError, acts_ethLinkUp⟩

end Sys2Proof.Proofs
end


section
/-! PROOFS. Talus (chapter 04): the Morton code of a voxel's coordinates (R119), and the commands of the points, the sets, the octrees,
the rulebooks and the pose ring. -/
namespace Sys2Proof.Machine

/-! ### The Morton code (R119) -/

theorem boolNat_eq_toNat (b : Bool) : boolNat b = b.toNat := by cases b <;> rfl

/-- A number's low `n + 1` bits are its low `n` bits and bit `n`, in the form in which `unmorton` adds them up. -/
theorem mod_two_pow_add_boolNat_testBit (x n : Nat) : x % 2 ^ n + boolNat (x.testBit n) * 2 ^ n = x % 2 ^ (n + 1) := by
  rw [boolNat_eq_toNat, Nat.toNat_testBit, Nat.mod_pow_succ, Nat.mul_comm]

/-- What level `n` of the coordinates gives the key: one bit of each, the bit of the first lowest. -/
def mortonDigit (i j k n : Nat) : Nat := boolNat (i.testBit n) + boolNat (j.testBit n) * 2 ^ 1 + boolNat (k.testBit n) * 2 ^ 2

/-- The key of the coordinates' low `n` bits. -/
def mortonBelow (n i j k : Nat) : Nat :=
  (List.range n).foldl (fun a q =>
    a + boolNat (i.testBit q) * 2 ^ (3 * q) + boolNat (j.testBit q) * 2 ^ (3 * q + 1) +
      boolNat (k.testBit q) * 2 ^ (3 * q + 2)) 0

/-- The coordinates' low `n` bits, from the key `m`. -/
def unmortonBelow (n m : Nat) : Nat × Nat × Nat :=
  (List.range n).foldl (fun a q =>
    (a.1 + boolNat (m.testBit (3 * q)) * 2 ^ q, a.2.1 + boolNat (m.testBit (3 * q + 1)) * 2 ^ q,
     a.2.2 + boolNat (m.testBit (3 * q + 2)) * 2 ^ q)) (0, 0, 0)

theorem morton_eq_mortonBelow (i j k : Nat) : morton i j k = mortonBelow 16 i j k := rfl

theorem unmorton_eq_unmortonBelow (m : Nat) : unmorton m = unmortonBelow 16 m := rfl

section
variable (i j k : Nat)

theorem mortonDigit_lt (n : Nat) : mortonDigit i j k n < 8 := by
  unfold mortonDigit
  cases i.testBit n <;> cases j.testBit n <;> cases k.testBit n <;> decide

theorem testBit_mortonDigit (n : Nat) :
    (mortonDigit i j k n).testBit 0 = i.testBit n ∧ (mortonDigit i j k n).testBit 1 = j.testBit n ∧
      (mortonDigit i j k n).testBit 2 = k.testBit n := by
  unfold mortonDigit
  cases i.testBit n <;> cases j.testBit n <;> cases k.testBit n <;> decide

/-- The next level's digit stands above the key of the levels below it. -/
theorem mortonBelow_succ (n : Nat) : mortonBelow (n + 1) i j k = 2 ^ (3 * n) * mortonDigit i j k n + mortonBelow n i j k := by
  simp only [mortonBelow, mortonDigit, List.range_succ, List.foldl_append, List.foldl_cons, List.foldl_nil, Nat.pow_add, Nat.mul_add]
  ac_rfl

theorem mortonBelow_lt (n : Nat) : mortonBelow n i j k < 2 ^ (3 * n) := by
  induction n with
  | zero => exact Nat.one_pos
  | succ n ih =>
    calc mortonBelow (n + 1) i j k
        = 2 ^ (3 * n) * mortonDigit i j k n + mortonBelow n i j k := mortonBelow_succ i j k n
      _ < 2 ^ (3 * n) * (mortonDigit i j k n + 1) := Nat.add_lt_add_left ih _
      _ ≤ 2 ^ (3 * n) * 2 ^ 3 := Nat.mul_le_mul_left _ (mortonDigit_lt i j k n)
      _ = 2 ^ (3 * (n + 1)) := (Nat.pow_add 2 (3 * n) 3).symm

/-- Bits of the levels below `n` are those of the key so far; the bits above are those of the new digit. -/
theorem testBit_mortonBelow_succ (n b : Nat) :
    (mortonBelow (n + 1) i j k).testBit b =
      if b < 3 * n then (mortonBelow n i j k).testBit b else (mortonDigit i j k n).testBit (b - 3 * n) := by
  rw [mortonBelow_succ, Nat.testBit_two_pow_mul_add _ (mortonBelow_lt i j k n)]

theorem testBit_mortonBelow {n q r : Nat} (hq : q < n) (hr : r < 3) :
    (mortonBelow n i j k).testBit (3 * q + r) = (mortonDigit i j k q).testBit r := by
  induction n with
  | zero => exact absurd hq (Nat.not_lt_zero q)
  | succ n ih =>
    rw [testBit_mortonBelow_succ]
    rcases Nat.lt_succ_iff_lt_or_eq.mp hq with hbelow | rfl
    · rw [if_pos (by omega), ih hbelow]
    · rw [if_neg (by omega), Nat.add_sub_cancel_left]

theorem testBit_morton {q : Nat} (hq : q < 16) :
    (morton i j k).testBit (3 * q) = i.testBit q ∧ (morton i j k).testBit (3 * q + 1) = j.testBit q ∧
      (morton i j k).testBit (3 * q + 2) = k.testBit q := by
  obtain ⟨hi, hj, hk⟩ := testBit_mortonDigit i j k q
  rw [morton_eq_mortonBelow]
  exact ⟨(testBit_mortonBelow i j k hq (by decide : 0 < 3)).trans hi, (testBit_mortonBelow i j k hq (by decide)).trans hj,
    (testBit_mortonBelow i j k hq (by decide)).trans hk⟩

theorem morton_lt : morton i j k < 2 ^ 48 := mortonBelow_lt i j k 16

theorem unmortonBelow_morton {n : Nat} (hn : n ≤ 16) :
    unmortonBelow n (morton i j k) = (i % 2 ^ n, j % 2 ^ n, k % 2 ^ n) := by
  induction n with
  | zero => simp [unmortonBelow, Nat.mod_one]
  | succ n ih =>
    obtain ⟨hi, hj, hk⟩ := testBit_morton i j k hn
    have hbelow := ih (Nat.le_of_succ_le hn)
    unfold unmortonBelow at hbelow ⊢
    simp only [List.range_succ, List.foldl_append, List.foldl_cons, List.foldl_nil, hbelow, hi, hj, hk,
      mod_two_pow_add_boolNat_testBit]

theorem unmorton_morton : unmorton (morton i j k) = (i % 2 ^ 16, j % 2 ^ 16, k % 2 ^ 16) :=
  unmortonBelow_morton i j k (Nat.le_refl 16)

end

/-! ### Points and sets (R107, R126, R130) -/

theorem does_talusPointTake (p : Pt) (l : List Pt) :
    Does .talusPointTake (fun s => s.siu.fifoT = p :: l) fun s => ({ s with siu := { s.siu with fifoT := l } }).talusTake p :=
  Does.of_meaning execTalusPointTake (fun _ => rfl) (fun _ => rfl) fun s hfifo => by simp only [hfifo]

theorem does_talusPointTake_empty : Does .talusPointTake (fun s => s.siu.fifoT = []) fun s => s :=
  Does.of_meaning execTalusPointTake (fun _ => rfl) (fun _ => rfl) fun s hfifo => by simp only [hfifo]

section
variable (b : Nat) (v : VSet)

theorem does_setClose_due :
    Does .setClose (fun s => s.lowestOpen = some (b, v) ∧ s.instant v.epoch + s.lag ≤ s.now)
      fun s => (s.closeSet b v).mapTalus fun x => { x with firstEpoch := max x.firstEpoch (v.epoch + 1) } :=
  Does.of_meaning execSetClose (fun _ => rfl) (fun _ => rfl) fun s ⟨hopen, hdue⟩ => by simp [hopen, hdue]

theorem does_setClose_early :
    Does .setClose (fun s => s.lowestOpen = some (b, v) ∧ s.now < s.instant v.epoch + s.lag) fun s => s :=
  Does.of_meaning execSetClose (fun _ => rfl) (fun _ => rfl) fun s ⟨hopen, hearly⟩ => by simp [hopen, Nat.not_le_of_lt hearly]

end

theorem does_setRelease (b : Fin 3) (v : VSet) :
    Does (.setRelease b) (fun s => s.vset b.val = some v ∧ v.phase = .built ∧ s.setReleased b.val = true)
      fun s => (s.freeSet b.val v).mapTalus fun t =>
        { t with relGen := smSet (fun _ => 0) t.relGen b.val (smGet (fun _ => 0) t.relGen b.val + 1) } :=
  Does.of_meaning (execSetRelease b) (fun _ => rfl) (fun _ => rfl) fun s ⟨hset, hbuilt, hreleased⟩ => by
    simp [hset, hbuilt, hreleased]

/-! ### Octrees and rulebooks (R126, R230) -/

theorem does_octreeBuildDone (b : Nat) (v : VSet) :
    Does .octreeBuildDone (fun s => s.lowestBuilding = some (b, v) ∧ s.deep.rb = none) fun s => s.octreeDone b v :=
  Does.of_meaning execOctreeBuildDone (fun _ => rfl) (fun _ => rfl) fun s ⟨hbuilding, hidle⟩ => by simp [hbuilding, hidle]

section
variable (x : RbBuild) (v : VSet) (w : Nat)

theorem does_rulebookTileDone :
    Does .rulebookTileDone (fun s => s.rbNow = some (x, v, w) ∧ x.fail = false) fun s => s.rbTile x v w :=
  Does.of_meaning execRulebookTileDone (fun _ => rfl) (fun _ => rfl) fun s ⟨hbuild, hgood⟩ => by simp [hbuild, hgood]

theorem does_rulebookBuildDone :
    Does .rulebookBuildDone (fun s => s.rbNow = some (x, v, w) ∧ s.rbAllDone x v w = true) fun s => s.rbFinish x v w :=
  Does.of_meaning execRulebookBuildDone (fun _ => rfl) (fun _ => rfl) fun s ⟨hbuild, hall⟩ => by simp [hbuild, hall]

end

/-! ### The pose ring (R112) -/

theorem acts_poseRingWrite (e : BitVec 1024) : Acts (.poseRingWrite e) fun s => s.poseEntry s.ringWriter e.toNat :=
  .of_meaning (execPoseRingWrite e) (fun _ => rfl) fun _ => rfl

end Sys2Proof.Machine

namespace Sys2Proof.Proofs
open Sys2Proof.Machine

/-- Settles O13: level by level a digit of three bits is added above the key so far, and from the bits of the key the coordinates
come back modulo 2^16. -/
theorem mortonKey : Obligations.MortonKey := by
  intro i j k hi hj hk
  refine ⟨fun q => testBit_morton i j k, morton_lt i j k, ?_⟩
  rw [unmorton_morton, Nat.mod_eq_of_lt hi, Nat.mod_eq_of_lt hj, Nat.mod_eq_of_lt hk]

/-- Settles O38: each command tests what its clause assumes, and then does what the clause says. -/
theorem talusComplete : Obligations.TalusComplete :=
  ⟨does_talusPointTake, does_talusPointTake_empty, does_setClose_due, does_setClose_early, does_octreeBuildDone,
    does_rulebookTileDone, does_rulebookBuildDone, does_setRelease, acts_poseRingWrite⟩

end Sys2Proof.Proofs
end

section
/-! PROOFS. Sentinel (chapter 05): its points, its slices and their results, the exchange with the peers, the Plate, the corridor,
the safety outputs, the hazard frames, and the detectors with the restart. -/
namespace Sys2Proof.Machine

/-! ### Points, slices and results (R134, R136, R141, R148, R154, R158) -/

theorem does_sentinelPointTake (p : Pt) (l : List Pt) :
    Does .sentinelPointTake (fun s => s.siu.fifoS = p :: l)
      fun s => { s with siu := { s.siu with fifoS := l } }.sentinelTake p (l.length + 1) :=
  Does.of_meaning execSentinelPointTake (fun _ => rfl) (fun _ => rfl) fun s hfifo => by simp only [hfifo]

theorem does_sliceEnd_due :
    Does .sliceEnd (fun s => s.snt.running = true ∧ s.sliceEnd s.snt.nextEnd ≤ s.now) fun s =>
      ((s.mapSnt fun n => { n with nextEnd := s.snt.nextEnd + 1, pendSet := [] }).followSlice s.snt.nextEnd).updateSafe :=
  Does.of_meaning execSliceEnd (fun _ => rfl) (fun _ => rfl) fun s ⟨hrunning, hdue⟩ => by
    simp [hrunning, Nat.not_lt_of_le hdue]

theorem does_sliceEnd_early : Does .sliceEnd (fun s => s.now < s.sliceEnd s.snt.nextEnd) fun s => s :=
  Does.of_meaning execSliceEnd (fun _ => rfl) (fun _ => rfl) fun s hearly => by simp [hearly]

theorem does_sliceClose_due :
    Does .sliceClose
      (fun s => s.rd R.SNT_STATE = 2 ∧ s.snt.firstSlice ≤ s.snt.nextClose ∧ s.sliceCloseT s.snt.nextClose ≤ s.now)
      fun s => s.closeSlice s.snt.nextClose :=
  Does.of_meaning execSliceClose (fun _ => rfl) (fun _ => rfl) fun s ⟨hrun, hfirst, hdue⟩ => by
    simp [hrun, Nat.not_lt_of_le hfirst, Nat.not_lt_of_le hdue]

theorem does_sliceClose_early : Does .sliceClose (fun s => s.now < s.sliceCloseT s.snt.nextClose) fun s => s :=
  Does.of_meaning execSliceClose (fun _ => rfl) (fun _ => rfl) fun s hearly => by simp [hearly]

theorem does_sliceResult (r : Res) (l : List Res) :
    Does .sliceResult (fun s => s.snt.waiting = r :: l ∧ s.injArmed 23 0 = false)
      fun s => (s.mapSnt fun n => { n with waiting := l }).emitResult r :=
  Does.of_meaning execSliceResult (fun _ => rfl) (fun _ => rfl) fun s ⟨hwaiting, hinj⟩ => by simp [hwaiting, hinj]

theorem does_fixedEmitterResult :
    Does .fixedEmitterResult
      (fun s => s.snt.failFrom ≠ none ∧ s.sliceCloseT s.snt.nextClose ≤ s.now ∧ s.rd R.SNT_STATE ≠ 2) fun s =>
      (s.mapSnt fun n => { n with nextClose := s.snt.nextClose + 1, nextEnd := max n.nextEnd (s.snt.nextClose + 1) }).emitResult
        { slice := s.snt.nextClose, validT := s.sliceEnd s.snt.nextClose, mask := 0, oldest := none, dist := 0xFFFF,
          flags := 32 * boolNat s.replaying, verdict := 3, changes := [], out := 0 } :=
  Does.of_meaning execFixedEmitterResult (fun _ => rfl) (fun _ => rfl) fun s ⟨hfailed, hdue, hstopped⟩ => by
    simp [hfailed, Nat.not_lt_of_le hdue, hstopped]

/-! ### The exchange with the peers (R162, R163) -/

section
variable (p : Fin 8) (k : BitVec 64) (h f : Bool) (m : Fin 8) (recs : List (BitVec 64))

theorem does_exchangeFrameRx_heard :
    Does (.exchangeFrameRx p k h f m recs) (fun s => s.hears p.val = true)
      fun s => (s.hearPeer p.val h f m.val).foldExchange p.val k.toNat recs :=
  Does.of_meaning (execExchangeFrameRx p k h f m recs) (fun _ => rfl) (fun _ => rfl) fun s hheard => by simp [hheard]

theorem does_exchangeFrameRx_discarded : Does (.exchangeFrameRx p k h f m recs) (fun s => s.hears p.val = false) fun s => s :=
  Does.of_meaning (execExchangeFrameRx p k h f m recs) (fun _ => rfl) (fun _ => rfl) fun s hdeaf => by simp [hdeaf]

end

theorem does_peerUnreachable (p : Fin 8) (t : Nat) :
    Does (.peerUnreachable p)
      (fun s => p.val < s.rd R.RANGE_N ∧ p.val ≠ s.host.rangeId ∧ s.reachable p.val = true ∧ (s.peer p.val).lastXch = some t ∧
        t + s.rd R.PEER_TMO * tclkUs ≤ s.tclk)
      fun s => ((s.setPeer p.val { s.peer p.val with lastXch := some t }).wr R.PEER_MASK
        (clearBit (s.rd R.PEER_MASK) p.val)).event 0x2507 0 [] :=
  Does.of_meaning (execPeerUnreachable p) (fun _ => rfl) (fun _ => rfl) fun s ⟨hadmitted, hother, hreachable, hlast, hdue⟩ => by
    simp [Nat.not_le_of_lt hadmitted, hother, hreachable, hlast, Nat.not_lt_of_le hdue]

/-! ### The Plate (R136, R144, R165) -/

theorem does_evidenceExpiry (g : Fin 262144) :
    Does (.evidenceExpiry g) (fun s => s.rd R.SNT_STATE = 2 ∧ s.snt.clearing = false)
      fun s => (List.range 4).foldl (fun t i => t.sweepCell (4 * g.val + i)) s :=
  Does.of_meaning (execEvidenceExpiry g) (fun _ => rfl) (fun _ => rfl) fun s ⟨hrun, hclear⟩ => by simp [hrun, hclear]

@[simp] theorem State.rd_mapSnt (s : State) (f : Snt → Snt) (k : Nat) : (s.mapSnt f).rd k = s.rd k := rfl

theorem does_plateClearDone_starts :
    Does .plateClearDone (fun s => s.snt.clearing = true ∧ s.rd R.SNT_STATE = 1 ∧ s.snt.selfTest = false)
      fun s => (s.mapSnt fun n => { n with clearing := false }).startRun :=
  Does.of_meaning execPlateClearDone (fun _ => rfl) (fun _ => rfl) fun s ⟨hclearing, hstarting, htested⟩ => by
    simp [hclearing, hstarting, htested]

theorem does_plateClearDone_resumes :
    Does .plateClearDone (fun s => s.snt.clearing = true ∧ s.rd R.SNT_STATE ≠ 1)
      fun s => s.mapSnt fun n => { n with clearing := false } :=
  Does.of_meaning execPlateClearDone (fun _ => rfl) (fun _ => rfl) fun s ⟨hclearing, hrun⟩ => by
    simp [hclearing, hrun]

/-! ### The corridor (R146, R148) and the suspect mask (R149) -/

theorem writes_corCommit (r : Route) : Writes (.corCommit r) r.val 0x2510 2 (toLe 1 1) State.corCommit :=
  .of_meaning (execCorCommit r) (fun _ => rfl) fun _ => rfl

section
variable (c : Corridor)

theorem does_corridorCurrent :
    Does .corridorCurrent
      (fun s => s.snt.corNext = some c ∧ ceilDiv (c.committed + 20 * ftUs) s.sliceLen * s.sliceLen ≤ s.now)
      fun s => (s.mapSnt fun n => { n with cor := some c, corNext := none }).wr R.COR_SEQ_CUR c.seqNo :=
  Does.of_meaning execCorridorCurrent (fun _ => rfl) (fun _ => rfl) fun s ⟨hnext, hdue⟩ => by
    simp [hnext, Nat.not_lt_of_le hdue]

theorem does_corridorStale :
    Does .corridorStale (fun s => s.snt.cor = some c ∧ c.stale = false ∧ s.rd R.COR_TMO * ftUs < s.now - c.t)
      fun s => (s.mapSnt fun n => { n with cor := some { c with stale := true } }).event 0x2506 0 [] :=
  Does.of_meaning execCorridorStale (fun _ => rfl) (fun _ => rfl) fun s ⟨hcor, hfresh, hold⟩ => by
    simp [hcor, hfresh, Nat.not_le_of_lt hold]

end

theorem writes_suspectMaskClear (r : Route) (m : BitVec 96) :
    Writes (.suspectMaskClear r m) r.val 0x2500 0x0E (toLe 12 m.toNat) fun s => (s.w1c R.SUSPECT_MASK m.toNat, 0) :=
  .of_meaning (execSuspectMaskClear r m) (fun _ => rfl) fun _ => rfl

/-! ### The detectors and the restart (R157, R158, R165) -/

theorem acts_comparatorMismatch : Acts .comparatorMismatch fun s => s.sentinelFault 20 :=
  .of_meaning execComparatorMismatch (fun _ => rfl) fun _ => rfl

theorem acts_snclkOutOfRange : Acts .snclkOutOfRange fun s => s.sentinelFault 22 :=
  .of_meaning execSnclkOutOfRange (fun _ => rfl) fun _ => rfl

theorem does_resultMissing (x : Res) (l : List Res) :
    Does .resultMissing
      (fun s => s.rd R.SNT_STATE = 2 ∧ s.snt.waiting = x :: l ∧ s.snt.firstSlice ≤ x.slice ∧
        s.sliceCloseT x.slice + 2 * ftUs < s.now)
      fun s => s.sentinelFault 23 :=
  Does.of_meaning execResultMissing (fun _ => rfl) (fun _ => rfl) fun s ⟨hrun, hwaiting, hfirst, hlate⟩ => by
    simp [hrun, hwaiting, Nat.not_lt_of_le hfirst, Nat.not_le_of_lt hlate]

theorem commits_sntRestart (r : Route) (cr : CommitRec) :
    Commits (.sntRestart r cr) r.val 0x2500 0x1F cr sntRestartCheck sntRestartApply :=
  .of_meaning (execSntRestart r cr) (fun _ => rfl) fun _ => rfl

theorem does_selfTestDone_passed :
    Does (.selfTestDone true) (fun s => s.snt.selfTest = true ∧ s.injArmed 24 0 = false)
      fun s => (s.mapSnt fun n => { n with selfTest := false }).clearPlate :=
  Does.of_meaning (execSelfTestDone true) (fun _ => rfl) (fun _ => rfl) fun s ⟨htesting, hinj⟩ => by simp [htesting, hinj]

theorem does_selfTestDone_failed :
    Does (.selfTestDone false) (fun s => s.snt.selfTest = true)
      fun s => (s.mapSnt fun n => { n with selfTest := false }).sentinelFault 24 :=
  Does.of_meaning (execSelfTestDone false) (fun _ => rfl) (fun _ => rfl) fun s htesting => by simp [htesting]

/-! ### The safety outputs (R159 to R161) -/

theorem does_sntHb :
    Does .sntHb (fun s => s.snt.hbIndex < s.now / (500 * ftUs)) fun s => s.mapSnt fun n =>
      { n with hbIndex := s.now / (500 * ftUs),
               hb := if s.replaying then false else if s.rd R.SNT_STATE = 2 then !n.hb else n.hb } :=
  Does.of_meaning execSntHb (fun _ => rfl) (fun _ => rfl) fun _ hboundary => if_neg (Nat.not_le_of_lt hboundary)

theorem acts_safeHoldExpiry : Acts .safeHoldExpiry fun s => s.updateSafe :=
  .of_meaning execSafeHoldExpiry (fun _ => rfl) fun _ => rfl

theorem State.sendHeldHazard_none {s : State} (h : s.snt.hzHeld = none) (busy : Bool) : s.sendHeldHazard busy = s := by
  simp only [State.sendHeldHazard, h]

theorem does_hazardFrameWindow (busy : Bool) :
    Does (.hazardFrameWindow busy)
      (fun s => s.snt.hzHeld = none ∧ s.replaying = false ∧ s.pdOn 16 = true ∧ s.rd R.HZ_PHASE * ftUs ≤ s.now ∧
        s.snt.hzLast ≠ some s.hazardIndex)
      fun s => s.hazardSend busy :=
  Does.of_meaning (execHazardFrameWindow busy) (fun _ => rfl) (fun _ => rfl) fun s ⟨hheld, hlive, hpower, hphase, hnew⟩ => by
    simp [State.sendHeldHazard_none hheld, hlive, hpower, Nat.not_lt_of_le hphase, hnew]

theorem does_hazardFrameWithdraw (w : Nat) (d : Bytes) :
    Does .hazardFrameWithdraw (fun s => s.snt.hzHeld = some (w, d) ∧ w + s.rd R.HZ_PERIOD * ftUs / 2 ≤ s.now)
      fun s => (s.mapSnt fun n => { n with hzHeld := none }).bump R.HZ_LOST :=
  Does.of_meaning execHazardFrameWithdraw (fun _ => rfl) (fun _ => rfl) fun s ⟨hheld, hdue⟩ => by
    simp [hheld, Nat.not_lt_of_le hdue]

end Sys2Proof.Machine

namespace Sys2Proof.Proofs
open Sys2Proof.Machine

/-- Settles O39: each command tests what its clause assumes and then does what the clause says; a slice before its time and a frame
of a peer that is not heard leave the state as it is. -/
theorem sentinelFlowCompletes : Obligations.SentinelFlowCompletes :=
  ⟨does_sentinelPointTake, does_sliceEnd_due, does_sliceEnd_early, does_sliceClose_due, does_sliceClose_early, does_sliceResult,
    does_exchangeFrameRx_heard, does_exchangeFrameRx_discarded, does_peerUnreachable, does_evidenceExpiry,
    does_plateClearDone_starts, does_plateClearDone_resumes⟩

/-- Settles O40: the two writes and the restart are requests of their route; the corridor, the outputs and the hazard frames act at
their instants, and a detector whenever it reports. -/
theorem sentinelOutputsComplete : Obligations.SentinelOutputsComplete :=
  ⟨writes_corCommit, does_corridorCurrent, does_corridorStale, writes_suspectMaskClear, commits_sntRestart,
    does_selfTestDone_passed, does_selfTestDone_failed, does_sntHb, acts_safeHoldExpiry, does_hazardFrameWindow,
    does_hazardFrameWithdraw, acts_comparatorMismatch, acts_snclkOutOfRange, does_resultMissing, does_fixedEmitterResult⟩

end Sys2Proof.Proofs
end

section
/-! PROOFS. The registers and the traps of a spur (chapter 06): lanes and masks (R168, R181), and what a trap records (R192). -/
namespace Sys2Proof.Machine
open Sys2Proof.Laws

/-! ### Lanes (R181) -/

/-- The register of the low `n` lanes of `f`. -/
def ofLanesBelow (n : Nat) (f : Nat → Nat) : Nat := (List.range n).foldl (fun a i => a + (f i % 2 ^ 32) * 2 ^ (32 * i)) 0

theorem ofLanes_eq_ofLanesBelow (f : Nat → Nat) : ofLanes f = ofLanesBelow 32 f := rfl

theorem laneOf_eq (v i : Nat) : laneOf v i = v / 2 ^ (32 * i) % 2 ^ 32 := by
  rw [laneOf, bitsOf, Nat.shiftRight_eq_div_pow, show 32 * i + 31 + 1 - 32 * i = 32 by omega]

theorem laneOf_lt (v i : Nat) : laneOf v i < 2 ^ 32 := by
  rw [laneOf_eq]
  exact Nat.mod_lt _ (Nat.two_pow_pos 32)

theorem laneOf_mod (v i : Nat) : laneOf v i % 2 ^ 32 = laneOf v i := Nat.mod_eq_of_lt (laneOf_lt v i)

section
variable (f : Nat → Nat)

/-- The next lane stands above the lanes below it. -/
theorem ofLanesBelow_succ (n : Nat) : ofLanesBelow (n + 1) f = ofLanesBelow n f + f n % 2 ^ 32 * 2 ^ (32 * n) := by
  simp only [ofLanesBelow, List.range_succ, List.foldl_append, List.foldl_cons, List.foldl_nil]

theorem ofLanesBelow_lt (n : Nat) : ofLanesBelow n f < 2 ^ (32 * n) := by
  induction n with
  | zero => exact Nat.one_pos
  | succ n ih =>
    have hlane : f n % 2 ^ 32 + 1 ≤ 2 ^ 32 := Nat.mod_lt _ (Nat.two_pow_pos 32)
    calc ofLanesBelow (n + 1) f
        = ofLanesBelow n f + f n % 2 ^ 32 * 2 ^ (32 * n) := ofLanesBelow_succ f n
      _ < 2 ^ (32 * n) + f n % 2 ^ 32 * 2 ^ (32 * n) := Nat.add_lt_add_right ih _
      _ = (f n % 2 ^ 32 + 1) * 2 ^ (32 * n) := by rw [Nat.add_mul, Nat.one_mul, Nat.add_comm]
      _ ≤ 2 ^ 32 * 2 ^ (32 * n) := Nat.mul_le_mul_right _ hlane
      _ = 2 ^ (32 * (n + 1)) := by rw [← Nat.pow_add, Nat.mul_add, Nat.mul_one, Nat.add_comm]

theorem laneOf_ofLanesBelow {n i : Nat} (hi : i < n) : laneOf (ofLanesBelow n f) i = f i % 2 ^ 32 := by
  induction n with
  | zero => exact absurd hi (Nat.not_lt_zero i)
  | succ n ih =>
    rw [laneOf_eq, ofLanesBelow_succ]
    rcases Nat.lt_succ_iff_lt_or_eq.mp hi with hbelow | rfl
    · have hsplit : 2 ^ (32 * n) = 2 ^ 32 * 2 ^ (32 * (n - i - 1)) * 2 ^ (32 * i) := by
        rw [← Nat.pow_add, ← Nat.pow_add]
        congr 1
        omega
      rw [hsplit, ← Nat.mul_assoc, Nat.add_mul_div_right _ _ (Nat.two_pow_pos _), Nat.mul_left_comm, Nat.add_mul_mod_self_left,
        ← laneOf_eq, ih hbelow]
    · rw [Nat.add_mul_div_right _ _ (Nat.two_pow_pos _), Nat.div_eq_of_lt (ofLanesBelow_lt f i), Nat.zero_add, Nat.mod_mod]

theorem laneOf_ofLanes {i : Nat} (hi : i < 32) : laneOf (ofLanes f) i = f i % 2 ^ 32 := laneOf_ofLanesBelow f hi

end

theorem laneOf_mergeLanes (m old new : Nat) {i : Nat} (hi : i < 32) :
    laneOf (mergeLanes m old new) i = if m.testBit i then laneOf new i else laneOf old i := by
  rw [mergeLanes, laneOf_ofLanes _ hi]
  split <;> exact laneOf_mod _ _

/-! ### A spur's registers and masks (R168) -/

section
variable (x : Spur) (d m v : Nat) (p : Bool)

theorem Spur.vec_putVec_same : (x.putVec d m v p).vec d = mergeLanes m (x.vec d) v := by
  simp only [Spur.vec, Spur.putVec, smGet_set_same]

theorem Spur.vec_putVec_ne {e : Nat} (h : e ≠ d) : (x.putVec d m v p).vec e = x.vec e := by
  simp only [Spur.vec, Spur.putVec, smGet_set_ne _ _ _ h]

/-- All a write to a vector register changes: the vector registers and their poison bits. -/
theorem Spur.putVec_cases : ∃ v' p', x.putVec d m v p = { x with v := v', vP := p' } := ⟨_, _, rfl⟩

@[simp] theorem Spur.m_putVec : (x.putVec d m v p).m = x.m := by
  obtain ⟨_, _, h⟩ := x.putVec_cases d m v p
  rw [h]

@[simp] theorem Spur.acc_putVec : (x.putVec d m v p).acc = x.acc := by
  obtain ⟨_, _, h⟩ := x.putVec_cases d m v p
  rw [h]

@[simp] theorem Spur.mask_zero : x.mask 0 = 2 ^ 32 - 1 := if_pos rfl

@[simp] theorem Spur.setMask_zero : x.setMask 0 v = x := if_pos rfl

end

/-! ### Traps (R192) -/

section
variable (s : State) (n : Nat)

/-- A failed task changes its entries of the scoreboard and nothing else. -/
theorem State.spurTaskFailed_cases : s.spurTaskFailed n = s ∨
    ∃ k, s.spurTaskFailed n = s.mapEntry k fun e => { e with report := 2, outBad := true } := by
  unfold State.spurTaskFailed
  split
  · exact .inr ⟨_, rfl⟩
  · exact .inl rfl

@[simp] theorem State.spurTaskFailed_mem : (s.spurTaskFailed n).mem = s.mem := by
  obtain h | ⟨k, h⟩ := s.spurTaskFailed_cases n
  · rw [h]
  · rw [h]
    rfl

@[simp] theorem State.spurTaskFailed_spurs : (s.spurTaskFailed n).deep.spurs = s.deep.spurs := by
  obtain h | ⟨k, h⟩ := s.spurTaskFailed_cases n
  · rw [h]
  · rw [h]
    rfl

@[simp] theorem State.rd_spurTaskFailed (k : Nat) : (s.spurTaskFailed n).rd k = s.rd k := by
  obtain h | ⟨_, h⟩ := s.spurTaskFailed_cases n
  · rw [h]
  · rw [h]
    rfl

end

/-- The entries of spur `n` that a trap writes: its state, the cause, the word's place and the word. -/
def State.trapEntries (s : State) (n code word : Nat) : State :=
  (((s.wr (R.SPUR_STATE n) 3).wr (R.TRAP_CODE n) code).wr (R.TRAP_PC n) (s.spur n).pc).wr (R.TRAP_WORD n) word

/-- The keys of one spur's trap entries differ from each other and from the state of any spur. -/
theorem R.trapEntries_ne (n m : Nat) :
    R.SPUR_STATE m ≠ R.TRAP_CODE n ∧ R.SPUR_STATE m ≠ R.TRAP_PC n ∧ R.SPUR_STATE m ≠ R.TRAP_WORD n ∧
      R.TRAP_CODE n ≠ R.TRAP_PC n ∧ R.TRAP_CODE n ≠ R.TRAP_WORD n ∧ R.TRAP_PC n ≠ R.TRAP_WORD n := by
  unfold R.SPUR_STATE R.TRAP_CODE R.TRAP_PC R.TRAP_WORD
  omega

theorem R.ne_trapCnt (n : Nat) :
    R.SPUR_STATE n ≠ R.TRAP_CNT ∧ R.TRAP_CODE n ≠ R.TRAP_CNT ∧ R.TRAP_PC n ≠ R.TRAP_CNT ∧ R.TRAP_WORD n ≠ R.TRAP_CNT := by
  unfold R.TRAP_CNT R.SPUR_STATE R.TRAP_CODE R.TRAP_PC R.TRAP_WORD
  omega

theorem R.spurState_ne {n m : Nat} (h : m ≠ n) : R.SPUR_STATE m ≠ R.SPUR_STATE n := by
  unfold R.SPUR_STATE
  omega

section
variable (s : State) (n code word : Nat)

@[simp] theorem State.trapEntries_mem : (s.trapEntries n code word).mem = s.mem := by simp only [State.trapEntries, State.wr_mem]

@[simp] theorem State.trapEntries_deep : (s.trapEntries n code word).deep = s.deep := by simp only [State.trapEntries, State.wr_deep]

theorem State.rd_trapEntries :
    (s.trapEntries n code word).rd (R.SPUR_STATE n) = 3 ∧ (s.trapEntries n code word).rd (R.TRAP_CODE n) = code ∧
      (s.trapEntries n code word).rd (R.TRAP_PC n) = (s.spur n).pc ∧ (s.trapEntries n code word).rd (R.TRAP_WORD n) = word := by
  obtain ⟨hcode, hpc, hword, hcodePc, hcodeWord, hpcWord⟩ := R.trapEntries_ne n n
  simp only [State.trapEntries, State.rd_wr, hcode, hpc, hword, hcodePc, hcodeWord, hpcWord, if_true, if_false, and_self]

theorem State.rd_trapEntries_spurState {m : Nat} (hm : m ≠ n) :
    (s.trapEntries n code word).rd (R.SPUR_STATE m) = s.rd (R.SPUR_STATE m) := by
  obtain ⟨hcode, hpc, hword, -⟩ := R.trapEntries_ne n m
  simp only [State.trapEntries, State.rd_wr, hcode, hpc, hword, R.spurState_ne hm, if_false]

theorem State.rd_trapEntries_trapCnt : (s.trapEntries n code word).rd R.TRAP_CNT = s.rd R.TRAP_CNT := by
  obtain ⟨hstate, hcode, hpc, hword⟩ := R.ne_trapCnt n
  simp only [State.trapEntries, State.rd_wr, hstate.symm, hcode.symm, hpc.symm, hword.symm, if_false]

end

section
variable (s : State) (n : Nat) {code : Nat} (word : Nat) (hcode : code ≠ 0x0B)
include hcode

/-- A parity error, code 0x0B, counts for its cirque besides (R513); no other trap does. -/
theorem State.spurTrap_eq :
    s.spurTrap n code word = (((s.trapEntries n code word).bump R.TRAP_CNT).event 0x2601 n [(8, code)]).spurTaskFailed n := by
  simp only [State.spurTrap, if_neg hcode, State.trapEntries]

theorem State.spurTrap_mem : (s.spurTrap n code word).mem = s.mem := by
  rw [s.spurTrap_eq n word hcode, State.spurTaskFailed_mem, State.event_mem, State.bump_mem, State.trapEntries_mem]

theorem State.spurTrap_spurs : (s.spurTrap n code word).deep.spurs = s.deep.spurs := by
  rw [s.spurTrap_eq n word hcode, State.spurTaskFailed_spurs, State.event_deep, State.bump_deep, State.trapEntries_deep]

theorem State.rd_spurTrap (k : Nat) : (s.spurTrap n code word).rd k = ((s.trapEntries n code word).bump R.TRAP_CNT).rd k := by
  rw [s.spurTrap_eq n word hcode, State.rd_spurTaskFailed, State.rd_event]

theorem State.rd_spurTrap_trapCnt : (s.spurTrap n code word).rd R.TRAP_CNT = min (s.rd R.TRAP_CNT + 1) (2 ^ 32 - 1) := by
  rw [s.rd_spurTrap n word hcode, State.rd_bump_same, s.rd_trapEntries_trapCnt]

theorem State.rd_spurTrap_ne {k : Nat} (hk : k ≠ R.TRAP_CNT) :
    (s.spurTrap n code word).rd k = (s.trapEntries n code word).rd k := by
  rw [s.rd_spurTrap n word hcode, State.rd_bump_ne _ hk]

end

end Sys2Proof.Machine

namespace Sys2Proof.Proofs
open Sys2Proof.Machine

/-- Settles O15: a trap writes its entries, counts, raises an event and fails the task, and only the first two are registers. -/
theorem trapRecords : Obligations.TrapRecords := by
  intro s n code word _ hcode
  obtain ⟨hstate, hcause, hpc, hword⟩ := s.rd_trapEntries n code word
  obtain ⟨hstateKey, hcauseKey, hpcKey, hwordKey⟩ := R.ne_trapCnt n
  refine ⟨?_, ?_, ?_, ?_, s.rd_spurTrap_trapCnt n word hcode, s.spurTrap_mem n word hcode, s.spurTrap_spurs n word hcode, ?_⟩
  · rw [s.rd_spurTrap_ne n word hcode hstateKey, hstate]
  · rw [s.rd_spurTrap_ne n word hcode hcauseKey, hcause]
  · rw [s.rd_spurTrap_ne n word hcode hpcKey, hpc]
  · rw [s.rd_spurTrap_ne n word hcode hwordKey, hword]
  · intro m _ hm
    rw [s.rd_spurTrap_ne n word hcode (R.ne_trapCnt m).1, s.rd_trapEntries_spurState n code word hm]

/-- Settles O16: a masked write merges lane by lane into one register, and `M0` is no register that can be written. -/
theorem maskedLaneWrite : Obligations.MaskedLaneWrite := by
  intro x d m v p
  refine ⟨fun i hi => ?_, fun e he => x.vec_putVec_ne d m v p he, x.m_putVec d m v p, x.acc_putVec d m v p, x.mask_zero,
    x.setMask_zero v⟩
  rw [x.vec_putVec_same, laneOf_mergeLanes _ _ _ hi]

end Sys2Proof.Proofs
end

section
/-! PROOFS. The instructions of a spur (chapter 06): what each does once its word is issued (R171, R176 to R191), what ends a fence
and a pipe's work, and the periodic seeding (R186). -/
namespace Sys2Proof.Machine

/-! ### Commands that are one word of a spur -/

/-- A command of a spur whose meaning `m` is `runSpur f` does what `f` does where `P` holds. -/
theorem Does.of_spurMeaning {c : Instr} {P : State → Prop} {E f : State → State} (m : State → Host.Outcome State Fault Refusal)
    (hexec : ∀ s, exec c s = m s) (hrun : ∀ s, m s = s.runSpur f) (hf : ∀ s, P s → f s = E s) : Does c P fun s => (E s).spurDone :=
  Does.of_runSpur (fun s => (hexec s).trans (hrun s)) hf

section
variable {c : Instr} {n op f : Nat} {far : Option Bytes}

theorem Issues.of_spurIssue {w : Nat} {body : State → State} (hexec : ∀ s, exec c s = s.runSpur fun s => s.spurIssue n w body) :
    Issues c n w body :=
  Does.of_runSpur hexec fun s hissues => s.spurIssue_taken hissues

theorem Issues.of_spurMove {g : Spur → Spur} (hexec : ∀ s, exec c s = s.runSpur fun s => s.spurMove n op f g) :
    Issues c n (spurWord 3 op f) fun s => (s.mapSpur n g).spurNext n (spurWord 3 op f) .move :=
  Does.of_runSpur hexec fun s hissues => s.spurMove_taken hissues

theorem Issues.of_spurVec {src : List Nat} {g : Spur → Nat → Nat}
    (hexec : ∀ s, exec c s = s.runSpur fun s => s.spurVec n op f src g) :
    Issues c n (spurWord 2 op f) fun s => s.lanesTo n op f src g :=
  Does.of_runSpur hexec fun s hissues => s.spurVec_taken hissues

theorem Issues.of_spurCmp {g : Nat → Nat → Nat → Option Bool} (hexec : ∀ s, exec c s = s.runSpur fun s => s.spurCmp n op f g) :
    Issues c n (spurWord 2 op f) fun s => s.maskTo n op f g :=
  Does.of_runSpur hexec fun s hissues => s.spurCmp_taken hissues

theorem Vec1.of_spurVec1 {g : Nat → Nat} (hexec : ∀ s, exec c s = s.runSpur fun s => s.spurVec1 n op f g) :
    Vec1 c n op f g :=
  Issues.of_spurVec hexec

theorem Vec2.of_spurVec2 {g : Nat → Nat → Nat} (hexec : ∀ s, exec c s = s.runSpur fun s => s.spurVec2 n op f g) :
    Vec2 c n op f g :=
  Issues.of_spurVec hexec

theorem Does.of_spurWld {arrange : Nat → Bytes → Bytes} (hexec : ∀ s, exec c s = s.runSpur fun s => s.spurWld n op f far arrange) :
    Does c
      (fun s => s.issues n (spurWord 1 op f) ∧ fMmaFmt f < 0xC ∧ isMx (fMmaFmt f) = false ∧
        (s.devRead n ((s.spur n).addr (fAin f)) (32 * rowBytes (fMmaFmt f)) far).st = .ok)
      fun s =>
        let r := s.devRead n ((s.spur n).addr (fAin f)) (32 * rowBytes (fMmaFmt f)) far
        (r.s.putTile n op f arrange r.data [] r.poison).spurDone :=
  Does.of_runSpur hexec fun s ⟨hissues, hfmt, hplain, hread⟩ => s.spurWld_taken hissues hfmt hplain hread

theorem Does.of_spurStv (get : Spur → Bytes) (t : State) (hexec : ∀ s, exec c s = s.runSpur fun s => s.spurStv n op f get) :
    Does c
      (fun s => s.issues n (spurWord 3 op f) ∧
        s.devWrite n ((s.spur n).movAddr f) (get (s.spur n)) ((s.spur n).vP.testBit (fMV f)) = (.ok, t))
      fun s => ((t.spurStored n ((s.spur n).vP.testBit (fMV f))).spurNext n (spurWord 3 op f) .move).spurDone :=
  Does.of_runSpur hexec fun s ⟨hissues, hwrite⟩ => s.spurStv_taken hissues hwrite

theorem Does.of_spurList (o : ListOp) (d : Nat) (t : State) (hexec : ∀ s, exec c s = s.runSpur fun s => s.spurList o n f far) :
    Does c
      (fun s => s.issues n (spurWord 4 o.code f) ∧ s.listDesc n f o = some d ∧ s.listRun o n f d (fCnt f) 0 far = some t)
      fun _ => t.spurDone :=
  Does.of_runSpur hexec fun s ⟨hissues, hdesc, hrun⟩ => s.spurList_taken hissues hdesc hrun

end

/-! ### Words that the table does not list (R188, R192) -/

section
variable (n : Fin 128) (w : BitVec 64)

theorem issues_illegalClass (hclass : 7 ≤ wordClass w.toNat) :
    Issues (.illegalClass n w) n.val w.toNat fun s => s.spurTrap n.val 0x01 w.toNat :=
  Does.of_spurMeaning (execIllegalClass n w) (fun _ => rfl) (fun _ => rfl) fun s hissues => by
    rw [if_neg (Nat.not_lt_of_le hclass), s.spurIssue_taken hissues]

theorem issues_illegalOp (hclass : wordClass w.toNat < 7) (hop : opListed (wordClass w.toNat) (wordOp w.toNat) = false) :
    Issues (.illegalOp n w) n.val w.toNat fun s => s.spurTrap n.val 0x02 w.toNat :=
  Does.of_spurMeaning (execIllegalOp n w) (fun _ => rfl) (fun _ => rfl) fun s hissues => by
    simp [Nat.not_le_of_lt hclass, hop, s.spurIssue_taken hissues]

end

/-! ### MAC's formats (R178) -/

/-- Formats meet when they are the same, or two of 2 to 7 that differ in the lowest bit of the code. -/
theorem fmtMatch_iff (f g : Nat) :
    fmtMatch f g = true ↔ f = g ∨ (f, g) = (2, 3) ∨ (f, g) = (3, 2) ∨ (f, g) = (4, 5) ∨ (f, g) = (5, 4) ∨ (f, g) = (6, 7) ∨
      (f, g) = (7, 6) := by
  simp only [fmtMatch, Bool.or_eq_true, Bool.and_eq_true, decide_eq_true_eq, Prod.mk.injEq]
  constructor
  · rintro (hsame | ⟨⟨⟨hlo, hhi⟩, _⟩, hpair⟩)
    · exact .inl hsame
    · obtain hone | htwo | hthree : f / 2 = 1 ∨ f / 2 = 2 ∨ f / 2 = 3 := by omega
      · omega
      · omega
      · omega
  · omega

section
variable (s : State) {n f : Nat}

theorem State.spurMac_mismatch {far : Option Bytes} (h : s.issues n (spurWord 1 3 f)) (hfmt : fMmaFmt f < 0xC)
    (hbuf : fmtMatch (fMmaFmt f) ((s.spur n).wbuf (fWb f)).fmt = false) :
    s.spurMac n f far = s.spurTrap n 0x03 (spurWord 1 3 f) := by
  simp [State.spurMac, s.spurIssue_taken h, Nat.not_le_of_lt hfmt, hbuf]

/-! ### Instructions that test their format first (R182, R183, R190) -/

theorem State.spurCvt_taken (h : s.issues n (spurWord 2 0x10 f)) (hfmt : cvtTarget (fVFmt f) = true) :
    s.spurCvt n f =
      let x := s.spur n
      let es := (List.range 32).map fun i =>
        cvtElem (fVFmt f) ((fVImm f).testBit 0) (x.rounding (fSr f) (fVFmt f) i) (val32 (laneOf (x.vec (fVA f)) i))
      (s.setSpur n ((x.drew (fSr f) (fVFmt f) 32).putVec (fVD f) (x.mask (fMask f)) (leNat (packElems (fVFmt f) es))
        (x.vP.testBit (fVA f)))).spurNext n (spurWord 2 0x10 f) .vector := by
  simp only [State.spurCvt, s.spurIssue_taken h, hfmt, Bool.not_true, Bool.false_eq_true, if_false]

theorem State.spurQmx_taken (h : s.issues n (spurWord 2 0x11 f)) (hfmt : isMx (fVFmt f) = true) :
    s.spurQmx n f =
      let x := s.spur n
      let q := qmxBlock (fVFmt f) (fun i => x.rounding (fSr f) (fVFmt f) i)
        ((List.range 32).map fun i => val32 (laneOf (x.vec (fVA f)) i))
      (s.setSpur n ((x.drew (fSr f) (fVFmt f) 32).putVec (fVD f) (x.mask (fMask f))
        (leNat (packElems (fVFmt f) q.1) + q.2 * 2 ^ 992) (x.vP.testBit (fVA f)))).spurNext n (spurWord 2 0x11 f) .vector := by
  simp only [State.spurQmx, s.spurIssue_taken h, hfmt, Bool.not_true, Bool.false_eq_true, if_false]

theorem State.spurLdp_listed {far : Option Bytes} (hfmt : fMFmt f < 0xE) :
    s.spurLdp n f far =
      s.spurLdv n 3 f (packedBytes (fMFmt f)) far fun b => ofLanes fun i => widen (fMFmt f) (elemAt (fMFmt f) b i) :=
  if_neg (Nat.not_le_of_lt hfmt)

theorem State.spurStp_listed (hfmt : fMFmt f < 0xC) :
    s.spurStp n f = s.spurStv n 4 f fun x => toLe (packedBytes (fMFmt f)) (x.vec (fMV f)) :=
  if_neg (Nat.not_le_of_lt hfmt)

/-! ### ISATADD (R179, R190) -/

/-- A spur that issues is ready, so a saturation in a masked lane counts. -/
theorem State.spurIsatadd_taken (h : s.issues n (spurWord 2 0x23 f)) :
    s.spurIsatadd n f =
      let x := s.spur n
      let g := fun i => isatadd32 (laneOf (x.vec (fVA f)) i) (laneOf (x.vec (fVB f)) i)
      ((s.setSpur n (x.putVec (fVD f) (x.mask (fMask f)) (ofLanes fun i => (g i).1)
        (x.vP.testBit (fVA f) || x.vP.testBit (fVB f)))).spurSat n
          ((List.range 32).any fun i => (x.mask (fMask f)).testBit i && (g i).2)).spurNext n (spurWord 2 0x23 f) .vector := by
  have hready : s.spurReady n = true := h.1
  simp only [State.spurIsatadd, s.spurIssue_taken h, hready, Bool.true_and]

/-! ### Fences and seeding (R186, R191) -/

variable {scope : Nat}

theorem State.fenceDone_clear (hfence : (s.spur n).fence = some scope) (hclear : s.fencePending n scope = false)
    (hgood : (s.spur n).failedWrite = false) :
    s.fenceDone n = s.mapSpur n fun x => { x with fence := none, failedWrite := false } := by
  simp [State.fenceDone, hfence, hclear, hgood]

theorem State.fenceDone_pending (hfence : (s.spur n).fence = some scope) (hpending : s.fencePending n scope = true) :
    s.fenceDone n = s := by
  simp [State.fenceDone, hfence, hpending]

theorem State.srReseed_due (hfree : (s.spur n).srFixed = false) (hdue : (s.spur n).srT + srPeriod ≤ s.tclk) :
    s.srReseed n = (s.drawTrng 8).2.mapSpur n fun y => { y with srSeed := leNat (s.drawTrng 8).1, srN := 0, srT := s.tclk } := by
  simp [State.srReseed, hfree, Nat.not_lt_of_le hdue]

end

end Sys2Proof.Machine

namespace Sys2Proof.Proofs
open Sys2Proof.Machine

/-- Settles O14: the codes that may meet are a finite list, and a `MAC` tests the format of its buffer before its rows. -/
theorem macFormatMismatch : Obligations.MacFormatMismatch :=
  ⟨fmtMatch_iff, fun n f far => .of_spurMeaning (execMac n f far) (fun _ => rfl) (fun _ => rfl) fun s ⟨hissues, hfmt, hbuf⟩ =>
    s.spurMac_mismatch hissues hfmt hbuf⟩

/-- Settles O41: a word outside the table traps, a control word's effect is its body's, and a tile or a row whose data come is
loaded or accumulated. -/
theorem spurControlAndMatrix : Obligations.SpurControlAndMatrix :=
  ⟨issues_illegalClass, issues_illegalOp,
    fun _ _ => ⟨.of_spurIssue fun _ => rfl, .of_spurIssue fun _ => rfl, .of_spurIssue fun _ => rfl, .of_spurIssue fun _ => rfl,
      .of_spurIssue fun _ => rfl, .of_spurIssue fun _ => rfl, .of_spurIssue fun _ => rfl⟩,
    fun _ _ _ => .of_spurWld fun _ => rfl, fun _ _ _ => .of_spurWld fun _ => rfl,
    fun n f far _ => .of_spurMeaning (execMac n f far) (fun _ => rfl) (fun _ => rfl) fun s ⟨hissues, hfmt, hbuf, hrange, hrows⟩ =>
      s.spurMac_taken hissues hfmt hbuf hrange hrows⟩

/-- Settles O42: each instruction writes its lanes or its mask once its word is issued; `CVT` and `QMX` test their target first. -/
theorem spurFloatLanes : Obligations.SpurFloatLanes := fun n f =>
  ⟨.of_spurVec2 fun _ => rfl, .of_spurVec2 fun _ => rfl, .of_spurVec2 fun _ => rfl, .of_spurVec fun _ => rfl,
    .of_spurVec2 fun _ => rfl, .of_spurVec2 fun _ => rfl, .of_spurVec1 fun _ => rfl, .of_spurVec1 fun _ => rfl,
    .of_spurCmp fun _ => rfl, .of_spurIssue fun _ => rfl,
    .of_spurVec1 fun _ => rfl, .of_spurVec1 fun _ => rfl, .of_spurVec1 fun _ => rfl, .of_spurVec1 fun _ => rfl,
    .of_spurMeaning (execCvt n f) (fun _ => rfl) (fun _ => rfl) fun s ⟨hissues, hfmt⟩ => s.spurCvt_taken hissues hfmt,
    .of_spurMeaning (execQmx n f) (fun _ => rfl) (fun _ => rfl) fun s ⟨hissues, hfmt⟩ => s.spurQmx_taken hissues hfmt,
    .of_spurVec1 fun _ => rfl, .of_spurVec fun _ => rfl⟩

/-- Settles O43: each instruction writes its lanes or its mask once its word is issued; `ISATADD` counts a saturation too. -/
theorem spurIntegerLanes : Obligations.SpurIntegerLanes := fun n f =>
  ⟨.of_spurVec2 fun _ => rfl, .of_spurVec2 fun _ => rfl, .of_spurVec2 fun _ => rfl,
    .of_spurMeaning (execIsatadd n f) (fun _ => rfl) (fun _ => rfl) fun s hissues => s.spurIsatadd_taken hissues,
    .of_spurVec2 fun _ => rfl, .of_spurVec2 fun _ => rfl, .of_spurVec2 fun _ => rfl, .of_spurVec2 fun _ => rfl,
    .of_spurVec2 fun _ => rfl, .of_spurCmp fun _ => rfl⟩

/-- Settles O44: a load takes the bytes of a read that succeeds, a store's write is taken, and the rest are moves of registers. -/
theorem spurMoves : Obligations.SpurMoves :=
  ⟨fun n f far => .of_spurMeaning (execLdv n f far) (fun _ => rfl) (fun _ => rfl) fun s ⟨hissues, hread⟩ =>
      s.spurLdv_taken hissues hread,
    fun n f far => .of_spurMeaning (execLdp n f far) (fun _ => rfl) (fun _ => rfl) fun s ⟨hissues, hfmt, hread⟩ =>
      (s.spurLdp_listed hfmt).trans (s.spurLdv_taken hissues hread),
    fun _ f t => .of_spurStv (fun x => toLe 128 (x.vec (fMV f.toNat))) t fun _ => rfl,
    fun n f _ => .of_spurMeaning (execStp n f) (fun _ => rfl) (fun _ => rfl) fun s ⟨hissues, hfmt, hwrite⟩ =>
      (s.spurStp_listed hfmt).trans (s.spurStv_taken hissues hwrite),
    fun _ f t => .of_spurStv (fun x => toLe 1 (laneOf (x.vec (fMV f.toNat)) 31)) t fun _ => rfl,
    fun _ _ => ⟨.of_spurMove fun _ => rfl, .of_spurMove fun _ => rfl, .of_spurMove fun _ => rfl, .of_spurMove fun _ => rfl⟩⟩

/-- Settles O45: a list whose descriptor is admitted runs, and a fence ends once no write of its scope waits. -/
theorem spurListsAndFences : Obligations.SpurListsAndFences :=
  ⟨fun _ _ _ d t => ⟨.of_spurList .gath d t fun _ => rfl, .of_spurList .scat d t fun _ => rfl,
      .of_spurList .scata d t fun _ => rfl⟩,
    fun _ _ => .of_spurIssue fun _ => rfl,
    fun n _ => .of_spurMeaning (execFenceComplete n) (fun _ => rfl) (fun _ => rfl) fun s ⟨hfence, hclear, hgood⟩ =>
      s.fenceDone_clear hfence hclear hgood,
    fun n _ => .of_spurMeaning (execFenceComplete n) (fun _ => rfl) (fun _ => rfl) fun s ⟨hfence, hpending⟩ =>
      s.fenceDone_pending hfence hpending,
    fun n p => .of_spurMeaning (execPipeComplete n p) (fun _ => rfl) (fun _ => rfl) fun _ _ => rfl,
    fun n => .of_spurMeaning (execSrReseed n) (fun _ => rfl) (fun _ => rfl) fun s ⟨hfree, hdue⟩ => s.srReseed_due hfree hdue⟩

end Sys2Proof.Proofs
end

section
/-! PROOFS. Tensor descriptors (chapter 07): the requests that create and free allocations, descriptors and copies, the transfers of a
DMA channel that move them, and the data port's accesses (chapter 15). -/
namespace Sys2Proof.Machine

/-! ### Requests that Keeper serves (R475) -/

/-- A deferred write finds Keeper free: its effect happens at once, and the write is recorded. -/
theorem State.hostWrite_deferred_taken {s : State} {r idx sub : Nat} {d : Bytes} {q : DefReq} {f : State → State × Nat}
    (htaken : s.takesWrite r idx sub d) (hfree : s.keeperFree) (hok : (f s).2 = 0) :
    (s.hostWrite r idx sub d fun s => s.deferred r idx sub q f) = (f s).1.written r idx sub d := by
  have hserved : s.deferred r idx sub q f = f s := s.deferred_free hfree
  rw [s.hostWrite_taken htaken (by rw [hserved, hok]), hserved]

theorem WritesKeeper.of_meaning {c : Instr} {r idx sub : Nat} (m : State → Host.Outcome State Fault Refusal)
    (hexec : ∀ s, exec c s = m s) {d : Bytes} {f : State → State × Nat} (q : DefReq)
    (hrun : ∀ s, m s = s.run fun s => s.hostWrite r idx sub d fun s => s.deferred r idx sub q f) : WritesKeeper c r idx sub d f :=
  Does.of_meaning m hexec hrun fun _ ⟨htaken, hfree, hok⟩ => State.hostWrite_deferred_taken htaken hfree hok

/-! ### Allocations, descriptors and copies (R200, R201, R204, R209, R215, R216) -/

section
variable (r : Route) (d : Bytes)

theorem writesKeeper_allocNew : WritesKeeper (.allocNew r d) r.val 0x2C30 1 d fun s => s.allocNewReq r.val d :=
  .of_meaning (execAllocNew r d) (fun _ => rfl) (.allocNew d) fun _ => rfl

theorem writesKeeper_allocFree (i : BitVec 16) :
    WritesKeeper (.allocFree r i) r.val 0x2C30 2 (toLe 2 i.toNat) fun s => s.allocFreeReq r.val i.toNat :=
  .of_meaning (execAllocFree r i) (fun _ => rfl) (.allocFree i.toNat) fun _ => rfl

theorem writesKeeper_descNew : WritesKeeper (.descNew r d) r.val 0x2C40 1 d fun s => s.descNewReq r.val d :=
  .of_meaning (execDescNew r d) (fun _ => rfl) (.descNew d) fun _ => rfl

theorem writesKeeper_descFree (h : BitVec 32) :
    WritesKeeper (.descFree r h) r.val 0x2C40 2 (toLe 4 h.toNat) fun s => s.descFreeReq r.val h.toNat :=
  .of_meaning (execDescFree r h) (fun _ => rfl) (.descFree h.toNat) fun _ => rfl

theorem writesKeeper_copyNew : WritesKeeper (.copyNew r d) r.val 0x2C50 1 d fun s => s.copyNewReq r.val d :=
  .of_meaning (execCopyNew r d) (fun _ => rfl) (.copyNew d) fun _ => rfl

theorem writesKeeper_copyFree (i : BitVec 16) :
    WritesKeeper (.copyFree r i) r.val 0x2C50 2 (toLe 2 i.toNat) fun s => s.copyFreeReq i.toNat :=
  .of_meaning (execCopyFree r i) (fun _ => rfl) (.copyFree i.toNat) fun _ => rfl

end

/-! ### The data port (R357, R433, R434) -/

section
variable {s : State}

theorem State.dpResume_idle (h : s.host.dpRun = none) : s.dpResume = s := by simp [State.dpResume, h]

theorem State.dpWaits_idle (h : s.host.dpRun = none) : s.dpWaits = false := by simp [State.dpWaits, h]

end

/-- An idle port whose fence is not held takes every access in its turn, also one that reads the fence. -/
theorem does_dpData_whole (acc : AccessKind) (hwords : accLen acc % 8 = 0) :
    Does (.dpData true acc) (fun s => s.host.dpRun = none ∧ s.fenceHeld = false) fun s => s.dpBurst acc :=
  Does.of_meaning (execDpData true acc) (fun _ => rfl) (fun _ => rfl) fun s ⟨hidle, hclear⟩ => by
    simp [State.dpResume_idle hidle, State.dpWaits_idle hidle, hclear, hwords]

theorem does_dpData_misaligned (acc : AccessKind) :
    Does (.dpData false acc) (fun s => s.host.dpRun = none ∧ s.fenceHeld = false) fun s => s.dpMisaligned acc :=
  Does.of_meaning (execDpData false acc) (fun _ => rfl) (fun _ => rfl) fun s ⟨hidle, hclear⟩ => by
    simp [State.dpResume_idle hidle, State.dpWaits_idle hidle, hclear]

theorem does_burstAperture (o : Fin 65536) (acc : AccessKind) :
    Does (.burstAperture o acc) (fun s => s.host.dpRun = none ∧ s.fenceHeld = false) fun s => s.apertureRun o.val acc :=
  Does.of_meaning (execBurstAperture o acc) (fun _ => rfl) (fun _ => rfl) fun s ⟨hidle, hclear⟩ => by
    simp [State.dpResume_idle hidle, State.dpWaits_idle hidle, hclear]

section
variable (r : Route)

theorem does_dpFence_clear :
    Does (.dpFence r) (fun s => s.host.dpRun = none ∧ s.fenceHeld = false ∧ s.takesRead r.val 0x2D20 8)
      fun s => (s.mapHost fun h => { h with readAhead := [] }).readReply r.val (toLe 8 0) false :=
  Does.of_meaning (execDpFence r) (fun _ => rfl) (fun _ => rfl) fun s ⟨hidle, hclear, htaken⟩ => by
    simp [State.dpResume_idle hidle, State.dpWaits_idle hidle, hclear, s.hostRead_taken htaken]

theorem does_dpFence_held : Does (.dpFence r) (fun s => s.host.dpRun = none ∧ s.fenceHeld = true) fun s => s :=
  Does.of_meaning (execDpFence r) (fun _ => rfl) (fun _ => rfl) fun s ⟨hidle, hheld⟩ => by
    simp [State.dpResume_idle hidle, hheld]

end

theorem does_remoteTimeout (t : BitVec 16) (a : RemoteAcc) :
    Does (.remoteTimeout t)
      (fun s => s.host.remote.find? (fun x => x.tag = t.toNat) = some a ∧ a.start + 40 * tclkUs ≤ s.tclk)
      fun s => (s.dropRemote a.tag).remoteFailed a :=
  Does.of_meaning (execRemoteTimeout t) (fun _ => rfl) (fun _ => rfl) fun s ⟨hfound, hdue⟩ => by
    simp [hfound, Nat.not_lt_of_le hdue]

/-! ### DMA (R215 to R218, R437 to R441) -/

theorem writes_dmaTail (r : Route) (c : Fin 64) (v : BitVec 32) :
    Writes (.dmaTail r c v) r.val (0x2D40 + c.val) 8 (toLe 4 v.toNat) fun s => s.dmaTail c.val v.toNat :=
  .of_meaning (execDmaTail r c v) (fun _ => rfl) fun _ => rfl

theorem writes_dmaReset (r : Route) (c : Fin 64) (v : Bool) :
    Writes (.dmaReset r c v) r.val (0x2D40 + c.val) 9 (toLe 1 (boolNat v)) fun s => s.dmaResetReq c.val v :=
  .of_meaning (execDmaReset r c v) (fun _ => rfl) fun _ => rfl

/-- A record that could be read goes on from the state its reading left. -/
theorem State.takeRing_read {s : State} {c : Nat} (h : (s.ringRecord c).fail = none) (f : State → Nat → State) :
    s.takeRing c f = f (s.ringRecord c).s (leNat (s.ringRecord c).data) := by
  simp [State.takeRing, h]

section
variable (c : Fin 64)

theorem does_linearTransfer (d : Option Bytes) :
    Does (.linearTransfer c d)
      (fun s => s.ringReady c.val = true ∧ (s.ringRecord c.val).fail = none ∧ xfKind (leNat (s.ringRecord c.val).data) ≠ 1)
      fun s => (s.ringRecord c.val).s.dmaLinear c.val (leNat (s.ringRecord c.val).data) d :=
  Does.of_meaning (execLinearTransfer c d) (fun _ => rfl) (fun _ => rfl) fun _ ⟨hready, hread, hkind⟩ => by
    rw [if_pos hready, State.takeRing_read hread, if_neg hkind]

theorem does_copyObjectTransfer_ring :
    Does (.copyObjectTransfer c)
      (fun s => s.ringReady c.val = true ∧ (s.ringRecord c.val).fail = none ∧ xfKind (leNat (s.ringRecord c.val).data) = 1)
      fun s => (s.ringRecord c.val).s.dmaCopy c.val (xfCopy (leNat (s.ringRecord c.val).data)) (leNat (s.ringRecord c.val).data) :=
  Does.of_meaning (execCopyObjectTransfer c) (fun _ => rfl) (fun _ => rfl) fun _ ⟨hready, hread, hkind⟩ => by
    rw [if_pos hready, State.takeRing_read hread, if_pos hkind]

/-- Outside ring mode a channel that runs has its copy from a timetable task. -/
theorem does_copyObjectTransfer_task (x : DmaCur) :
    Does (.copyObjectTransfer c)
      (fun s => s.ringReady c.val = false ∧ s.rd (R.DMA_MODE c.val) ≠ 2 ∧ s.rd (R.DMA_STATE c.val) = 1 ∧ s.dmaCur c.val = some x ∧
        x.moved = false)
      fun s => s.dmaCopy c.val (x.word % 2 ^ 10) x.word :=
  Does.of_meaning (execCopyObjectTransfer c) (fun _ => rfl) (fun _ => rfl) fun s ⟨hready, hmode, hruns, hcur, hfirst⟩ => by
    simp [hready, hmode, hruns, hcur, hfirst]

theorem does_dmaTransferComplete (x : DmaCur) :
    Does (.dmaTransferComplete c)
      (fun s => s.dmaCur c.val = some x ∧ x.moved = true ∧
        s.host.remote.any (fun a => a.agent = 0x5000 + c.val && a.write) = false)
      fun s => if s.rd (R.DMA_MODE c.val) = 2 then s.ringDone c.val x.word
        else ((s.setDma c.val none).wr (R.DMA_STATE c.val) 0).unitEnded (0x5000 + c.val) :=
  Does.of_meaning (execDmaTransferComplete c) (fun _ => rfl) (fun _ => rfl) fun s ⟨hcur, hmoved, hacked⟩ => by
    simp only [hcur, hmoved, hacked, Bool.not_true, Bool.or_self, Bool.false_eq_true, if_false]

end

end Sys2Proof.Machine

namespace Sys2Proof.Proofs
open Sys2Proof.Machine

/-- Settles O48: each command is one deferred write of its route, which Keeper, when free, serves at once. -/
theorem descriptorCommandsComplete : Obligations.DescriptorCommandsComplete :=
  ⟨writesKeeper_allocNew, writesKeeper_allocFree, writesKeeper_descNew, writesKeeper_descFree, writesKeeper_copyNew,
    writesKeeper_copyFree⟩

/-- Settles O55: an idle port takes an access in its turn, a channel the record it is ready for, and an end comes once it is due. -/
theorem dataPortAndDmaComplete : Obligations.DataPortAndDmaComplete :=
  ⟨does_dpData_whole, does_dpData_misaligned, does_burstAperture, does_dpFence_clear, does_dpFence_held, does_remoteTimeout,
    writes_dmaTail, does_linearTransfer, does_copyObjectTransfer_ring, does_copyObjectTransfer_task, does_dmaTransferComplete,
    writes_dmaReset⟩

end Sys2Proof.Proofs
end

section
/-! PROOFS. Astrograph (chapter 09): its operations, the Almanac and the deep results; and accesses under the slot table
(chapter 10). -/
namespace Sys2Proof.Machine

/-! ### Deep results (R278) -/

theorem does_deepResult (l : List PeerStream) (e : SbEntry) :
    Does (.deepResult l) (fun s => s.deepTask = some e ∧ s.emitsDeep = true) fun s =>
      ((s.deepEmit (s.instEpoch e.cycle e.inst) l).mapEpoch (s.instEpoch e.cycle e.inst) fun x => { x with sent := true }).mapEntry
        e.key fun x => { x with report := 1 } :=
  Does.of_meaning (execDeepResult l) (fun _ => rfl) (fun _ => rfl) fun s ⟨htask, hemits⟩ => by
    simp only [htask, hemits, if_true]

/-- `stoppedNext` is one more than the stopped epoch, so its own instant is where that epoch ends. -/
theorem does_stoppedDeepResult :
    Does .stoppedDeepResult
      (fun s => s.deep.tt.stoppedNext ≠ 0 ∧ s.deepStopped = true ∧ s.instant s.deep.tt.stoppedNext ≤ s.now ∧ s.emitsDeep = true)
      fun s => (s.deepPacket (s.deep.tt.stoppedNext - 1) 0 noAge (16 * boolNat s.partitioned + 32 * boolNat s.replaying) 3 []).mapTt
        fun t => { t with stoppedNext := s.deep.tt.stoppedNext + 1 } :=
  Does.of_meaning execStoppedDeepResult (fun _ => rfl) (fun _ => rfl) fun s ⟨hwaits, hstopped, hdue, hemits⟩ => by
    have hnext : s.deep.tt.stoppedNext - 1 + 1 = s.deep.tt.stoppedNext := Nat.sub_one_add_one hwaits
    simp [hwaits, hstopped, hnext, Nat.not_lt_of_le hdue, hemits]

/-! ### Accesses under the slot table (R38, R291) -/

section
variable (x : BitVec 16) (k : Fin 1024) (a : BitVec 16) (addr : BitVec 48) (p : Bool)

/-- An access asks its gate for the direction it goes in. -/
def accWrites : AccessKind → Bool
  | .write _ => true
  | .read _ => false

theorem execResourceAccess_eq (acc : AccessKind) (s : State) :
    execResourceAccess x k a addr acc p s = s.run fun s =>
      if wheelLen x.toNat ≤ k.val then s
      else if s.gateAccepts x.toNat k.val a.toNat (accWrites acc) && !s.injArmed 40 a.toNat then s.serveAccess a.toNat addr.toNat acc p
      else ((s.injHere 40 a.toNat).slotViolation x.toNat k.val a.toNat).accessFailed a.toNat addr.toNat (accWrites acc) .slot := by
  cases acc <;> rfl

theorem does_resourceAccess_accepted (acc : AccessKind) :
    Does (.resourceAccess x k a addr acc p)
      (fun s => k.val < wheelLen x.toNat ∧ s.gateAccepts x.toNat k.val a.toNat (accWrites acc) = true ∧ s.injArmed 40 a.toNat = false)
      fun s => s.serveAccess a.toNat addr.toNat acc p :=
  Does.of_meaning (execResourceAccess x k a addr acc p) (fun _ => rfl) (execResourceAccess_eq x k a addr p acc)
    fun s ⟨hslot, hgate, hinj⟩ => by simp [Nat.not_le_of_lt hslot, hgate, hinj]

theorem does_resourceAccess_violation (acc : AccessKind) :
    Does (.resourceAccess x k a addr acc p)
      (fun s => k.val < wheelLen x.toNat ∧ s.gateAccepts x.toNat k.val a.toNat (accWrites acc) = false)
      fun s => ((s.injHere 40 a.toNat).slotViolation x.toNat k.val a.toNat).accessFailed a.toNat addr.toNat (accWrites acc) .slot :=
  Does.of_meaning (execResourceAccess x k a addr acc p) (fun _ => rfl) (execResourceAccess_eq x k a addr p acc)
    fun s ⟨hslot, hgate⟩ => by simp [Nat.not_le_of_lt hslot, hgate]

end

/-! ### A faulty slot record (R294) -/

section
variable (x : BitVec 16) (k : Fin 1024)

theorem does_slotTableParity :
    Does (.slotTableParity x k)
      (fun s => k.val < wheelLen x.toNat ∧ s.deep.tt.gateBad.contains (x.toNat, k.val) = false)
      fun s => (s.mapTt fun t => { t with gateBad := t.gateBad ++ [(x.toNat, k.val)] }).detect 42 0 [(16, x.toNat), (16, k.val)] :=
  Does.of_meaning (execSlotTableParity x k) (fun _ => rfl) (fun _ => rfl) fun s ⟨hslot, hgood⟩ => by
    simp only [hgood, Nat.not_le_of_lt hslot, decide_false, Bool.or_self, Bool.false_eq_true, if_false]

theorem does_gateRewrite :
    Does (.gateRewrite x k) (fun s => s.keeperUp = true)
      fun s => (s.disarmFlip 11).mapTt fun t => { t with gateBad := t.gateBad.filter (fun j => j ≠ (x.toNat, k.val)) } :=
  Does.of_meaning (execGateRewrite x k) (fun _ => rfl) (fun _ => rfl) fun s hkeeper => by simp [hkeeper]

end

/-! ### Astrograph's operations (R260 to R262, R270) -/

/-- A spec of the operation's kind runs for its task, and the operation's end takes what the run answers. -/
theorem State.agRun_task {s : State} {i op : Nat} {b : Bytes} {e : SbEntry} {r : TaskRec} (hspec : s.agSpec i = b)
    (hgiven : b.isEmpty = false) (hop : gOp (specHead b) = op) (htask : s.agTask i = some (e, r))
    (body : State → Bytes → Nat → Bool × State) :
    s.agRun i op body = (body s b e.inst).2.agDone (specHead b) e (body s b e.inst).1 := by
  simp [State.agRun, hspec, hgiven, hop, htask]

section
variable (b : Bytes) (e : SbEntry) (r : TaskRec)

theorem Does.of_agRun {c : Instr} {i op : Nat} (body : State → Bytes → Nat → Bool × State)
    (m : State → Host.Outcome State Fault Refusal) (hexec : ∀ s, exec c s = m s)
    (hrun : ∀ s, m s = s.run fun s => s.agRun i op body) :
    Does c (fun s => s.agSpec i = b ∧ b.isEmpty = false ∧ gOp (specHead b) = op ∧ s.agTask i = some (e, r))
      fun s => (body s b e.inst).2.agDone (specHead b) e (body s b e.inst).1 :=
  Does.of_meaning m hexec hrun fun _ ⟨hspec, hgiven, hop, htask⟩ => State.agRun_task hspec hgiven hop htask body

variable (i : Fin 32)

theorem does_liftDepth :
    Does (.liftDepth i) (fun s => s.agSpec i.val = b ∧ b.isEmpty = false ∧ gOp (specHead b) = 0 ∧ s.agTask i.val = some (e, r))
      fun s => (s.liftRun b e.inst State.liftDepthCam).2.agDone (specHead b) e (s.liftRun b e.inst State.liftDepthCam).1 :=
  .of_agRun b e r (fun s b n => s.liftRun b n State.liftDepthCam) (execLiftDepth i) (fun _ => rfl) fun _ => rfl

theorem does_liftAttn :
    Does (.liftAttn i) (fun s => s.agSpec i.val = b ∧ b.isEmpty = false ∧ gOp (specHead b) = 1 ∧ s.agTask i.val = some (e, r))
      fun s => (s.liftRun b e.inst State.liftAttnCam).2.agDone (specHead b) e (s.liftRun b e.inst State.liftAttnCam).1 :=
  .of_agRun b e r (fun s b n => s.liftRun b n State.liftAttnCam) (execLiftAttn i) (fun _ => rfl) fun _ => rfl

theorem does_voxPool :
    Does (.voxPool i) (fun s => s.agSpec i.val = b ∧ b.isEmpty = false ∧ gOp (specHead b) = 2 ∧ s.agTask i.val = some (e, r))
      fun s => (s.voxPoolRun b e.inst).2.agDone (specHead b) e (s.voxPoolRun b e.inst).1 :=
  .of_agRun b e r State.voxPoolRun (execVoxPool i) (fun _ => rfl) fun _ => rfl

theorem does_warp :
    Does (.warp i) (fun s => s.agSpec i.val = b ∧ b.isEmpty = false ∧ gOp (specHead b) = 3 ∧ s.agTask i.val = some (e, r))
      fun s => (s.warpRun b e.inst).2.agDone (specHead b) e (s.warpRun b e.inst).1 :=
  .of_agRun b e r State.warpRun (execWarp i) (fun _ => rfl) fun _ => rfl

end

/-! ### The Almanac (R251 to R253) -/

section
variable (r : Route)

/-- Keeper serves the write of an index that is an Almanac object's. -/
theorem writesKeeper_almanacObjectWrite (i : BitVec 16) (d : Bytes) (halm : isAlm i.toNat = true) :
    WritesKeeper (.almanacObjectWrite r i d) r.val i.toNat 0 d fun s => s.almWrite i.toNat d :=
  .of_meaning (execAlmanacObjectWrite r i d) (fun _ => rfl) (.write i.toNat 0 d) fun _ => by
    simp only [execAlmanacObjectWrite, halm, Bool.not_true, Bool.false_eq_true, if_false]

theorem writesKeeper_almClone : WritesKeeper (.almClone r) r.val 0x2700 8 [1] fun s => s.almCloneRun :=
  .of_meaning (execAlmClone r) (fun _ => rfl) .almClone fun _ => rfl

theorem commits_almSwitch (cr : CommitRec) :
    Commits (.almSwitch r cr) r.val 0x2700 4 cr State.almSwitchCheck State.almSwitchApply :=
  .of_meaning (execAlmSwitch r cr) (fun _ => rfl) fun _ => rfl

end

section
variable (g m : Nat)

theorem does_almanacSwitched_due :
    Does .almanacSwitched (fun s => s.deep.ag.almPend = some (g, m) ∧ s.instant m ≤ s.now) fun s => s.almTake g m :=
  Does.of_meaning execAlmanacSwitched (fun _ => rfl) (fun _ => rfl) fun _ ⟨hpend, hdue⟩ => by
    simp only [hpend, if_neg (Nat.not_lt_of_le hdue)]

theorem does_almanacSwitched_early :
    Does .almanacSwitched (fun s => s.deep.ag.almPend = some (g, m) ∧ s.now < s.instant m) fun s => s :=
  Does.of_meaning execAlmanacSwitched (fun _ => rfl) (fun _ => rfl) fun _ ⟨hpend, hearly⟩ => by simp only [hpend, if_pos hearly]

end

end Sys2Proof.Machine

namespace Sys2Proof.Proofs
open Sys2Proof.Machine

/-- Settles O50: a result is sent for its epoch, the gate decides an access by its direction, and a slot record that is faulty is
noted once and rewritten. -/
theorem resultsAndSlotsComplete : Obligations.ResultsAndSlotsComplete :=
  ⟨does_deepResult, does_stoppedDeepResult, fun x k a addr n p => does_resourceAccess_accepted x k a addr p (.read n),
    fun x k a addr d p => does_resourceAccess_accepted x k a addr p (.write d),
    fun x k a addr d p => does_resourceAccess_violation x k a addr p (.write d), does_slotTableParity, does_gateRewrite⟩

/-- Settles O51: each operation is one run of its kind for its task, each Almanac command one request of its route, and a switch
acts at its instant. -/
theorem astrographComplete : Obligations.AstrographComplete :=
  ⟨fun i b e r => ⟨does_liftDepth b e r i, does_liftAttn b e r i, does_voxPool b e r i, does_warp b e r i⟩,
    writesKeeper_almanacObjectWrite, writesKeeper_almClone, commits_almSwitch, does_almanacSwitched_due, does_almanacSwitched_early⟩

end Sys2Proof.Proofs
end

section
/-! PROOFS. Theodolite (chapter 11): the kinds on a wave, the wave's end and the stop, the propagator and the origin. -/
namespace Sys2Proof.Machine

/-! ### A wave of a kind (R318, R319, R331) -/

/-- The command of a kind acts on the wave of a unit that runs a program of that kind. -/
theorem State.thRun_of_kind {s : State} {u kind : Nat} {x : ThUnit} (hunit : s.thUnit u = some x)
    (hkind : pKind (s.thProg x.prog) = kind) (f : State → ThUnit → Prob → Prob) : s.thRun u kind f = s.thWave u x f := by
  simp [State.thRun, hunit, hkind]

/-- The command of another kind leaves the unit alone. -/
theorem State.thRun_of_other_kind {s : State} {u kind : Nat} {x : ThUnit} (hunit : s.thUnit u = some x)
    (hkind : pKind (s.thProg x.prog) ≠ kind) (f : State → ThUnit → Prob → Prob) : s.thRun u kind f = s := by
  simp [State.thRun, hunit, hkind]

section
variable (u : Fin 2) (x : ThUnit)

theorem Does.of_thRun {c : Instr} {kind : Nat} {f : State → ThUnit → Prob → Prob} (m : State → Host.Outcome State Fault Refusal)
    (hexec : ∀ s, exec c s = m s) (hrun : ∀ s, m s = s.run fun s => s.thRun u.val kind f) :
    Does c (fun s => s.thUnit u.val = some x ∧ pKind (s.thProg x.prog) = kind) fun s => s.thWave u.val x f :=
  Does.of_meaning m hexec hrun fun _ ⟨hunit, hkind⟩ => State.thRun_of_kind hunit hkind f

theorem does_llt :
    Does (.llt u) (fun s => s.thUnit u.val = some x ∧ pKind (s.thProg x.prog) = 0) fun s => s.thWave u.val x State.probDirect :=
  .of_thRun u x (execLlt u) (fun _ => rfl) fun _ => rfl

theorem does_llt_other_kind :
    Does (.llt u) (fun s => s.thUnit u.val = some x ∧ pKind (s.thProg x.prog) ≠ 0) fun s => s :=
  Does.of_meaning (execLlt u) (fun _ => rfl) (fun _ => rfl) fun _ ⟨hunit, hkind⟩ =>
    State.thRun_of_other_kind hunit hkind State.probDirect

theorem does_ldlt :
    Does (.ldlt u) (fun s => s.thUnit u.val = some x ∧ pKind (s.thProg x.prog) = 1) fun s => s.thWave u.val x State.probDirect :=
  .of_thRun u x (execLdlt u) (fun _ => rfl) fun _ => rfl

theorem does_householderQr :
    Does (.householderQr u) (fun s => s.thUnit u.val = some x ∧ pKind (s.thProg x.prog) = 2)
      fun s => s.thWave u.val x State.probDirect :=
  .of_thRun u x (execHouseholderQr u) (fun _ => rfl) fun _ => rfl

theorem does_lu :
    Does (.lu u) (fun s => s.thUnit u.val = some x ∧ pKind (s.thProg x.prog) = 3) fun s => s.thWave u.val x State.probDirect :=
  .of_thRun u x (execLu u) (fun _ => rfl) fun _ => rfl

theorem does_triangularSolve :
    Does (.triangularSolve u) (fun s => s.thUnit u.val = some x ∧ pKind (s.thProg x.prog) = 4)
      fun s => s.thWave u.val x State.probDirect :=
  .of_thRun u x (execTriangularSolve u) (fun _ => rfl) fun _ => rfl

section
variable (k : Fin 256)

theorem does_gaussNewton :
    Does (.gaussNewton u k) (fun s => s.thUnit u.val = some x ∧ pKind (s.thProg x.prog) = 5)
      fun s => s.thWave u.val x (thSteps k.val gaussStep) :=
  .of_thRun u x (execGaussNewton u k) (fun _ => rfl) fun _ => rfl

theorem does_levenbergMarquardt :
    Does (.levenbergMarquardt u k) (fun s => s.thUnit u.val = some x ∧ pKind (s.thProg x.prog) = 6)
      fun s => s.thWave u.val x (thSteps k.val levenbergStep) :=
  .of_thRun u x (execLevenbergMarquardt u k) (fun _ => rfl) fun _ => rfl

theorem does_pcg :
    Does (.pcg u k) (fun s => s.thUnit u.val = some x ∧ pKind (s.thProg x.prog) = 7)
      fun s => s.thWave u.val x (thSteps k.val pcgStep) :=
  .of_thRun u x (execPcg u k) (fun _ => rfl) fun _ => rfl

end

/-! ### The wave's end and the unit's stop (R319, R332) -/

theorem does_waveComplete :
    Does (.waveComplete u) (fun s => s.thUnit u.val = some x ∧ (s.waveIx x).all x.probDone = true) fun s => s.waveDone u.val x :=
  Does.of_meaning (execWaveComplete u) (fun _ => rfl) (fun _ => rfl) fun _ ⟨hunit, hdone⟩ => by
    simp only [hunit, hdone, Bool.not_true, Bool.false_eq_true, if_false]

theorem does_tStop_due :
    Does (.tStop u) (fun s => s.thUnit u.val = some x ∧ s.tStopAt x ≤ s.now) fun s => s.theoStop u.val x :=
  Does.of_meaning (execTStop u) (fun _ => rfl) (fun _ => rfl) fun _ ⟨hunit, hdue⟩ => by
    simp only [hunit, if_neg (Nat.not_lt_of_le hdue)]

theorem does_tStop_early :
    Does (.tStop u) (fun s => s.thUnit u.val = some x ∧ s.now < s.tStopAt x) fun s => s :=
  Does.of_meaning (execTStop u) (fun _ => rfl) (fun _ => rfl) fun _ ⟨hunit, hearly⟩ => by simp only [hunit, if_pos hearly]

end

/-! ### The propagator and the origin (R337, R338) -/

theorem does_propagatorSample (v : Sample) (l : List Sample) (b : PropBase) :
    Does .propagatorSample (fun s => s.deep.th.propQ = v :: l ∧ s.deep.th.base = some b) fun s => s.propagate v l b :=
  Does.of_meaning execPropagatorSample (fun _ => rfl) (fun _ => rfl) fun _ ⟨hsamples, hbase⟩ => by simp only [hsamples, hbase]

theorem writes_gnssOriginWrite (r : Route) (d : Bytes) :
    Writes (.gnssOriginWrite r d) r.val 0x2900 4 d fun s =>
      ((s.wr R.GNSS_ORIGIN (leNat d)).mapTheo fun th => { th with resetDue := true }, 0) :=
  .of_meaning (execGnssOriginWrite r d) (fun _ => rfl) fun _ => rfl

end Sys2Proof.Machine

namespace Sys2Proof.Proofs
open Sys2Proof.Machine

/-- Settles O52: the command of a kind is one run on the wave of a unit with that kind, the wave's end and the stop act when they
are due, the propagator takes its oldest sample, and the origin is one request of its route. -/
theorem theodoliteComplete : Obligations.TheodoliteComplete :=
  ⟨fun u x => ⟨does_llt u x, does_ldlt u x, does_householderQr u x, does_lu u x, does_triangularSolve u x,
      fun k => ⟨does_gaussNewton u x k, does_levenbergMarquardt u x k, does_pcg u x k, does_llt_other_kind u x⟩,
      does_waveComplete u x, does_tStop_due u x, does_tStop_early u x⟩,
    does_propagatorSample, writes_gnssOriginWrite⟩

end Sys2Proof.Proofs
end

section
/-! PROOFS. Cairns (chapter 12): the value a signal leaves and the conditions on it (R347), what a wait finds (R349, R352), claim and
unclaim (R364), and the signals, waits and host requests that complete. -/
namespace Sys2Proof.Machine
open Sys2Proof.Laws

/-! ### The Cairn Store's records -/

section
variable (s : State)

@[simp] theorem State.cairn_setCairn_same (c : Nat) (v : Cairn) : (s.setCairn c v).cairn c = v := smGet_set_same _ _ _ _

theorem State.cairn_setCairn_ne {c k : Nat} (v : Cairn) (h : k ≠ c) : (s.setCairn c v).cairn k = s.cairn k :=
  smGet_set_ne _ _ v h

@[simp] theorem State.waiter_setWaiter_same (w : Nat) (v : Option Waiter) : (s.setWaiter w v).waiter w = v :=
  smGet_set_same _ _ _ _

@[simp] theorem State.waiter_setCairn (c w : Nat) (v : Cairn) : (s.setCairn c v).waiter w = s.waiter w := rfl

@[simp] theorem State.waiter_wr (k v w : Nat) : (s.wr k v).waiter w = s.waiter w := rfl

@[simp] theorem State.cairn_wr (k v c : Nat) : (s.wr k v).cairn c = s.cairn c := rfl

@[simp] theorem State.msix_cs (v : Nat) : (s.msix v).cs = s.cs := by
  unfold State.msix
  split <;> rfl

@[simp] theorem State.cairn_msix (v c : Nat) : (s.msix v).cairn c = s.cairn c := by
  unfold State.cairn
  rw [State.msix_cs]

@[simp] theorem State.cairn_endWait (a : Nat) (vec : Option Nat) (st : WaitStatus) (c : Nat) :
    (s.endWait a vec st).cairn c = s.cairn c := by
  unfold State.endWait
  split
  · cases vec <;> simp
  · rfl

/-! ### Waking a waiter and testing `NOTIFY` keep every value (R349, R366) -/

/-- An update of one record that keeps its `VALUE` keeps every cairn's. -/
theorem State.setCairn_value {c : Nat} {v : Cairn} (hv : v.value = (s.cairn c).value) (k : Nat) :
    ((s.setCairn c v).cairn k).value = (s.cairn k).value := by
  by_cases hk : k = c
  · subst hk
    rw [State.cairn_setCairn_same, hv]
  · rw [s.cairn_setCairn_ne v hk]

theorem State.wakeWaiter_value (w : Nat) (st : WaitStatus) (k : Nat) :
    ((s.wakeWaiter w st).cairn k).value = (s.cairn k).value := by
  unfold State.wakeWaiter
  split
  · rfl
  · rw [State.cairn_endWait, State.cairn_wr]
    exact State.setCairn_value _ (by rfl) k

theorem State.testWaiters_value (c k : Nat) : ((s.testWaiters c).cairn k).value = (s.cairn k).value := by
  unfold State.testWaiters
  induction (s.cairn c).waiters generalizing s with
  | nil => rfl
  | cons w ws ih =>
    rw [List.foldl_cons, ih]
    split
    · split
      · exact s.wakeWaiter_value w .ok k
      · rfl
    · rfl

theorem State.testNotify_value (c k : Nat) : ((s.testNotify c).cairn k).value = (s.cairn k).value := by
  unfold State.testNotify
  dsimp only
  split
  · rfl
  · split
    · split
      · rfl
      · rw [State.cairn_msix]
        exact s.setCairn_value (by rfl) k
    · exact s.setCairn_value (by rfl) k

/-! ### Signals (R347) -/

/-- What a signal makes of a value. -/
def signalled (add : Bool) (value v : Nat) : Nat := if add then (value + v) % 2 ^ 32 else v % 2 ^ 32

variable {a c v : Nat} {add : Bool}

theorem State.applySignal_accepted (hstate : (s.cairn c).cstate = .armed) : (s.applySignal a c add v).2 = true := by
  simp only [State.applySignal, hstate]

theorem State.applySignal_value (hstate : (s.cairn c).cstate = .armed) :
    ((s.applySignal a c add v).1.cairn c).value = signalled add (s.cairn c).value v := by
  simp only [State.applySignal, hstate, State.testNotify_value, State.testWaiters_value, State.cairn_setCairn_same, signalled]

end

/-! ### Conditions (R347) -/

section
variable {v t : Nat}

/-- The modular "reached" test. -/
theorem condHolds_reached_iff (hv : v < 2 ^ 32) (ht : t < 2 ^ 32) :
    condHolds 0 v t = true ↔ ((v : Int) - t) % 2 ^ 32 < 2 ^ 31 := by
  unfold condHolds
  rw [if_neg Nat.zero_ne_one, if_neg (Nat.zero_ne_add_one 1), decide_eq_true_iff]
  omega

theorem condHolds_equal_iff : condHolds 1 v t = true ↔ v = t := decide_eq_true_iff

theorem condHolds_bits_iff : condHolds 2 v t = true ↔ v &&& t = t := decide_eq_true_iff

theorem condHolds_bits_zero : condHolds 2 v 0 = true := condHolds_bits_iff.mpr (Nat.and_zero v)

end

/-! ### Waits (R349, R352) -/

section
variable (s : State) {a c cond target tmo : Nat} {vec : Option Nat}

/-- A wait that is not satisfied and finds a free record of its pool sleeps on it, at the end of the cairn's list. -/
theorem State.wait_sleeps {w : Nat} (hstate : (s.cairn c).cstate = .armed)
    (hunmet : condHolds cond (s.cairn c).value target = false) (hfree : s.freeWaiter a = some w) :
    (s.wait a c cond target tmo vec).2 = none ∧
    (s.wait a c cond target tmo vec).1.waiter w =
      some { cairn := c, cond := cond, target := target, agent := a, deadline := s.now + tmo * ftUs, vector := vec } ∧
    ((s.wait a c cond target tmo vec).1.cairn c).waiters = (s.cairn c).waiters ++ [w] ∧
    (s.wait a c cond target tmo vec).1.mem = s.mem := by
  simp [State.wait, hstate, hunmet, hfree]

theorem State.wait_noWaiter (hstate : (s.cairn c).cstate = .armed) (hunmet : condHolds cond (s.cairn c).value target = false)
    (hfull : s.freeWaiter a = none) :
    s.wait a c cond target tmo vec = ((s.bump R.NOWAIT_CNT).event 0x2A04 0 [], some .noWaiter) := by
  simp [State.wait, hstate, hunmet, hfull]

end

/-! ### Requests whose effect answers a state or a reason (R467) -/

theorem State.hostWrite_rejected {s : State} {r idx sub reason : Nat} {d : Bytes} {f : State → State × Nat}
    (htaken : s.takesWrite r idx sub d) (hf : f s = (s, reason)) (hreason : reason ≠ 0) (hnow : reason ≠ queuedReason) :
    s.hostWrite r idx sub d f = s.refuse r idx sub reason := by
  obtain ⟨hup, hturn, hok⟩ := htaken
  simp [State.hostWrite, hup, hturn, hok, hf, hreason, hnow]

section
variable {c : Instr} {r idx sub : Nat} {d : Bytes} {f : State → State × Nat} {P : State → Prop}
  (m : State → Host.Outcome State Fault Refusal) (hexec : ∀ s, exec c s = m s)
  (hrun : ∀ s, m s = s.run fun s => s.hostWrite r idx sub d f)
include hexec hrun

theorem Does.of_hostWrite {E : State → State} (hf : ∀ s, P s → f s = (E s, 0)) :
    Does c (fun s => s.takesWrite r idx sub d ∧ P s) fun s => (E s).written r idx sub d :=
  Does.of_meaning m hexec hrun fun s ⟨htaken, hp⟩ => by
    rw [s.hostWrite_taken htaken (by rw [hf s hp]), hf s hp]

theorem Does.of_hostWrite_rejected {reason : Nat} (hreason : reason ≠ 0) (hnow : reason ≠ queuedReason)
    (hf : ∀ s, P s → f s = (s, reason)) :
    Does c (fun s => s.takesWrite r idx sub d ∧ P s) fun s => s.refuse r idx sub reason :=
  Does.of_meaning m hexec hrun fun s ⟨htaken, hp⟩ => State.hostWrite_rejected htaken (hf s hp) hreason hnow

end

/-! ### Claim and unclaim (R364) -/

section
variable (r : Route) (c : BitVec 16)

theorem does_claim_free :
    Does (.claim r c) (fun s => s.takesWrite r.val 0x2A00 0x0E (toLe 2 c.toNat) ∧ (s.cairn c.toNat).cstate = .free)
      (fun s => ((s.disarmCairn c.toNat).setCairn c.toNat
        { s.cairn c.toNat with cstate := .armed, value := 0, rest := 0, owner := 0x7000 + r.val }).written r.val 0x2A00 0x0E
          (toLe 2 c.toNat)) :=
  .of_hostWrite (execClaim r c) (fun _ => rfl) (fun _ => rfl) fun s hfree => by simp [State.claim, hfree]

theorem does_claim_busy :
    Does (.claim r c) (fun s => s.takesWrite r.val 0x2A00 0x0E (toLe 2 c.toNat) ∧ (s.cairn c.toNat).cstate ≠ .free)
      (fun s => s.refuse r.val 0x2A00 0x0E 0x2A01) :=
  .of_hostWrite_rejected (execClaim r c) (fun _ => rfl) (fun _ => rfl) (by decide) (by decide) fun s hbusy => by
    simp [State.claim, hbusy]

theorem does_unclaim_owner :
    Does (.unclaim r c) (fun s => s.takesWrite r.val 0x2A00 0x0F (toLe 2 c.toNat) ∧ (s.cairn c.toNat).cstate ≠ .free ∧
        (s.cairn c.toNat).owner = 0x7000 + r.val)
      (fun s => ((s.poisonCairn c.toNat).setCairn c.toNat Cairn.idle).written r.val 0x2A00 0x0F (toLe 2 c.toNat)) :=
  .of_hostWrite (execUnclaim r c) (fun _ => rfl) (fun _ => rfl) fun s ⟨hclaimed, howner⟩ => by
    simp [State.unclaim, hclaimed, howner]

theorem does_unclaim_other :
    Does (.unclaim r c) (fun s => s.takesWrite r.val 0x2A00 0x0F (toLe 2 c.toNat) ∧ ((s.cairn c.toNat).cstate = .free ∨
        (s.cairn c.toNat).owner ≠ 0x7000 + r.val))
      (fun s => s.refuse r.val 0x2A00 0x0F 0x2A02) :=
  .of_hostWrite_rejected (execUnclaim r c) (fun _ => rfl) (fun _ => rfl) (by decide) (by decide) fun s hforeign => by
    simp [State.unclaim, hforeign]

end

/-! ### Signals and waits of spurs (R347, R349, R355) -/

section
variable {c : Instr} {n op f cond : Nat} (hexec : ∀ s, exec c s = s.runSpur fun s => s.spurWait n op f cond)
include hexec

theorem Does.of_spurWait_now :
    Does c
      (fun s => s.issues n (spurWord 6 op f) ∧ (s.cairn (fCairn f)).cstate = .armed ∧
        condHolds cond (s.cairn (fCairn f)).value (fVal f) = true)
      fun s => (s.spurNext n (spurWord 6 op f) .control).spurDone :=
  Does.of_runSpur hexec fun s ⟨hissues, hstate, hmet⟩ => s.spurWait_now hissues hstate hmet

theorem Does.of_spurWait_poison :
    Does c (fun s => s.issues n (spurWord 6 op f) ∧ (s.cairn (fCairn f)).cstate ≠ .armed) fun s => (s.spurFail n).spurDone :=
  Does.of_runSpur hexec fun s ⟨hissues, hdead⟩ => s.spurWait_poison hissues hdead

end

/-! ### Signals and writes of an agent outside class 7 (R348, R363, R521) -/

theorem State.hostPage_other {s : State} {a off v : Nat} (ha : a / 4096 ≠ 7) (body : State → State) :
    s.hostPage a off v body = body s := if_neg ha

theorem State.pageWrite_other {s : State} {a : Nat} (ha : a / 4096 ≠ 7) (f : State → State) : s.pageWrite a f = f s := by
  simp [State.pageWrite, ha]

theorem State.pageWrite_live {s : State} (h : s.replaying = false) (a : Nat) (f : State → State) : s.pageWrite a f = f s := by
  simp [State.pageWrite, h]

section
variable (a : BitVec 16) (f : BitVec 54) (ha : a.toNat / 4096 ≠ 7)
include ha

theorem acts_sigadd_other :
    Acts (.sigadd (.other a) f) fun s => (s.signal a.toNat (fCairn f.toNat) true (fVal f.toNat)).spurDone :=
  .of_spurMeaning (execSigadd (.other a) f) (fun _ => rfl) (fun _ => rfl) fun _ _ => State.hostPage_other ha _

theorem acts_sigset_other :
    Acts (.sigset (.other a) f) fun s => (s.signal a.toNat (fCairn f.toNat) false (fVal f.toNat)).spurDone :=
  .of_spurMeaning (execSigset (.other a) f) (fun _ => rfl) (fun _ => rfl) fun _ _ => State.hostPage_other ha _

variable (c : Fin 16384) (v : BitVec 32)

theorem does_arm_owner :
    Does (.arm a c v true) (fun s => (s.cairn c.val).cstate ≠ .free ∧ (s.cairn c.val).owner = a.toNat)
      fun s => s.rearm c.val v.toNat :=
  Does.of_meaning (execArm a c v true) (fun _ => rfl) (fun _ => rfl) fun s ⟨hclaimed, howner⟩ => by
    simp [State.pageWrite_other ha, State.armWrite, ha, hclaimed, howner]

theorem does_arm_other :
    Does (.arm a c v true) (fun s => (s.cairn c.val).cstate = .free ∨ (s.cairn c.val).owner ≠ a.toNat)
      fun s => (s.bump R.SIG_REFUSED).event 0x2A03 a.toNat [(14, c.val)] :=
  Does.of_meaning (execArm a c v true) (fun _ => rfl) (fun _ => rfl) fun s hforeign => by
    have hrefused : ¬((s.cairn c.val).cstate ≠ .free ∧ (s.cairn c.val).owner = a.toNat) := by
      rintro ⟨hclaimed, howner⟩
      exact hforeign.elim hclaimed (· howner)
    simp [State.pageWrite_other ha, State.armWrite, ha, hrefused]

end

section
variable (a : BitVec 16) (f : BitVec 54) (k : Nat)

theorem acts_waitge_other : Acts (.waitge (.other a) f k) fun s => (s.agentWait a.toNat f.toNat 0 k).spurDone :=
  .of_spurMeaning (execWaitge (.other a) f k) (fun _ => rfl) (fun _ => rfl) fun _ _ => rfl

theorem acts_waiteq_other : Acts (.waiteq (.other a) f k) fun s => (s.agentWait a.toNat f.toNat 1 k).spurDone :=
  .of_spurMeaning (execWaiteq (.other a) f k) (fun _ => rfl) (fun _ => rfl) fun _ _ => rfl

theorem acts_waitbit_other : Acts (.waitbit (.other a) f k) fun s => (s.agentWait a.toNat f.toNat 2 k).spurDone :=
  .of_spurMeaning (execWaitbit (.other a) f k) (fun _ => rfl) (fun _ => rfl) fun _ _ => rfl

end

/-! ### The end of a sleeping wait (R353, R354) -/

theorem does_waiterWake (a : BitVec 16) (st : WaitStatus) (l : List (Nat × WaitStatus)) :
    Does (.waiterWake a)
      (fun s => takeWake a.toNat s.cs.wakes = (some st, l) ∧ a.toNat < 128 ∧ (s.spur a.toNat).waiting = true ∧ st = .ok)
      fun s => ({ s with cs := { s.cs with wakes := l } }.mapSpur a.toNat fun x => { x with waiting := false }).spurDone :=
  .of_spurMeaning (execWaiterWake a) (fun _ => rfl) (fun _ => rfl) fun s ⟨hwake, hspur, hwaits, hok⟩ => by
    simp [State.wakeAgent, hwake, hspur, hwaits, hok]

section
variable (w : Fin 8192) (x : Waiter)

theorem does_waitTimeout_due :
    Does (.waitTimeout w) (fun s => s.waiter w.val = some x ∧ x.deadline ≤ s.now) fun s =>
      (((s.wakeWaiter w.val .timeout).bump R.TMO_CNT).wr R.LAST_TMO (x.cairn + x.agent * 65536)).event 0x2A01 x.agent
        [(14, x.cairn), (2, x.cond), (32, x.target)] :=
  Does.of_meaning (execWaitTimeout w) (fun _ => rfl) (fun _ => rfl) fun s ⟨hsleeps, hdue⟩ => by
    simp only [State.waitTimeout, hsleeps, if_neg (Nat.not_lt_of_le hdue)]

theorem does_waitTimeout_early :
    Does (.waitTimeout w) (fun s => s.waiter w.val = some x ∧ s.now < x.deadline) fun s => s :=
  Does.of_meaning (execWaitTimeout w) (fun _ => rfl) (fun _ => rfl) fun s ⟨hsleeps, hearly⟩ => by
    simp only [State.waitTimeout, hsleeps, if_pos hearly]

end

/-! ### The host's requests and the record errors (R362, R366, R367) -/

theorem does_notifyWrite (c : Fin 16384) (v : BitVec 64) :
    Does (.notifyWrite c v true) (fun s => s.replaying = false) fun s =>
      (s.notifyWrite c.val v.toNat true).lbRecord 0x7000 0x12 (toLe 4 (64 * c.val + 40) ++ toLe 8 v.toNat) :=
  Does.of_meaning (execNotifyWrite c v true) (fun _ => rfl) (fun _ => rfl) fun _ hlive => State.pageWrite_live hlive _ _

theorem writes_hwReq (r : Route) (d : Bytes) : Writes (.hwReq r d) r.val (0x2A04 + r.val) 1 d fun s => s.hwReq r.val d :=
  .of_meaning (execHwReq r d) (fun _ => rfl) fun _ => rfl

theorem writes_hwCancel (r : Route) : Writes (.hwCancel r true) r.val (0x2A04 + r.val) 3 (toLe 1 1) fun s => (s.hwCancel r.val, 0) :=
  .of_meaning (execHwCancel r true) (fun _ => rfl) fun _ => rfl

theorem writes_hwCancel_zero (r : Route) : Writes (.hwCancel r false) r.val (0x2A04 + r.val) 3 (toLe 1 0) fun s => (s, 0) :=
  .of_meaning (execHwCancel r false) (fun _ => rfl) fun _ => rfl

theorem acts_cairnRecordError (c : Fin 16384) :
    Acts (.cairnRecordError c) fun s => ((s.bump (R.UE_CNT 7)).detect 50 0 [(14, c.val)]).poisonCairn c.val :=
  .of_meaning (execCairnRecordError c) (fun _ => rfl) fun _ => rfl

theorem acts_waiterRecordParity (w : Fin 8192) :
    Acts (.waiterRecordParity w) fun s => ((s.wakeWaiter w.val .poison).bump (R.UE_CNT 11)).detect 51 0 [] :=
  .of_meaning (execWaiterRecordParity w) (fun _ => rfl) fun _ => rfl

end Sys2Proof.Machine

namespace Sys2Proof.Proofs
open Sys2Proof.Machine

/-- Settles O17: the tests that follow an accepted signal keep every `VALUE`, so the one it left is read; a condition is the code's
own comparison. -/
theorem cairnOperations : Obligations.CairnOperations :=
  ⟨fun s _ _ _ hstate => ⟨s.applySignal_accepted hstate, s.applySignal_value hstate, s.applySignal_accepted hstate,
      s.applySignal_value hstate⟩,
    fun _ _ hv ht => ⟨condHolds_reached_iff hv ht, condHolds_equal_iff, condHolds_bits_iff, condHolds_bits_zero⟩⟩

/-- Settles O18: the wait's four branches, by the cairn's state, the condition and the free record of the pool. -/
theorem waitOutcomes : Obligations.WaitOutcomes := fun s _ _ _ _ _ _ =>
  ⟨s.wait_poison, s.wait_now, fun hstate hunmet _ hfree => s.wait_sleeps hstate hunmet hfree,
    fun hstate hunmet hfull => by
      rw [s.wait_noWaiter hstate hunmet hfull, State.event_cs, State.bump_cs]
      exact ⟨rfl, rfl⟩⟩

/-- Settles O19: a claim tests the cairn's state and an unclaim its owner too; each is one request of its route. -/
theorem claimAndUnclaim : Obligations.ClaimAndUnclaim := fun r c =>
  ⟨does_claim_free r c, does_claim_busy r c, does_unclaim_owner r c, does_unclaim_other r c, rfl⟩

/-- Settles O46: a spur's word acts once it is issued, another agent's signal, wait or re-arm at once, and a host's request is one
write of its route. -/
theorem cairnCommandsComplete : Obligations.CairnCommandsComplete :=
  ⟨fun _ _ _ => ⟨.of_spurIssue fun _ => rfl, .of_spurIssue fun _ => rfl, .of_spurWait_now fun _ => rfl, .of_spurWait_now fun _ => rfl,
      .of_spurWait_now fun _ => rfl, .of_spurWait_poison fun _ => rfl⟩,
    fun a f k ha => ⟨acts_sigadd_other a f ha, acts_sigset_other a f ha, acts_waitge_other a f k, acts_waiteq_other a f k,
      acts_waitbit_other a f k⟩,
    does_waiterWake, does_waitTimeout_due, does_waitTimeout_early, fun a c v ha => does_arm_owner a ha c v,
    fun a c v ha => does_arm_other a ha c v, does_notifyWrite, writes_hwReq, writes_hwCancel, writes_hwCancel_zero,
    acts_cairnRecordError, acts_waiterRecordParity⟩

end Sys2Proof.Proofs
end

section
/-! PROOFS. The Col links and the Range (chapter 15): training, loss, the flits that arrive in order for this device, share maps and
peers. -/
namespace Sys2Proof.Machine

/-! ### Links (R444, R447) -/

section
variable (l : Fin 6)

section
variable (p : Fin 8) (i : BitVec 64) (v : Fin 4)

theorem does_colLinkTrained_up :
    Does (.colLinkTrained l p i v)
      (fun s => s.linkOn l.val = true ∧ s.rd (R.LINK_STATE l.val) ≠ 2 ∧ v.val ≠ 0 ∧ p.val ≠ s.host.rangeId) fun s =>
      ((s.wr (R.LINK_STATE l.val) 2).wr (R.LINK_PEER l.val) p.val).mapHost fun h =>
        { h with linkImage := smSet (fun _ => 0) h.linkImage l.val i.toNat, seqRx := smSet (fun _ => 65536) h.seqRx l.val 65536,
                 seqTx := smSet (fun _ => 0) h.seqTx l.val 0, badRun := smSet (fun _ => 0) h.badRun l.val 0 } :=
  Does.of_meaning (execColLinkTrained l p i v) (fun _ => rfl) (fun _ => rfl) fun s ⟨hon, hdown, hvariant, hpeer⟩ => by
    simp only [hon, hdown, hvariant, hpeer, Bool.not_true, decide_false, Bool.or_self, Bool.false_eq_true, if_false]

/-- A far end with this device's own Range ID is a fault of the link (R444). -/
theorem does_colLinkTrained_ownId :
    Does (.colLinkTrained l p i v)
      (fun s => s.linkOn l.val = true ∧ s.rd (R.LINK_STATE l.val) ≠ 2 ∧ v.val ≠ 0 ∧ p.val = s.host.rangeId)
      fun s => (s.wr (R.LINK_STATE l.val) 3).event 0x2D22 0 [] :=
  Does.of_meaning (execColLinkTrained l p i v) (fun _ => rfl) (fun _ => rfl) fun s ⟨hon, hdown, hvariant, hown⟩ => by
    simp only [hon, hdown, hvariant, hown, Bool.not_true, decide_false, Bool.or_self, Bool.false_eq_true, if_false, if_true]

end

theorem does_colLinkDown_up :
    Does (.colLinkDown l) (fun s => s.rd (R.LINK_STATE l.val) = 2) fun s => (s.injHere 31 l.val).linkDown l.val :=
  Does.of_meaning (execColLinkDown l) (fun _ => rfl) (fun _ => rfl) fun _ hup => if_pos hup

theorem does_colLinkDown_down : Does (.colLinkDown l) (fun s => s.rd (R.LINK_STATE l.val) ≠ 2) fun s => s :=
  Does.of_meaning (execColLinkDown l) (fun _ => rfl) (fun _ => rfl) fun _ hdown => if_neg hdown

end

/-! ### Flits (R368, R443, R447, R448) -/

/-- A flit that passes the link's checks reaches what its type does at this device. -/
theorem State.colRx_arrives {s : State} {l typ : Nat} {f : Flit} (h : s.flitArrives l f typ) (body : State → State) :
    s.colRx l f typ body = body (s.flitTaken l f) := by
  obtain ⟨hon, hup, htyp, hcrc, hinj, hseq, himage, hdst⟩ := h
  have horder : ¬(s.nextSeq l ≠ none ∧ s.nextSeq l ≠ some f.seqNo.toNat) := fun ⟨hexpects, hgap⟩ => hseq.elim hexpects hgap
  simp [State.colRx, hon, hup, htyp, hcrc, hinj, horder, himage, hdst]

theorem Does.of_colRx {c : Instr} {l typ : Nat} {f : Flit} (body : State → State)
    (hexec : ∀ s, exec c s = s.run fun s => s.colRx l f typ body) :
    Does c (fun s => s.flitArrives l f typ) fun s => body (s.flitTaken l f) :=
  Does.of_run hexec fun _ harrives => State.colRx_arrives harrives body

/-! ### Share maps, peers and the Range ID (R445, R451, R456) -/

section
variable (r : Route) (cr : CommitRec)

theorem commits_mapSel : Commits (.mapSel r cr) r.val 0x2DA0 5 cr mapSelCheck mapSelApply :=
  .of_meaning (execMapSel r cr) (fun _ => rfl) fun _ => rfl

theorem commits_peerAdmit : Commits (.peerAdmit r cr) r.val 0x2DA0 4 cr peerAdmitCheck peerAdmitApply :=
  .of_meaning (execPeerAdmit r cr) (fun _ => rfl) fun _ => rfl

theorem commits_rangeId : Commits (.rangeId r cr) r.val 0x2DA0 1 cr noCheck (keyApply R.RANGE_ID) :=
  .of_meaning (execRangeId r cr) (fun _ => rfl) fun _ => rfl

end

theorem acts_mapSwitch : Acts .mapSwitch fun s => s.mapDue :=
  .of_meaning execMapSwitch (fun _ => rfl) fun _ => rfl

theorem acts_peerReadmission : Acts .peerReadmission fun s => s.peersDue :=
  .of_meaning execPeerReadmission (fun _ => rfl) fun _ => rfl

end Sys2Proof.Machine

namespace Sys2Proof.Proofs
open Sys2Proof.Machine

/-- Settles O56: a link trains or goes down by its state, a flit in order reaches its type's meaning, and the map, the peers and the
Range ID are commits of their route. -/
theorem colAndRangeComplete : Obligations.ColAndRangeComplete :=
  ⟨does_colLinkTrained_up, does_colLinkTrained_ownId, does_colLinkDown_up, does_colLinkDown_down,
    fun _ f => ⟨.of_colRx (·.peerWrite f) fun _ => rfl, .of_colRx (·.peerAck f) fun _ => rfl, .of_colRx (·.peerRead f) fun _ => rfl,
      .of_colRx (·.peerData f) fun _ => rfl,
      .of_colRx (·.sigAdd (colAgent f) (f.addr.toNat % 2 ^ 14) (leAt f.payload 0 4)) fun _ => rfl⟩,
    commits_mapSel, acts_mapSwitch, commits_peerAdmit, acts_peerReadmission, commits_rangeId⟩

end Sys2Proof.Proofs
end

section
/-! PROOFS. The block as a whole: a command outside the pin `PORST_N` is nothing while the pin is low, and every command ends in a
next state with the queue as it was. -/
namespace Sys2Proof.Machine

/-! ### What every command can do -/

section
variable {s : State}

/-- While `PORST_N` is low a command of anything else only clears what the last one sent (R535). -/
theorem exec_inReset {c : Instr} (hc : ofPorst c = false) (hlow : s.power.porstLow = true) : exec c s = .next s.fresh := by
  cases c
  case porstNRelease => cases hc
  case porstNAssert => cases hc
  all_goals exact if_pos hlow

/-- Outside reset every command but those of the pin ends with its events taken up. -/
theorem exec_live {c : Instr} (hc : ofPorst c = false) (hlive : ¬s.power.porstLow = true) : ∃ t, exec c s = .next (s.after t) := by
  cases c
  case porstNRelease => cases hc
  case porstNAssert => cases hc
  all_goals exact ⟨_, if_neg hlive⟩

theorem execPorstNRelease_next (env : BootEnv) (s : State) : ∃ t, execPorstNRelease env s = .next t ∧ t.pending = s.pending := by
  unfold execPorstNRelease
  split
  · exact ⟨_, rfl, s.fresh_pending⟩
  · exact ⟨_, rfl, s.after_pending _⟩

theorem execPorstNAssert_next (n : Nat) (s : State) : ∃ t, execPorstNAssert n s = .next t ∧ t.pending = s.pending := by
  unfold execPorstNAssert
  split
  · exact ⟨_, rfl, s.fresh_pending⟩
  · exact ⟨_, rfl, rfl⟩

/-- No command ends in a fault or a refusal, and none adds or drops a waiting command. -/
theorem exec_next (c : Instr) (s : State) : ∃ t, exec c s = .next t ∧ t.pending = s.pending := by
  cases hc : ofPorst c
  case true =>
    cases c <;> cases hc
    case porstNRelease env => exact execPorstNRelease_next env s
    case porstNAssert n => exact execPorstNAssert_next n s
  case false =>
    by_cases hlow : s.power.porstLow = true
    · exact ⟨s.fresh, exec_inReset hc hlow, s.fresh_pending⟩
    · obtain ⟨t, ht⟩ := exec_live hc hlow
      exact ⟨_, ht, s.after_pending t⟩

end

/-! ### Steps and runs -/

section
variable (s : State)

theorem State.tick_inReset (hlow : s.power.porstLow = true) : s.tick = s.fresh := if_pos hlow

theorem State.tick_pending : s.tick.pending = s.pending := by
  by_cases hlow : s.power.porstLow = true
  · rw [s.tick_inReset hlow, s.fresh_pending]
  · rw [s.tick_live (by simpa using hlow)]

theorem step_next : ∃ t, step s = .next t ∧ t.pending = s.pending.drop 1 := by
  cases hq : s.pending with
  | nil => exact ⟨s.tick, step_idle s hq, by rw [s.tick_pending, hq]; rfl⟩
  | cons c rest =>
    obtain ⟨t, ht, hpending⟩ := exec_next c { s with pending := rest }
    exact ⟨t, by simpa only [step, hq] using ht, hpending⟩

theorem runs_pending (n : Nat) : ∃ t, Runs n s t ∧ t.pending = s.pending.drop n := by
  induction n generalizing s with
  | zero => exact ⟨s, .zero s, rfl⟩
  | succ n ih =>
    obtain ⟨t, hstep, ht⟩ := step_next s
    obtain ⟨u, hruns, hu⟩ := ih t
    exact ⟨u, .succ hstep hruns, by rw [hu, ht, List.drop_drop, Nat.add_comm]⟩

/-- With the pin low and no command of the pin in front, a step only takes the front of the queue. -/
theorem step_inReset (hlow : s.power.porstLow = true) (hq : ∀ c ∈ s.pending, ofPorst c = false) :
    step s = .next { s with pending := s.pending.drop 1, out := [] } := by
  cases hp : s.pending with
  | nil =>
    rw [step_idle s hp, s.tick_inReset hlow, State.fresh]
    simp only [hp, List.drop_nil]
  | cons c rest =>
    have hc : ofPorst c = false := hq c (by simp [hp])
    simp only [step, hp]
    exact exec_inReset (s := { s with pending := rest }) hc hlow

theorem runs_inReset {n : Nat} {s t : State} (hlow : s.power.porstLow = true) (hq : ∀ c ∈ s.pending, ofPorst c = false)
    (hruns : Runs n s t) : t = { s with pending := s.pending.drop n, out := if n = 0 then s.out else [] } := by
  induction hruns with
  | zero s => rfl
  | succ hstep _ ih =>
    obtain rfl := Host.Outcome.next.inj (hstep.symm.trans (step_inReset _ hlow hq))
    refine (ih hlow fun c hc => hq c (List.mem_of_mem_drop hc)).trans ?_
    simp

end

/-! ### A command that raises no event -/

theorem State.settle_calm {s : State} (h : s.calm) : s.settle = s := by
  have hraised : s.diag.raised = [] := h
  simp only [State.settle, hraised, List.foldl_nil]
  rw [← hraised]

end Sys2Proof.Machine

namespace Sys2Proof.Proofs
open Sys2Proof.Machine

/-- Settles O2, by induction on the number of steps: each is the front command or a tick, and both end in a next state. -/
theorem blockNeverStops : Obligations.BlockNeverStops := fun n s => runs_pending s n

/-- Settles O3, by induction on the run: with the pin low each step drops the front command and clears the outputs. -/
theorem resetHoldsEverything : Obligations.ResetHoldsEverything := fun _ _ _ hlow hq hruns => runs_inReset hlow hq hruns

/-- Settles O1: with the command put in front, the step takes it and restores the queue behind it. -/
theorem stepTakesFront : Obligations.StepTakesFront := fun _ _ => rfl

/-- Settles O8: settling is the identity where no event waits. -/
theorem calmCommandEnds : Obligations.CalmCommandEnds := fun _ _ _ hdoes s hlive hp hcalm => by
  rw [hdoes s hlive hp, State.after, State.settle_calm hcalm]

end Sys2Proof.Proofs
end

section
/-! PROOFS. Words of memory (chapter 14): which words an access touches, what a write of words leaves in the bytes and in the word
errors, and what a read of one word answers; what the code makes of a pattern, and the error log (R400, R402 to R404, R415). -/
namespace Sys2Proof.Machine
open Sys2Proof.Laws

/-! ### Words and regions (R18, R401) -/

/-- The addresses of queue memory, the one memory of 8-byte words. -/
def inQueueMem (a : Nat) : Prop := 0x12000000000 ≤ a ∧ a < 0x12000400000

/-- What a memory class says of an address: it lies below queue memory, above it, or in it. -/
structure PlacedAt (a cls : Nat) : Prop where
  below : cls < 6 → a < 0x12000000000
  above : cls = 7 → 0x12000400000 ≤ a
  queueMem : cls = 8 ↔ 0x12000000000 ≤ a ∧ a < 0x12000400000
  listed : cls < 6 ∨ cls = 7 ∨ cls = 8 ∨ cls = 12

theorem PlacedAt.of_lt_two {a k : Nat} (hk : k < 2) (ha : a < 0x800000000) : PlacedAt a k := by
  constructor <;> omega

theorem regionOf_placedAt (v a : Nat) : PlacedAt a (classOf (regionOf v a)) := by
  have hstack : bitsOf 12 12 a < 2 := Nat.mod_lt _ (by decide)
  unfold regionOf
  repeat' refine iteInduction (motive := fun r => PlacedAt a (classOf r)) (fun _ => ?_) (fun _ => ?_)
  case _ => exact .of_lt_two (k := if v = 1 then 0 else bitsOf 12 12 a) (by split <;> omega) (by omega)
  all_goals
    simp only [classOf]
    constructor <;> omega

theorem classOf_regionOf_eq_eight_iff (v a : Nat) : classOf (regionOf v a) = 8 ↔ inQueueMem a := (regionOf_placedAt v a).queueMem

theorem wordLen_of_inQueueMem {a : Nat} (h : inQueueMem a) : wordLen a = 8 :=
  if_pos ((classOf_regionOf_eq_eight_iff 3 a).mpr h)

theorem wordLen_of_not_inQueueMem {a : Nat} (h : ¬inQueueMem a) : wordLen a = 16 :=
  if_neg (mt (classOf_regionOf_eq_eight_iff 3 a).mp h)

theorem wordLen_cases (a : Nat) : wordLen a = 8 ∨ wordLen a = 16 := by
  by_cases h : inQueueMem a
  · exact .inl (wordLen_of_inQueueMem h)
  · exact .inr (wordLen_of_not_inQueueMem h)

theorem wordLen_congr {a b : Nat} (h : inQueueMem a ↔ inQueueMem b) : wordLen a = wordLen b := by
  by_cases hb : inQueueMem b
  · rw [wordLen_of_inQueueMem hb, wordLen_of_inQueueMem (h.mpr hb)]
  · rw [wordLen_of_not_inQueueMem hb, wordLen_of_not_inQueueMem (mt h.mp hb)]

/-- The words that `n` bytes from `a` touch lie one after the other from the word of `a` on. -/
theorem wordsOf_eq {a n : Nat} (hn : 0 < n) :
    wordsOf a n = (List.range ((a + n - 1) / wordLen a - a / wordLen a + 1)).map fun i => (a / wordLen a + i) * wordLen a :=
  if_neg (Nat.ne_of_gt hn)

theorem wordsOf_zero (a : Nat) : wordsOf a 0 = [] := rfl

/-- A whole word touches itself alone. -/
theorem wordsOf_wholeWord {a : Nat} (h : a % wordLen a = 0) : wordsOf a (wordLen a) = [a] := by
  have hlen := wordLen_cases a
  have hwords : (a + wordLen a - 1) / wordLen a - a / wordLen a = 0 := by
    rcases hlen with hlen | hlen <;> rw [hlen] at h ⊢ <;> omega
  rw [wordsOf_eq (by omega), hwords]
  simpa using Nat.div_mul_cancel (Nat.dvd_of_mod_eq_zero h)

/-! ### Accesses that are accepted (R3, R407) -/

section
variable {s : State} {a n : Nat}

theorem State.accStatus_ok_classes (h : s.accStatus a n = .ok) :
    classOf (regionOf s.variant a) ≠ 12 ∧ classOf (regionOf s.variant (a + (n - 1))) ≠ 12 ∧
      (classOf (regionOf s.variant a) = classOf (regionOf s.variant (a + (n - 1))) ∨
        classOf (regionOf s.variant a) < 2 ∧ classOf (regionOf s.variant (a + (n - 1))) < 2) := by
  unfold State.accStatus at h
  dsimp only at h
  split at h
  · cases h
  · next hmapped =>
    simp only [Bool.or_eq_true, Bool.and_eq_true, decide_eq_true_eq, Bool.not_eq_true', Bool.and_eq_false_imp, not_or,
      not_and, decide_eq_false_iff_not] at hmapped
    obtain ⟨⟨hfirst, hlast⟩, hboth⟩ := hmapped
    refine ⟨hfirst, hlast, ?_⟩
    by_contra hne
    simp only [not_or, not_and] at hne
    exact hboth hne.1 hne.2

/-- An accepted access lies in queue memory as a whole or not at all. -/
theorem State.accStatus_ok_queueMem (h : s.accStatus a n = .ok) {c : Nat} (hfrom : a ≤ c) (hto : c ≤ a + (n - 1)) :
    inQueueMem c ↔ inQueueMem a := by
  obtain ⟨hfirst, hlast, hsame⟩ := State.accStatus_ok_classes h
  obtain ⟨hbelowFirst, haboveFirst, hqueueFirst, hlistedFirst⟩ := regionOf_placedAt s.variant a
  obtain ⟨hbelowLast, haboveLast, hqueueLast, hlistedLast⟩ := regionOf_placedAt s.variant (a + (n - 1))
  unfold inQueueMem
  omega

theorem State.accStatus_congr {t : State} (hvariant : t.variant = s.variant) (hopen : t.mem.openMask = s.mem.openMask) :
    t.accStatus a n = s.accStatus a n := by
  unfold State.accStatus State.storeOpen
  rw [hvariant, hopen]

/-- Every word that an accepted access touches has the length of the first. -/
theorem State.accStatus_ok_wordLen (h : s.accStatus a n = .ok) {w : Nat} (hfrom : a / wordLen a * wordLen a ≤ w)
    (hto : w ≤ a + (n - 1)) : wordLen w = wordLen a := by
  by_cases hw : a ≤ w
  · exact wordLen_congr (State.accStatus_ok_queueMem h hw hto)
  · have hsame : inQueueMem w ↔ inQueueMem a := by
      unfold inQueueMem
      rcases wordLen_cases a with hlen | hlen <;> rw [hlen] at hfrom <;> omega
    exact wordLen_congr hsame

end

/-! ### The bytes after a write (R400) -/

section
variable (s : State)

theorem State.byte_congr {s t : State} (h : t.mem.bytes = s.mem.bytes) (c : Nat) : t.byte c = s.byte c := by
  simp only [State.byte, h]

theorem State.bytes_setBytes_congr {d : Bytes} : ∀ {s t : State} {a : Nat}, t.mem.bytes = s.mem.bytes →
    (t.setBytes a d).mem.bytes = (s.setBytes a d).mem.bytes := by
  induction d with
  | nil => exact id
  | cons b d ih =>
    intro s t a h
    exact ih (by simp only [State.setByte, h])

/-- The byte at `c` after `d` is stored from `a`, over what it was before. -/
def byteAfter (a : Nat) (d : Bytes) (c : Nat) (old : Byte) : Byte := if a ≤ c ∧ c < a + d.length then d.getD (c - a) 0 else old

theorem State.byte_setBytes (a : Nat) (d : Bytes) (c : Nat) : (s.setBytes a d).byte c = byteAfter a d c (s.byte c) := by
  unfold byteAfter
  split
  · next h =>
    have hin := State.byte_setBytes_in d s a (c - a) (by omega)
    rw [Nat.add_sub_cancel' h.1] at hin
    rw [hin, List.getD_eq_getElem]
  · exact State.byte_setBytes_out d s a c (by omega)

/-- Whatever a write makes of the word's errors, its bytes are the ones written. -/
theorem State.bytes_writeWord (g w o : Nat) (d : Bytes) (p : Bool) :
    (s.writeWord g w o d p).mem.bytes = (s.setBytes (w + o) d).mem.bytes := by
  have hdetected : ∀ x, ((s.detectWord w g x).setBytes (w + o) d).mem.bytes = (s.setBytes (w + o) d).mem.bytes :=
    fun x => State.bytes_setBytes_congr (s.bytes_detectWord w g x)
  unfold State.writeWord
  extract_lets n cls whole outcome e0 s1
  have hs1 : s1.mem.bytes = (s.setBytes (w + o) d).mem.bytes := by
    simp only [s1]
    split
    · next hwhole =>
      have hoff : o = 0 := by simp only [whole, Bool.and_eq_true, decide_eq_true_eq] at hwhole; exact hwhole.1
      simp only [hoff, Nat.add_zero, State.bytes_setWerr]
    · split
      · rfl
      · cases outcome
        case clean => rfl
        case corrected => rfl
        all_goals exact hdetected _
  split <;> simpa using hs1

theorem State.byte_writeWord (g w o : Nat) (d : Bytes) (p : Bool) (c : Nat) :
    (s.writeWord g w o d p).byte c = byteAfter (w + o) d c (s.byte c) := by
  rw [State.byte_congr (s.bytes_writeWord g w o d p), State.byte_setBytes]

theorem length_slice {d : Bytes} {o n : Nat} (h : o + n ≤ d.length) : (slice d o n).length = n := by
  simp only [slice, List.length_take, List.length_drop]
  omega

theorem getD_slice {d : Bytes} {o n i : Nat} (h : i < n) : (slice d o n).getD i 0 = d.getD (o + i) 0 := by
  simp only [slice, List.getD_eq_getElem?_getD, List.getElem?_take, if_pos h, List.getElem?_drop]

/-- The part of an access of `d` from `a` that falls in the word of length `l` at `w`. -/
def State.writePart (s : State) (g : Nat) (p : Bool) (a : Nat) (d : Bytes) (l w : Nat) : State :=
  s.writeWord g w (max a w - w) (slice d (max a w - a) (min (a + d.length) (w + l) - max a w)) p

/-- One more word continues what the words before it stored. -/
theorem State.byte_writePart {g a l w c : Nat} {p : Bool} {d : Bytes} {old : Byte} (hw : w < a + d.length) (hl : a < w + l)
    (hs : s.byte c = byteAfter a (d.take (w - a)) c old) :
    (s.writePart g p a d l w).byte c = byteAfter a (d.take (w + l - a)) c old := by
  rw [State.writePart, State.byte_writeWord, hs]
  unfold byteAfter
  rw [length_slice (by omega)]
  simp only [List.length_take, List.getD_eq_getElem?_getD, slice, List.getElem?_take, List.getElem?_drop]
  have hstart : w + (max a w - w) = max a w := by omega
  rw [hstart]
  by_cases hc : max a w ≤ c ∧ c < max a w + (min (a + d.length) (w + l) - max a w)
  · rw [if_pos hc, if_pos (by omega), if_pos (by omega), if_pos (by omega)]
    congr 2
    omega
  · rw [if_neg hc]
    by_cases hbefore : a ≤ c ∧ c < a + min (w - a) d.length
    · rw [if_pos hbefore, if_pos (by omega), if_pos (by omega), if_pos (by omega)]
    · rw [if_neg hbefore, if_neg (by omega)]

theorem State.byte_writeParts {g a l c : Nat} {p : Bool} {d : Bytes} (hl : 0 < l) :
    ∀ n, n ≤ (a + d.length - 1) / l - a / l + 1 → 0 < d.length →
      (((List.range n).map fun i => (a / l + i) * l).foldl (fun t w => t.writePart g p a d l w) s).byte c =
        byteAfter a (d.take ((a / l + n) * l - a)) c (s.byte c) := by
  intro n
  induction n with
  | zero =>
    intro _ _
    have hstart : (a / l + 0) * l - a = 0 := Nat.sub_eq_zero_of_le (Nat.div_mul_le_self a l)
    rw [hstart, byteAfter, List.take_zero, List.length_nil, if_neg (by omega)]
    rfl
  | succ n ih =>
    intro hn hd
    have hnext : (a / l + (n + 1)) * l = (a / l + n) * l + l := Nat.succ_mul _ _
    have hword : (a / l + n) * l < a + d.length := by
      have hle : a / l + n ≤ (a + d.length - 1) / l := by
        have := Nat.div_le_div_right (c := l) (show a ≤ a + d.length - 1 by omega)
        omega
      have := (Nat.le_div_iff_mul_le hl).mp hle
      omega
    have hreach : a < (a / l + n) * l + l := by
      have := Nat.lt_mul_of_div_lt (Nat.lt_succ_self (a / l)) hl
      rw [Nat.succ_mul] at this
      have := Nat.mul_le_mul_right l (Nat.le_add_right (a / l) n)
      omega
    rw [List.range_succ, List.map_append, List.foldl_append, hnext]
    exact State.byte_writePart _ hword hreach (ih (by omega) hd)

end

section
variable {s : State}

theorem State.writeWords_eq_writeParts {g a : Nat} {p : Bool} {d : Bytes} (hacc : s.accStatus a d.length = .ok) :
    s.writeWords g p a d = (wordsOf a d.length).foldl (fun t w => t.writePart g p a d (wordLen a) w) s := by
  refine List.foldl_ext _ _ _ fun t w hw => ?_
  have hlen : wordLen w = wordLen a := by
    by_cases hd : 0 < d.length
    · rw [wordsOf_eq hd] at hw
      obtain ⟨i, hi, rfl⟩ := List.mem_map.mp hw
      have hlast : a / wordLen a + i ≤ (a + d.length - 1) / wordLen a := by
        have hfirst := Nat.div_le_div_right (c := wordLen a) (show a ≤ a + d.length - 1 by omega)
        rw [List.mem_range] at hi
        omega
      have hin := (Nat.le_div_iff_mul_le (by rcases wordLen_cases a with h | h <;> omega)).mp hlast
      exact State.accStatus_ok_wordLen hacc (Nat.mul_le_mul_right _ (Nat.le_add_right _ _)) (by omega)
    · rw [Nat.eq_zero_of_not_pos hd, wordsOf_zero] at hw
      cases hw
  simp only [hlen, State.writePart]

/-- An accepted write stores its data and nothing else. -/
theorem State.byte_writeWords {g a : Nat} {p : Bool} {d : Bytes} (hacc : s.accStatus a d.length = .ok) (c : Nat) :
    (s.writeWords g p a d).byte c = byteAfter a d c (s.byte c) := by
  rw [State.writeWords_eq_writeParts hacc]
  have hlen : 0 < wordLen a := by rcases wordLen_cases a with h | h <;> omega
  by_cases hd : 0 < d.length
  · rw [wordsOf_eq hd, s.byte_writeParts hlen _ (Nat.le_refl _) hd]
    have hend : a + d.length ≤ (a / wordLen a + ((a + d.length - 1) / wordLen a - a / wordLen a + 1)) * wordLen a := by
      rcases wordLen_cases a with h | h <;> rw [h] <;> omega
    rw [List.take_of_length_le (by omega)]
  · rw [Nat.eq_zero_of_not_pos hd, wordsOf_zero, byteAfter, if_neg (by omega)]
    rfl

theorem State.writeMem_accepted {g a : Nat} {d : Bytes} {p : Bool} (hacc : s.accStatus a d.length = .ok) (hinj : s.injArmed 14 g = false) :
    s.writeMem g a d p = (.ok, s.writeWords g p a d) := by
  simp [State.writeMem, hacc, hinj]

end

/-! ### One whole word (R403) -/

section
variable {s : State}

/-- Storing bytes changes the bytes and nothing else of the state. -/
theorem State.setBytes_cases (d : Bytes) : ∀ (s : State) (a : Nat), ∃ m, s.setBytes a d = { s with mem := { s.mem with bytes := m } } := by
  induction d with
  | nil => exact fun s _ => ⟨s.mem.bytes, rfl⟩
  | cons b d ih =>
    intro s a
    obtain ⟨m, hm⟩ := ih (s.setByte a b) (a + 1)
    exact ⟨m, hm⟩

theorem State.flipFor_unarmed {t : State} {cls : Nat} (h : t.rd (R.FLIP_ARMED cls) = 0) (w g : Nat) : t.flipFor cls w g = none := by
  simp [State.flipFor, h]

theorem State.writeWord_whole {g w : Nat} {d : Bytes} {p : Bool} (hlen : d.length = wordLen w)
    (hflip : s.rd (R.FLIP_ARMED (classOf (regionOf s.variant w))) = 0) :
    s.writeWord g w 0 d p = (s.setBytes w d).setWerr w { mask := 0, poison := p } := by
  have hflip' : ((s.setBytes w d).setWerr w { mask := 0, poison := p }).rd (R.FLIP_ARMED (classOf (regionOf s.variant w))) = 0 := by
    obtain ⟨m, hm⟩ := State.setBytes_cases d s w
    rw [hm]
    exact hflip
  simp only [State.writeWord, hlen, decide_true, Bool.and_self, if_true, State.flipFor_unarmed hflip']

theorem State.werr_setWerr_same (w : Nat) (e : WordErr) : (s.setWerr w e).werr w = e := smGet_set_same _ _ _ _

theorem State.bytesAt_setBytes (w : Nat) (d : Bytes) : (s.setBytes w d).bytesAt w d.length = d := by
  refine List.ext_getElem (by simp [State.bytesAt]) fun i _ hi => ?_
  simp only [State.bytesAt, List.getElem_map, List.getElem_range]
  exact State.byte_setBytes_in d s w i hi

/-- A word without a pattern reads its bytes as they are. -/
theorem State.wordData_maskless {w : Nat} (h : (s.werr w).mask = 0) : s.wordData w = s.bytesAt w (wordLen w) := by
  have hflip : wideFlip (s.werr w) (s.wordOutcome w) = 0 := by
    simp [wideFlip, h, badNibbles, bitsOf]
  simp [State.wordData, hflip]

/-- A word without a pattern reads as its bytes, whatever its outcome detects. -/
theorem State.readMem_wholeWord {g w n : Nat} (hn : wordLen w = n) (haligned : w % n = 0) (hacc : s.accStatus w n = .ok)
    (hinj : s.injArmed 14 g = false) (hmask : (s.werr w).mask = 0) :
    s.readMem g w n = ⟨.ok, s.bytesAt w n, (s.wordOutcome w).isPoison, s.detectWord w g (s.wordOutcome w)⟩ := by
  subst hn
  have htake : (s.bytesAt w (wordLen w)).take (wordLen w) = s.bytesAt w (wordLen w) :=
    List.take_of_length_le (by simp [State.bytesAt])
  simp [State.readMem, hacc, hinj, wordsOf_wholeWord haligned, State.wordData_maskless hmask, haligned, slice, htake]

/-- A whole word that an access writes stores its data and its poison, with no flip mask armed for its class. -/
theorem State.writeMem_wholeWord {g w : Nat} {d : Bytes} {p : Bool} (hlen : d.length = wordLen w) (haligned : w % wordLen w = 0)
    (hacc : s.accStatus w d.length = .ok) (hinj : s.injArmed 14 g = false)
    (hflip : s.rd (R.FLIP_ARMED (classOf (regionOf s.variant w))) = 0) :
    s.writeMem g w d p = (.ok, (s.setBytes w d).setWerr w { mask := 0, poison := p }) := by
  have hpart : s.writePart g p w d (wordLen w) w = s.writeWord g w 0 d p := by
    have hslice : slice d 0 (wordLen w) = d := by simp [slice, ← hlen]
    simp [State.writePart, hlen, hslice]
  rw [State.writeMem_accepted hacc hinj, State.writeWords_eq_writeParts hacc, hlen, wordsOf_wholeWord haligned, List.foldl_cons,
    List.foldl_nil, hpart, State.writeWord_whole hlen hflip]

/-- The outcome of a stored word of a code-protected class is its poison mark. -/
theorem State.wordOutcome_maskless {w : Nat} {p : Bool} (hclass : classOf (regionOf s.variant w) ≠ 8)
    (herr : s.werr w = { mask := 0, poison := p }) : (s.wordOutcome w).isPoison = p := by
  have hnone : badNibbles 0 = [] := by decide
  rw [State.wordOutcome, if_neg hclass, herr, codeOutcome, hnone]
  cases p <;> rfl

end

/-! ### What the code makes of a pattern (R402) -/

theorem bitsOf_nibble (m i : Nat) : bitsOf (4 * i + 3) (4 * i) m = m / 2 ^ (4 * i) % 16 := by
  have hwidth : 4 * i + 3 + 1 - 4 * i = 4 := by omega
  rw [bitsOf, hwidth, Nat.shiftRight_eq_div_pow]
  rfl

theorem mem_badNibbles {m i : Nat} : i ∈ badNibbles m ↔ i < 36 ∧ m / 2 ^ (4 * i) % 16 ≠ 0 := by
  simp only [badNibbles, List.mem_filter, List.mem_range, bitsOf_nibble, decide_eq_true_eq]

/-- A pattern in one nibble leaves every other nibble 0. -/
theorem nibble_shifted {x n i : Nat} (hx : x < 16) : x * 2 ^ (4 * n) / 2 ^ (4 * i) % 16 = if i = n then x else 0 := by
  have hsplit : ∀ j k, (2 : Nat) ^ (4 * (j + k)) = 2 ^ (4 * j) * 2 ^ (4 * k) := fun j k => by rw [← Nat.pow_add]; congr 1; omega
  rcases Nat.lt_trichotomy i n with hlt | rfl | hgt
  · obtain ⟨k, rfl⟩ := Nat.exists_eq_add_of_lt hlt
    have hlow : x * 2 ^ (4 * (i + k + 1)) = x * 2 ^ (4 * k) * 16 * 2 ^ (4 * i) := by
      rw [Nat.add_assoc, hsplit, hsplit k 1]
      ring
    rw [hlow, Nat.mul_div_cancel _ (Nat.two_pow_pos _), Nat.mul_mod_left, if_neg (by omega)]
  · rw [Nat.mul_div_cancel _ (Nat.two_pow_pos _), if_pos rfl, Nat.mod_eq_of_lt hx]
  · obtain ⟨k, rfl⟩ := Nat.exists_eq_add_of_lt hgt
    have hhigh : x * 2 ^ (4 * n) < 2 ^ (4 * (n + k + 1)) := by
      rw [Nat.add_assoc, hsplit, hsplit k 1, Nat.mul_comm]
      exact Nat.mul_lt_mul_of_pos_left (Nat.lt_of_lt_of_le hx (Nat.le_mul_of_pos_left _ (Nat.two_pow_pos _))) (Nat.two_pow_pos _)
    rw [Nat.div_eq_of_lt hhigh, if_neg (by omega)]

theorem badNibbles_shifted {x n : Nat} (hn : n < 36) (hpos : 0 < x) (hx : x < 16) : badNibbles (x * 2 ^ (4 * n)) = [n] := by
  have hnodup : (badNibbles (x * 2 ^ (4 * n))).Nodup := List.nodup_range.filter _
  have hperm : (badNibbles (x * 2 ^ (4 * n))).Perm [n] := by
    refine (List.perm_ext_iff_of_nodup hnodup (List.nodup_singleton n)).mpr fun i => ?_
    rw [mem_badNibbles, nibble_shifted hx, List.mem_singleton]
    split <;> omega
  exact List.perm_singleton.mp hperm

/-- A set bit shows in its nibble. -/
theorem badNibbles_ne_nil {m b : Nat} (hb : b < 144) (hset : m.testBit b = true) : badNibbles m ≠ [] := by
  refine List.ne_nil_of_mem (a := b / 4) (mem_badNibbles.mpr ⟨by omega, fun hzero => ?_⟩)
  have hbit : (m / 2 ^ (4 * (b / 4)) % 2 ^ 4).testBit (b % 4) = true := by
    rw [Nat.testBit_mod_two_pow, Nat.testBit_div_two_pow, Nat.mod_add_div b 4, hset]
    simp [Nat.mod_lt]
  rw [show (2 : Nat) ^ 4 = 16 from rfl, hzero, Nat.zero_testBit] at hbit
  cases hbit

theorem exists_bit_of_popCount {w m : Nat} (h : 0 < popCount w m) : ∃ b, b < w ∧ m.testBit b = true := by
  obtain ⟨b, hb⟩ := List.exists_mem_of_length_pos h
  exact ⟨b, by simpa using hb⟩

theorem codeOutcome_nibble {n x : Nat} (hn : n < 36) (hpos : 0 < x) (hx : x < 16) :
    codeOutcome { mask := x * 2 ^ (4 * n), poison := false } = .corrected n := by
  simp [codeOutcome, badNibbles_shifted hn hpos hx]

/-- One or two wrong bits lie in one nibble, which is corrected, or in more, which are reported. -/
theorem codeOutcome_twoBits {m : Nat} (hpos : 0 < popCount 144 m) (htwo : popCount 144 m ≤ 2) :
    codeOutcome { mask := m, poison := false } = .uncorrectable ∨
      ∃ n, n < 36 ∧ codeOutcome { mask := m, poison := false } = .corrected n := by
  obtain ⟨b, hb, hset⟩ := exists_bit_of_popCount hpos
  unfold codeOutcome
  dsimp only
  match hbad : badNibbles m with
  | [] => exact absurd hbad (badNibbles_ne_nil hb hset)
  | [n] => exact .inr ⟨n, (mem_badNibbles.mp (hbad ▸ List.mem_singleton_self n)).1, by simp⟩
  | _ :: _ :: _ => exact .inl (if_pos htwo)

/-! ### The error log (R414, R415) -/

section
variable (s : State)

theorem State.logError_full {a g x c k n : Nat} (h : s.mem.errLog.length = 64) :
    s.logError a g x c k n = if s.mem.lostSinceEmpty then s.bump R.LOG_LOST
      else { s.bump R.LOG_LOST with mem := { s.mem with lostSinceEmpty := true } }.event 0x2C05 0 [] :=
  if_neg (by omega)

theorem State.logError_full_errLog {a g x c k n : Nat} (h : s.mem.errLog.length = 64) :
    (s.logError a g x c k n).mem.errLog = s.mem.errLog ∧ (s.logError a g x c k n).mem.lostSinceEmpty = true := by
  rw [s.logError_full h]
  split
  · next hlost => exact ⟨rfl, hlost⟩
  · rw [State.event_mem]
    exact ⟨rfl, rfl⟩

theorem State.logError_full_lost {a g x c k n : Nat} (h : s.mem.errLog.length = 64) :
    (s.logError a g x c k n).rd R.LOG_LOST = min (s.rd R.LOG_LOST + 1) (2 ^ 32 - 1) := by
  rw [s.logError_full h]
  split
  · exact s.rd_bump_same _
  · rw [State.rd_event]
    exact s.rd_bump_same _

theorem State.logError_full_codes {a g x c k n : Nat} (h : s.mem.errLog.length = 64) :
    (s.logError a g x c k n).diag.raised.map RawEvent.code =
      s.diag.raised.map RawEvent.code ++ (if s.mem.lostSinceEmpty then [] else [0x2C05]) := by
  rw [s.logError_full h]
  split
  · rw [List.append_nil]; rfl
  · rw [State.event_codes]; rfl

theorem State.errPop_last {e : Nat} (h : s.mem.errLog = [e]) :
    s.errPop.2.mem.errLog = [] ∧ s.errPop.2.mem.lostSinceEmpty = false := by
  simp [State.errPop, h]

/-! ### What a detection counts (R402, R404, R414)

The counters of the memory classes lie above every other register that a detection writes. -/

theorem State.rd_logError_above {k : Nat} (hk : 0x2C1000 ≤ k) (a g x c kind n : Nat) : (s.logError a g x c kind n).rd k = s.rd k := by
  have hne : k ≠ R.LOG_LOST := Nat.ne_of_gt (Nat.lt_of_lt_of_le (by decide) hk)
  unfold State.logError
  dsimp only
  split
  · rfl
  · split
    · exact s.rd_bump_ne hne
    · rw [State.rd_event]
      exact s.rd_bump_ne hne

theorem State.rd_repairCandidate (row n : Nat) (u : Bool) (k : Nat) : (s.repairCandidate row n u).rd k = s.rd k := by
  unfold State.repairCandidate
  dsimp only
  split
  · rfl
  · split
    · rw [State.rd_event]; rfl
    · rfl

theorem State.rd_countRow (row k : Nat) : (s.countRow row).rd k = s.rd k := by
  unfold State.countRow
  dsimp only
  split
  · rw [State.rd_repairCandidate]; rfl
  · rfl

theorem State.rd_setDev_ne {k : Nat} (hk : k ≠ R.DEV_STATE) (n : Nat) : (s.setDev n).rd k = s.rd k := by
  unfold State.setDev
  dsimp only
  split
  · rfl
  · rw [State.rd_event, State.rd_wr_ne _ _ hk]

/-- The registers that a detection in a weights allocation can write (R417). -/
theorem State.rd_weightsHit_ne {k : Nat} (hpoison : k ≠ R.WT_POISON) (hstate : k ≠ R.WT_STATE) (hdev : k ≠ R.DEV_STATE) (a : Nat) :
    (s.weightsHit a).rd k = s.rd k := by
  unfold State.weightsHit
  extract_lets id
  split
  · split
    · rfl
    · next ids s1 s2 s3 _ _ _ _ _ =>
      split
      · rfl
      · have hs1 : s1.rd k = s.rd k := by
          simp only [s1]
          split
          · exact s.rd_wr_ne _ hpoison
          · rfl
        have hs2 : s2.rd k = s1.rd k := by
          simp only [s2]
          split
          · exact s1.rd_wr_ne 1 hstate
          · rfl
        have hs3 : s3.rd k = s2.rd k := by
          simp only [s3]
          split
          · exact s2.rd_setDev_ne hdev 3
          · rfl
        rw [State.rd_event]
        clear_value s3
        exact hs3.trans (hs2.trans hs1)
  · rfl

theorem State.rd_weightsHit_above {k : Nat} (hk : 0x2C1000 ≤ k) (a : Nat) : (s.weightsHit a).rd k = s.rd k :=
  s.rd_weightsHit_ne (Nat.ne_of_gt (Nat.lt_of_lt_of_le (by decide) hk)) (Nat.ne_of_gt (Nat.lt_of_lt_of_le (by decide) hk))
    (Nat.ne_of_gt (Nat.lt_of_lt_of_le (by decide) hk)) a

/-- A detection of a code word that leaves it bad is logged, may reach the weights, and may make its row a candidate; no counter of
a class changes after it was counted. -/
theorem State.rd_badWord_above {k : Nat} (hk : 0x2C1000 ≤ k) (a g x c kind n row ce : Nat) (b : Prop) [Decidable b] :
    (if b then ((s.logError a g x c kind n).weightsHit a).repairCandidate row ce true
      else (s.logError a g x c kind n).weightsHit a).rd k = s.rd k := by
  have hlogged : ((s.logError a g x c kind n).weightsHit a).rd k = s.rd k := by
    rw [State.rd_weightsHit_above _ hk, State.rd_logError_above _ hk]
  split
  · rw [State.rd_repairCandidate, hlogged]
  · exact hlogged

theorem State.rd_bump_detect_same (k nn g : Nat) (l : List (Nat × Nat)) :
    ((s.bump k).detect nn g l).rd k = min (s.rd k + 1) (2 ^ 32 - 1) := by
  rw [State.rd_detect, State.rd_bump_same]

theorem State.rd_detectWord_corrected (a g n : Nat) :
    (s.detectWord a g (.corrected n)).rd (R.CE_CNT (classOf (regionOf s.variant a))) =
      min (s.rd (R.CE_CNT (classOf (regionOf s.variant a))) + 1) (2 ^ 32 - 1) := by
  have hk : 0x2C1000 ≤ R.CE_CNT (classOf (regionOf s.variant a)) := by unfold R.CE_CNT; omega
  simp only [State.detectWord]
  have hlogged : ∀ t : State, (if s.rd R.CE_LOG = 1 then t.logError a g (if 8 ≤ classOf (regionOf s.variant a) then
        parityBits (if (s.werr a).poison = true then (s.werr a).mask ^^^ 255 * 2 ^ 64 else (s.werr a).mask)
        else Config.syndrome (s.werr a).mask) (classOf (regionOf s.variant a)) 1 n else t).rd
      (R.CE_CNT (classOf (regionOf s.variant a))) = t.rd (R.CE_CNT (classOf (regionOf s.variant a))) := fun t => by
    split
    · exact t.rd_logError_above hk _ _ _ _ _ _
    · rfl
  split
  · rw [State.rd_countRow, hlogged, State.rd_bump_detect_same]
  · rw [hlogged, State.rd_bump_detect_same]

theorem State.rd_detectWord_uncorrectable (a g : Nat) :
    (s.detectWord a g .uncorrectable).rd (R.UE_CNT (classOf (regionOf s.variant a))) =
      min (s.rd (R.UE_CNT (classOf (regionOf s.variant a))) + 1) (2 ^ 32 - 1) := by
  refine (State.rd_badWord_above _ ?_ _ _ _ _ _ _ _ _ _).trans (State.rd_bump_detect_same ..)
  unfold R.UE_CNT; omega

theorem State.rd_detectWord_mismatch (a g : Nat) :
    (s.detectWord a g .mismatch).rd (R.AMM_CNT (classOf (regionOf s.variant a))) =
      min (s.rd (R.AMM_CNT (classOf (regionOf s.variant a))) + 1) (2 ^ 32 - 1) := by
  refine (State.rd_badWord_above _ ?_ _ _ _ _ _ _ _ _ _).trans (State.rd_bump_detect_same ..)
  unfold R.AMM_CNT; omega

theorem State.rd_detectWord_parity (a g : Nat) :
    (s.detectWord a g .parity).rd (R.UE_CNT (classOf (regionOf s.variant a))) =
      min (s.rd (R.UE_CNT (classOf (regionOf s.variant a))) + 1) (2 ^ 32 - 1) := by
  simp only [State.detectWord]
  split
  · next hqueue =>
    rw [hqueue, State.rd_bump_detect_same, State.rd_bump_ne _ (by decide)]
  · rw [State.rd_logError_above _ (by unfold R.UE_CNT; omega), State.rd_bump_detect_same]

end

end Sys2Proof.Machine

namespace Sys2Proof.Proofs
open Sys2Proof.Machine

/-- Settles O23: the words of an accepted write store its data piece by piece, and no other byte. -/
theorem memoryWriteFrame : Obligations.MemoryWriteFrame := by
  intro s agent a d p hacc hinj
  rw [State.writeMem_accepted hacc hinj]
  refine ⟨rfl, fun i hi => ?_, fun c hc => ?_⟩
  · rw [State.byte_writeWords hacc, byteAfter, if_pos (by omega), Nat.add_sub_cancel_left, List.getD_eq_getElem]
  · rw [State.byte_writeWords hacc, byteAfter, if_neg (by omega)]

/-- Settles O24: the write leaves the data and the poison mark in the word, and the read answers both. -/
theorem wholeWordWrite : Obligations.WholeWordWrite := by
  intro s writer reader w d p haligned hd hclass hacc hwriter hreader hflip
  have hlen : wordLen w = 16 :=
    wordLen_of_not_inQueueMem (mt (classOf_regionOf_eq_eight_iff s.variant w).mpr (Nat.ne_of_lt hclass))
  rw [State.writeMem_wholeWord (hd.trans hlen.symm) (hlen ▸ haligned) (hd ▸ hacc) hwriter hflip]
  obtain ⟨m, hm⟩ := State.setBytes_cases d s w
  have herr : ((s.setBytes w d).setWerr w { mask := 0, poison := p }).werr w = { mask := 0, poison := p } :=
    State.werr_setWerr_same w _
  have hclass' : classOf (regionOf ((s.setBytes w d).setWerr w { mask := 0, poison := p }).variant w) ≠ 8 := by
    rw [hm]
    exact Nat.ne_of_lt hclass
  have hread := State.readMem_wholeWord (s := (s.setBytes w d).setWerr w { mask := 0, poison := p }) (g := reader) hlen haligned
    ((State.accStatus_congr (by rw [hm]; rfl) (by rw [hm]; rfl)).trans hacc) (by rw [hm]; exact hreader) (by rw [herr])
  dsimp only
  rw [hread]
  exact ⟨rfl, hd ▸ State.bytesAt_setBytes w d, State.wordOutcome_maskless hclass' herr⟩

/-- Settles O25: the code looks at the nibbles of the pattern that are not 0. -/
theorem codeOutcomes : Obligations.CodeOutcomes :=
  ⟨fun _ _ => codeOutcome_nibble, fun _ _ => codeOutcome_twoBits, by decide, by decide⟩

/-- Settles O26: the log loses the entry, and a detection counts before it logs. -/
theorem errorLogFull : Obligations.ErrorLogFull :=
  ⟨fun s _ _ _ _ _ _ h => ⟨(s.logError_full_errLog h).1, s.logError_full_lost h, s.logError_full_codes h, (s.logError_full_errLog h).2⟩,
    fun s _ h => s.errPop_last h,
    fun s a agent _ => ⟨s.rd_detectWord_corrected a agent, s.rd_detectWord_uncorrectable a agent, s.rd_detectWord_mismatch a agent,
      s.rd_detectWord_parity a agent⟩⟩

end Sys2Proof.Proofs
end

section
/-! PROOFS. Queues (chapter 13): the pointers' layout, a word through an empty queue, agents that are not the declared ones, and the
queue commands. -/
namespace Sys2Proof.Machine
open Sys2Proof.Laws

/-! ### A word pushed and popped (R381, R385, R387) -/

section
variable {s : State}

@[simp] theorem State.queue_setQueue_same (q : Nat) (v : Queue) : (s.setQueue q v).queue q = v := smGet_set_same _ _ _ _

@[simp] theorem State.queue_wr (k v q : Nat) : (s.wr k v).queue q = s.queue q := rfl

@[simp] theorem State.rd_setQueue (q : Nat) (v : Queue) (k : Nat) : (s.setQueue q v).rd k = s.rd k := rfl

/-- A queue with room below 2^19 words has its words in queue memory, each one whole. -/
theorem State.qAddr_inQueueMem {q : Nat} (hroom : s.rd (R.Q_BASE q) + s.qWords q ≤ 524288) (p : Nat) :
    inQueueMem (s.qAddr q p) ∧ s.qAddr q p % 8 = 0 := by
  have hslot : p % s.qWords q < s.qWords q := Nat.mod_lt _ (Nat.two_pow_pos _)
  unfold inQueueMem State.qAddr
  omega

theorem State.accStatus_queueWord {a : Nat} (h : inQueueMem a) (haligned : a % 8 = 0) : s.accStatus a 8 = .ok := by
  have hregion : ∀ b, inQueueMem b → regionOf s.variant b = .queueMem := fun b ⟨hlow, hhigh⟩ => by
    unfold regionOf
    iterate 9 rw [if_neg (by omega)]
    exact if_pos hhigh
  have hlast : inQueueMem (a + (8 - 1)) := by
    unfold inQueueMem at h ⊢
    omega
  simp [State.accStatus, State.storeOpen, hregion a h, hregion _ hlast, classOf, storeOf]

/-- A stored word of queue memory without errors reads clean. -/
theorem State.wordOutcome_queueWord {a : Nat} (h : inQueueMem a) (herr : s.werr a = { mask := 0, poison := false }) :
    s.wordOutcome a = .clean := by
  rw [State.wordOutcome, if_pos ((classOf_regionOf_eq_eight_iff _ _).mpr h), herr]
  decide

/-- What a store of a whole unpoisoned word leaves of an enabled queue outside packet mode, and in its memory (R381, R393). -/
structure Stored (s t : State) (q : Nat) (w : Bytes) : Prop where
  queue : t.queue q = { s.queue q with wp := s.qAdd q (s.queue q).wp 1, cp := s.qAdd q (s.queue q).wp 1 }
  rd : ∀ k, k ≠ R.Q_PEAK q → t.rd k = s.rd k
  inj : t.diag.inj = s.diag.inj
  bytes : t.bytesAt (s.qAddr q (s.queue q).wp) 8 = w
  werr : t.werr (s.qAddr q (s.queue q).wp) = { mask := 0, poison := false }

theorem State.qStore_stored {q : Nat} {w : Bytes} (hpkt : s.qPkt q = false) (hw : w.length = 8) (hflip : s.rd (R.FLIP_ARMED 8) = 0)
    (hroom : s.rd (R.Q_BASE q) + s.qWords q ≤ 524288) : Stored s (s.qStore q w false) q w := by
  obtain ⟨hmem, _⟩ := s.qAddr_inQueueMem hroom (s.queue q).wp
  have hclass := (classOf_regionOf_eq_eight_iff s.variant _).mpr hmem
  have hword := State.writeWord_whole (s := s) (g := s.rd (R.Q_PROD q)) (p := false) (hw.trans (wordLen_of_inQueueMem hmem).symm)
    (by rw [hclass]; exact hflip)
  obtain ⟨m, hm⟩ := State.setBytes_cases w s (s.qAddr q (s.queue q).wp)
  have hqueue : (s.setBytes (s.qAddr q (s.queue q).wp) w).queue q = s.queue q := by rw [hm]; rfl
  simp only [State.qStore, hword, hpkt]
  constructor
  · simp
  · intro k hk
    rw [State.rd_wr_ne _ _ hk, State.rd_setQueue, hm]
    rfl
  · rw [hm]
    rfl
  · rw [← hw]
    exact State.bytesAt_setBytes _ _
  · exact State.werr_setWerr_same _ _

end

section
variable {s t : State} {q : Nat} {w : Bytes}

theorem R.ne_qPeak (q : Nat) : R.Q_LOG2 q ≠ R.Q_PEAK q ∧ R.Q_BASE q ≠ R.Q_PEAK q ∧ R.Q_MODE q ≠ R.Q_PEAK q := by
  unfold R.Q_LOG2 R.Q_BASE R.Q_MODE R.Q_PEAK
  omega

theorem Stored.qWords (h : Stored s t q w) : t.qWords q = s.qWords q := by
  rw [State.qWords, h.rd _ (R.ne_qPeak q).1, State.qWords]

theorem Stored.qEnabled (h : Stored s t q w) : t.qEnabled q = s.qEnabled q := by
  rw [State.qEnabled, h.rd _ (R.ne_qPeak q).1, State.qEnabled]

theorem Stored.qAddr (h : Stored s t q w) (p : Nat) : t.qAddr q p = s.qAddr q p := by
  rw [State.qAddr, h.qWords, h.rd _ (R.ne_qPeak q).2.1, State.qAddr]

theorem Stored.qAdd (h : Stored s t q w) (a n : Nat) : t.qAdd q a n = s.qAdd q a n := by
  rw [State.qAdd, h.qWords, State.qAdd]

/-- The next pop of the word finds it where it was stored, clean. -/
theorem Stored.qTake (h : Stored s t q w) (hroom : s.rd (R.Q_BASE q) + s.qWords q ≤ 524288)
    (hempty : (s.queue q).rp = (s.queue q).wp) {g : Nat} (hinj : s.injArmed 14 g = false) :
    t.qTake q g = (w, false, t.setQueue q (if t.qHold q then { t.queue q with rp := (t.queue q).cp }
      else { t.queue q with rp := (t.queue q).cp, mp := (t.queue q).cp, lp := (t.queue q).cp })) := by
  obtain ⟨hmem, haligned⟩ := s.qAddr_inQueueMem hroom (s.queue q).wp
  have hclean := t.wordOutcome_queueWord hmem h.werr
  have hread := State.readMem_wholeWord (s := t) (g := g) (wordLen_of_inQueueMem hmem) haligned (t.accStatus_queueWord hmem haligned)
    (by rw [State.injArmed, h.inj]; exact hinj) (by rw [h.werr])
  rw [h.bytes, hclean] at hread
  have hrp : (t.queue q).rp = (s.queue q).wp := by rw [h.queue]; exact hempty
  have hcp : (t.queue q).cp = t.qAdd q (t.queue q).rp 1 := by rw [hrp, h.qAdd, h.queue]
  have haddr : t.qAddr q (t.queue q).rp = s.qAddr q (s.queue q).wp := by rw [hrp, h.qAddr]
  rw [State.qTake]
  simp only [haddr, hread, hcp]
  rfl

end

/-- One further on is one further, also where the pointer wraps. -/
theorem State.qSub_qAdd_one {s : State} {q a : Nat} (ha : a < 2 * s.qWords q) : s.qSub q (s.qAdd q a 1) a = 1 := by
  have hwords : 1 ≤ s.qWords q := Nat.two_pow_pos _
  unfold State.qSub State.qAdd
  rcases Nat.lt_or_ge (a + 1) (2 * s.qWords q) with hlt | hge
  · rw [Nat.mod_eq_of_lt hlt, show a + 1 + 2 * s.qWords q - a = 1 + 2 * s.qWords q by omega, Nat.add_mod_right,
      Nat.mod_eq_of_lt (by omega)]
  · rw [show a + 1 = 2 * s.qWords q by omega, Nat.mod_self, show 0 + 2 * s.qWords q - a = 1 by omega, Nat.mod_eq_of_lt (by omega)]

theorem State.qSub_self (s : State) (q a : Nat) : s.qSub q a a = 0 := by
  rw [State.qSub, Nat.add_sub_cancel_left, Nat.mod_self]

/-- A queue read up to its last committed word holds none. -/
theorem State.qCount_drained (s : State) {q : Nat} {v : Queue} (h : v.rp = v.cp) : (s.setQueue q v).qCount q = 0 := by
  rw [State.qCount, State.queue_setQueue_same, h, State.qSub_self]
  exact ite_self 0

/-! ### The pointers' layout (R396) -/

theorem bitsOf_field (lo n v : Nat) : bitsOf (lo + n) lo v = v / 2 ^ lo % 2 ^ (n + 1) := by
  rw [bitsOf, Nat.shiftRight_eq_div_pow, show lo + n + 1 - lo = n + 1 by omega]

theorem ne_dataPort {a : BitVec 16} (ha : a.toNat / 4096 ≠ 7) : a ≠ 0x7001#16 := fun h => ha (by rw [h]; rfl)

theorem toNat_ne_dataPort {a : BitVec 16} (ha : a ≠ 0x7001#16) : a.toNat ≠ 0x7001 := fun h => ha (BitVec.eq_of_toNat_eq h)

section
variable (q : Fin 256) (a : BitVec 16)

/-! ### Pushes and pops -/

theorem acts_qPush (d : Bytes) (p : Bool) (ha : a.toNat / 4096 ≠ 7) : Acts (.qPush q a d p) fun s => s.qPush q.val a.toNat d p :=
  Does.of_meaning (execQPush q a d p) (fun _ => rfl) (fun _ => rfl) fun _ _ => if_neg ha

theorem writes_qPush (d : Bytes) (p : Bool) (ha : a.toNat / 4096 = 7) :
    Writes (.qPush q a d p) (a.toNat % 4096 % 4) (0x2B00 + q.val) 0x20 d fun s => (s.qPush q.val a.toNat d p, 0) :=
  .of_meaning (execQPush q a d p) (fun _ => rfl) fun s => by simp only [execQPush, ha, if_true]

theorem does_qPush_foreign (d : Bytes) (p : Bool) (ha : a.toNat / 4096 ≠ 7) :
    Does (.qPush q a d p) (fun s => s.qEnabled q.val = true ∧ d.length % 8 = 0 ∧ agentMatches (s.rd (R.Q_PROD q.val)) a.toNat = false)
      (fun s => (s.bump (R.FOREIGN q.val)).event 0x2B04 a.toNat [(8, q.val)]) :=
  Does.of_meaning (execQPush q a d p) (fun _ => rfl) (fun _ => rfl) fun s ⟨hon, hwhole, hforeign⟩ => by
    simp [ha, State.qPush, hon, hwhole, hforeign, State.qForeign]

theorem does_qPop_foreign (n : Fin 257) (ha : a.toNat / 4096 ≠ 7) :
    Does (.qPop q a n) (fun s => s.qEnabled q.val = true ∧ agentMatches (s.rd (R.Q_CONS q.val)) a.toNat = false)
      (fun s => ((s.bump (R.FOREIGN q.val)).event 0x2B04 a.toNat [(8, q.val)]).emit (.popData a.toNat false (markers n.val))) :=
  Does.of_meaning (execQPop q a n) (fun _ => rfl) (fun _ => rfl) fun s ⟨hon, hforeign⟩ => by
    simp [ne_dataPort ha, toNat_ne_dataPort (ne_dataPort ha), ha, hon, hforeign, State.qForeign, State.popDone]

theorem does_qPop_consumer (n : Fin 257) (ha : a.toNat / 4096 ≠ 7) :
    Does (.qPop q a n)
      (fun s => s.qEnabled q.val = true ∧ agentMatches (s.rd (R.Q_CONS q.val)) a.toNat = true ∧ (s.queue q.val).wait = none)
      fun s => s.popServe q.val { agent := a.toNat, words := n.val, got := [], poison := false, since := s.tclk } :=
  Does.of_meaning (execQPop q a n) (fun _ => rfl) (fun _ => rfl) fun s ⟨hon, hdeclared, hidle⟩ => by
    simp [ne_dataPort ha, toNat_ne_dataPort (ne_dataPort ha), ha, hon, hdeclared, hidle]

theorem does_qPop_hostRoute (n : Fin 257) (d : Bytes) (p : Bool) (t : State) (ha : a.toNat / 4096 = 7) (hport : a ≠ 0x7001#16) :
    Does (.qPop q a n)
      (fun s => s.routeTakes (a.toNat % 4096) ∧ s.qEnabled q.val = true ∧ agentMatches (s.rd (R.Q_CONS q.val)) a.toNat = true ∧
        qTakeN q.val a.toNat n.val s = (d, p, t))
      fun _ => t.popDone q.val a.toNat (d ++ markers (n.val - d.length / 8)) p :=
  Does.of_meaning (execQPop q a n) (fun _ => rfl) (fun _ => rfl) fun s ⟨⟨hup, hfree⟩, hon, hdeclared, htaken⟩ => by
    simp [hport, toNat_ne_dataPort hport, ha, hup, hfree, hon, hdeclared, htaken]

/-! ### Waiting pops (R382, R389, R390) -/

theorem does_popResume (w : PopWait) :
    Does (.popResume q) (fun s => (s.queue q.val).wait = some w ∧ s.qCount q.val ≠ 0 ∧ w.agent ≠ 0x7001) fun s => s.popServe q.val w :=
  Does.of_meaning (execPopResume q) (fun _ => rfl) (fun _ => rfl) fun s ⟨hwait, hcount, hagent⟩ => by
    simp [hwait, hcount, hagent]

theorem does_qemptyTo (w : PopWait) :
    Does (.qemptyTo q)
      (fun s => (s.queue q.val).wait = some w ∧ w.agent = 0x7001 ∧ w.since + 8 * tclkUs ≤ s.tclk ∧ s.qCount q.val = 0)
      fun s => (s.qStat q.val 2).dpPopEnd q.val :=
  Does.of_meaning (execQemptyTo q) (fun _ => rfl) (fun _ => rfl) fun s ⟨hwait, hagent, hdue, hempty⟩ => by
    simp [hwait, hagent, Nat.not_lt_of_le hdue, hempty]

/-- Only the data port's pop would end with the reset of the pointers. -/
theorem does_queuePointerMismatch :
    Does (.queuePointerMismatch q) (fun s => (s.queue q.val).wait = none) fun s =>
      let x := s.queue q.val
      ((((s.setQueue q.val { Queue.empty with ignoring := x.ignoring || (s.qPkt q.val && x.wp ≠ x.cp) }).injHere 44 q.val).qStat q.val 5).bump
        R.QM_RESETS).detect 44 0 [(8, q.val)] :=
  Does.of_meaning (execQueuePointerMismatch q) (fun _ => rfl) (fun _ => rfl) fun s hidle => by
    simp only [hidle]
    rfl

end

/-! ### Controls (R387, R388) -/

theorem State.qControl_declared {s : State} {q agent sub declared : Nat} {f : State → State} (ha : agent / 4096 ≠ 7)
    (hon : s.qEnabled q = true) (hdeclared : agentMatches declared agent = true) : s.qControl q agent sub true declared f = f s := by
  simp [State.qControl, ha, hon, hdeclared]

theorem State.qControl_route {s : State} {q agent sub declared r : Nat} {f : State → State} (ha : agent = 0x7000 + r) (hr : r < 4)
    (htaken : s.takesWrite r (0x2B00 + q) sub (toLe 1 1)) (hon : s.qEnabled q = true) (hdeclared : agentMatches declared agent = true) :
    s.qControl q agent sub true declared f = (f s).written r (0x2B00 + q) sub (toLe 1 1) := by
  have hclass : agent / 4096 = 7 := by omega
  have hroute : agent % 4096 % 4 = r := by omega
  have hone : boolNat true = 1 := rfl
  simp only [State.qControl, hclass, if_true, hroute, hone]
  rw [s.hostWrite_taken htaken rfl]
  simp [hon, hdeclared]

section
variable {c : Instr} {q : Fin 256} {a : BitVec 16} {sub : Nat} {entry : Nat → Nat} {f : State → State}
  (m : State → Host.Outcome State Fault Refusal) (hexec : ∀ s, exec c s = m s)
  (hrun : ∀ s, m s = s.run fun s => s.qControl q.val a.toNat sub true (s.rd (entry q.val)) f)
include hexec hrun

/-- A control write of the declared agent does what the control does. -/
theorem Does.of_qControl (ha : a.toNat / 4096 ≠ 7) :
    Does c (fun s => s.qEnabled q.val = true ∧ agentMatches (s.rd (entry q.val)) a.toNat = true) f :=
  Does.of_meaning m hexec hrun fun _ ⟨hon, hdeclared⟩ => State.qControl_declared ha hon hdeclared

/-- Of a host route it is a write of the entry (R383). -/
theorem Does.of_qControl_route {r : Route} (ha : a.toNat = 0x7000 + r.val) :
    Does c
      (fun s => s.takesWrite r.val (0x2B00 + q.val) sub (toLe 1 1) ∧ s.qEnabled q.val = true ∧
        agentMatches (s.rd (entry q.val)) a.toNat = true)
      fun s => (f s).written r.val (0x2B00 + q.val) sub (toLe 1 1) :=
  Does.of_meaning m hexec hrun fun _ ⟨htaken, hon, hdeclared⟩ => State.qControl_route ha r.isLt htaken hon hdeclared

end

theorem commits_qFlush (r : Route) (q : Fin 256) (cr : CommitRec) :
    Commits (.qFlush r q cr) r.val (0x2B00 + q.val) 0x10 cr (qFlushCheck q.val) (qFlushApply q.val) :=
  .of_meaning (execQFlush r q cr) (fun _ => rfl) fun _ => rfl

theorem reads_qPeak (r : Route) (q : Fin 256) : Reads (.qPeak r q) r.val (0x2B00 + q.val) 9 fun s => s.qPeakRead q.val :=
  .of_meaning (execQPeak r q) (fun _ => rfl) fun _ => rfl

end Sys2Proof.Machine

namespace Sys2Proof.Proofs
open Sys2Proof.Machine

/-- Settles O21: the store leaves the word at the write pointer, where the empty queue's read pointer stands. -/
theorem pushThenPop : Obligations.PushThenPop := by
  intro s q agent w hon hpkt hw hwp hempty hflip hinj hroom _
  have h := State.qStore_stored hpkt hw hflip hroom
  have htake := h.qTake hroom hempty hinj
  dsimp only
  generalize s.qStore q w false = t at h htake
  refine ⟨?_, by rw [htake], by rw [htake], ?_⟩
  · rw [State.qCount, h.qEnabled, if_pos hon, h.queue]
    show t.qSub q (s.qAdd q (s.queue q).wp 1) (s.queue q).rp = 1
    rw [hempty, ← h.qAdd]
    exact State.qSub_qAdd_one (by rwa [h.qWords])
  · rw [htake]
    refine State.qCount_drained t ?_
    split <;> rfl

/-- Settles O20: each pointer takes 32 bits of the number. -/
theorem queuePointerLayout : Obligations.QueuePointerLayout := by
  intro s q hwp hcp hrp hmp hlp
  rw [bitsOf_field 0 31, bitsOf_field 32 31, bitsOf_field 64 31, bitsOf_field 96 31, bitsOf_field 128 31, bitsOf_field 160 31]
  unfold State.qPtrs
  dsimp only
  omega

/-- Settles O22: a foreign agent's push or pop is only counted and reported. -/
theorem foreignAgentIgnored : Obligations.ForeignAgentIgnored :=
  ⟨fun q a d p ha => does_qPush_foreign q a d p ha, fun q a n ha => does_qPop_foreign q a n ha,
    fun s q a => ⟨by rw [State.event_queues, State.bump_queues], by rw [State.event_mem, State.bump_mem]⟩⟩

/-- Settles O47: pushes and pops by the agent's class, controls as one operation of the declared agent. -/
theorem queueCommandsComplete : Obligations.QueueCommandsComplete :=
  ⟨acts_qPush, writes_qPush, does_qPop_consumer, does_qPop_hostRoute, does_popResume, does_qemptyTo,
    fun q a ha =>
      ⟨.of_qControl (execQCommit q a true) (fun _ => rfl) (fun _ => rfl) ha,
        .of_qControl (execQAbort q a true) (fun _ => rfl) (fun _ => rfl) ha,
        .of_qControl (execQMark q a true) (fun _ => rfl) (fun _ => rfl) ha,
        .of_qControl (execQRewind q a true) (fun _ => rfl) (fun _ => rfl) ha,
        .of_qControl (execQRelease q a true) (fun _ => rfl) (fun _ => rfl) ha⟩,
    fun _ q a ha =>
      ⟨.of_qControl_route (execQCommit q a true) (fun _ => rfl) (fun _ => rfl) ha,
        .of_qControl_route (execQRelease q a true) (fun _ => rfl) (fun _ => rfl) ha⟩,
    commits_qFlush, reads_qPeak, does_queuePointerMismatch⟩

end Sys2Proof.Proofs
end

section
/-! PROOFS. Pins, resets, Keeper's start and initialisation passes (R407, R491, R494, R533, R535, R536, R539); domains, clocks,
temperature and supplies (R527, R531, R534, R552); the faults of Keeper, of the DRAM and of the TRNG (R490, R512, R513). -/
namespace Sys2Proof.Machine

/-! ### The pin `PORST_N` (R535, R539) -/

section
variable {s : State}

/-- The ROM starts at a release only once, unless the pin was low. -/
theorem execPorstNRelease_starts (env : BootEnv) (h : s.power.booted = false ∨ s.power.porstLow = true) :
    execPorstNRelease env s = .next (s.after (s.fresh.romBoot env)) := by
  unfold execPorstNRelease
  rcases h with h | h <;> simp [h]

theorem execPorstNAssert_long {n : Nat} (h : 200 ≤ n) :
    execPorstNAssert n s = .next { State.reset with
      variant := s.variant, nv := s.nv, free := s.free, pending := s.pending, power := { Power.reset with porstLow := true } } :=
  if_neg (Nat.not_lt_of_le h)

theorem execPorstNAssert_short {n : Nat} (h : n < 200) : execPorstNAssert n s = .next s.fresh := if_pos h

end

/-! ### The narrower resets, clocks that lock, Keeper's start -/

theorem acts_sysrstNAssert_long {n : Nat} (env : BootEnv) (h : 200 ≤ n) : Acts (.sysrstNAssert n env) fun s => s.sysReset 2 env :=
  Does.of_meaning (execSysrstNAssert n env) (fun _ => rfl) (fun _ => rfl) fun _ _ => if_neg (Nat.not_lt_of_le h)

theorem acts_sysrstNAssert_short {n : Nat} (env : BootEnv) (h : n < 200) : Acts (.sysrstNAssert n env) fun s => s :=
  Does.of_meaning (execSysrstNAssert n env) (fun _ => rfl) (fun _ => rfl) fun _ _ => if_pos h

theorem commits_swReset (r : Route) (cr : CommitRec) (env : BootEnv) :
    Commits (.swReset r cr env) r.val 0x3000 0x10 cr swResetCheck (swResetApply env) :=
  .of_meaning (execSwReset r cr env) (fun _ => rfl) fun _ => rfl

theorem acts_pllLock (k : Fin 8) : Acts (.pllLock k) fun s => s.wr R.CLK_LOCK (setBit (s.rd R.CLK_LOCK) k.val) :=
  .of_meaning (execPllLock k) (fun _ => rfl) fun _ => rfl

theorem does_keeperStart (b : BootImage) (t u : Bool) :
    Does (.keeperStart t u) (fun s => s.dome.boot = some b ∧ s.diag.keeperRun = false) fun s => s.startKeeper b t u :=
  Does.of_meaning (execKeeperStart t u) (fun _ => rfl) (fun _ => rfl) fun s ⟨hboot, hstopped⟩ => by simp [hboot, hstopped]

theorem writes_bootGo (r : Route) : Writes (.bootGo r) r.val 0x2E00 0x0C (toLe 1 1) State.bootGo :=
  .of_meaning (execBootGo r) (fun _ => rfl) fun _ => rfl

/-! ### Initialisation passes (R407) -/

section
variable (n : Fin 169)

theorem does_initPassComplete_opens :
    Does (.initPassComplete n true) (fun s => s.passRuns n.val = true ∧ s.injArmed 17 n.val = false) fun s => s.passComplete n.val :=
  Does.of_meaning (execInitPassComplete n true) (fun _ => rfl) (fun _ => rfl) fun s ⟨hruns, hinj⟩ => by simp [hruns, hinj]

theorem does_initPassComplete_fails :
    Does (.initPassComplete n false) (fun s => s.passRuns n.val = true)
      fun s => ((s.injHere 17 n.val).detect 17 0 []).failDevice :=
  Does.of_meaning (execInitPassComplete n false) (fun _ => rfl) (fun _ => rfl) fun s hruns => by simp [hruns]

end

/-! ### Domains (R527) -/

theorem writes_pdOn (r : Route) (m o : BitVec 32) :
    Writes (.pdOn r m o) r.val 0x3000 2 (toLe 4 m.toNat) fun s => s.pdOnReq r.val m.toNat o.toNat :=
  .of_meaning (execPdOn r m o) (fun _ => rfl) fun _ => rfl

theorem writes_pdOff (r : Route) (m o : BitVec 32) :
    Writes (.pdOff r m o) r.val 0x3000 3 (toLe 4 m.toNat) fun s => s.pdOffReq r.val m.toNat o.toNat :=
  .of_meaning (execPdOff r m o) (fun _ => rfl) fun _ => rfl

theorem does_domainSwitchDone (d : Fin 32) :
    Does (.domainSwitchDone d) (fun s => s.power.switching.contains d.val = true) fun s => s.switchDone d.val :=
  Does.of_meaning (execDomainSwitchDone d) (fun _ => rfl) (fun _ => rfl) fun s hswitching => by
    rw [hswitching]
    rfl

/-! ### The environment (R531, R534, R552) -/

theorem acts_clockOutOfRange (k : Fin 7) (h3 : k.val ≠ 3) (h4 : k.val ≠ 4) :
    Acts (.clockOutOfRange k) fun s =>
      let t := (((s.wr R.CLK_FAULT (setBit (s.rd R.CLK_FAULT) k.val)).injHere 5 k.val).detect 5 0 [(8, k.val)]).envCondition 0
      if k.val = 6 then t.keeperHold else t.deepAbortAll :=
  Does.of_meaning (execClockOutOfRange k) (fun _ => rfl) (fun _ => rfl) fun _ _ => if_neg (by simp [h3, h4])

theorem acts_xtal25Fault :
    Acts .xtal25Fault fun s =>
      let t := ((s.injHere 6 0).detect 6 0 []).envCondition 1
      (({ t with power := { t.power with refInternal := true } }.merHoldover).enterSafe).deepAbortAll :=
  .of_meaning execXtal25Fault (fun _ => rfl) fun _ => rfl

theorem does_tjWarnExceeded (v : Int) :
    Does (.tjWarnExceeded v) (fun s => s.injArmed 7 0 = false ∧ s.rdI 16 R.TJ_WARN < v) fun s => (s.sampleTj v).detect 7 0 [] :=
  Does.of_meaning (execTjWarnExceeded v) (fun _ => rfl) (fun _ => rfl) fun s ⟨hinj, hwarm⟩ => by
    simp [hinj, hwarm, s.injHere_unarmed hinj]

theorem does_overTemperature (v : Int) :
    Does (.overTemperature v) (fun s => s.injArmed 8 0 = false ∧ 125 < v) fun s =>
      let t := ((s.sampleTj v).detect 8 0 []).envCondition 2
      ({ t with power := { t.power with clkStopped := true } }.enterSafe).deepAbortAll :=
  Does.of_meaning (execOverTemperature v) (fun _ => rfl) (fun _ => rfl) fun s ⟨hinj, hhot⟩ => by
    simp [hinj, Int.not_le.mpr hhot, s.injHere_unarmed hinj]

theorem acts_supplyOutOfWindow (n : Fin 8) :
    Acts (.supplyOutOfWindow n) fun s =>
      ((((s.injHere 9 0).wr R.VMON_FLT (setBit (s.rd R.VMON_FLT) n.val)).detect 9 0 [(8, n.val)]).envCondition 3).enterSafe.deepAbortAll :=
  .of_meaning (execSupplyOutOfWindow n) (fun _ => rfl) fun _ => rfl

theorem acts_vmonFltClear (n : Fin 8) : Acts (.vmonFltClear n) fun s => s.wr R.VMON_FLT (clearBit (s.rd R.VMON_FLT) n.val) :=
  .of_meaning (execVmonFltClear n) (fun _ => rfl) fun _ => rfl

theorem does_envHoldEnd :
    Does .envHoldEnd (fun s => s.rd R.ENV_HOLD ≠ 0) fun s =>
      let t := ((s.wr R.ENV_HOLD 0).wr R.CLK_FAULT 0).event 0x3004 0 [(8, 1)]
      { t with power := { t.power with clkStopped := false, refInternal := false },
               diag := { t.diag with keeperHeld := t.diag.keeperHeld && (t.rd R.FAULT_CAUSE).testBit 4 } }.deepResume :=
  Does.of_meaning execEnvHoldEnd (fun _ => rfl) (fun _ => rfl) fun _ hheld => if_neg hheld

/-! ### Faults of Keeper, the DRAM and the TRNG (R490, R512, R513) -/

section
variable {c : Instr} {nn : Nat} (m : State → Host.Outcome State Fault Refusal) (hexec : ∀ s, exec c s = m s)
  (hrun : ∀ s, m s = s.run fun s => if !s.keeperUp then s else ((s.injHere nn 0).detect nn 0x6000 []).keeperDown)
include hexec hrun

/-- A detector of Keeper holds it only while it runs. -/
theorem Does.of_keeperFault : Does c (fun s => s.keeperUp = true) fun s => ((s.injHere nn 0).detect nn 0x6000 []).keeperDown :=
  Does.of_meaning m hexec hrun fun s hup => by simp [hup]

end

theorem does_keeperRestart_runs :
    Does (.keeperRestart true)
      (fun s => s.diag.keeperHeld = true ∧ s.diag.keeperRun = true ∧ (s.rd R.CLK_FAULT).testBit 6 = false ∧
        (s.rd R.FAULT_CAUSE).testBit 4 = false ∧ s.diag.restarts.length < 4 ∧ s.injArmed 4 0 = false)
      fun s => { s with diag := { s.diag with keeperHeld := false } } :=
  Does.of_meaning (execKeeperRestart true) (fun _ => rfl) (fun _ => rfl) fun s ⟨hheld, hstarted, hclock, hcause, hfew, hinj⟩ => by
    simp [hheld, hstarted, hclock, hcause, Nat.not_le_of_lt hfew, hinj]

theorem does_keeperRestart_badDigest :
    Does (.keeperRestart false)
      (fun s => s.diag.keeperHeld = true ∧ s.diag.keeperRun = true ∧ (s.rd R.CLK_FAULT).testBit 6 = false ∧
        (s.rd R.FAULT_CAUSE).testBit 4 = false)
      fun s => (((s.injHere 4 0).detect 4 0x6000 []).wr R.FAULT_CAUSE (setBit (s.rd R.FAULT_CAUSE) 4)).failDevice :=
  Does.of_meaning (execKeeperRestart false) (fun _ => rfl) (fun _ => rfl) fun s ⟨hheld, hstarted, hclock, hcause⟩ => by
    simp [hheld, hstarted, hclock, hcause]

theorem does_dramStackFailure (k : Fin 2) :
    Does (.dramStackFailure k) (fun s => s.variant ≠ 1 ∨ k.val = 0)
      fun s => ((s.injHere 16 k.val).detect 16 0 [(8, k.val)]).failDevice :=
  Does.of_meaning (execDramStackFailure k) (fun _ => rfl) (fun _ => rfl) fun s hpresent => if_neg fun habsent => by
    simp only [Bool.and_eq_true, decide_eq_true_eq] at habsent
    omega

theorem acts_trngHealthFail :
    Acts .trngHealthFail fun s => ((s.injHere 71 0).wr R.DOME_FLT (setBit (s.rd R.DOME_FLT) 1)).detect 71 0 [] :=
  .of_meaning execTrngHealthFail (fun _ => rfl) fun _ => rfl

end Sys2Proof.Machine

namespace Sys2Proof.Proofs
open Sys2Proof.Machine

/-- Settles O30: a pin acts by how long it is low, a start and a pass by what waits for them. -/
theorem resetAndBootComplete : Obligations.ResetAndBootComplete :=
  ⟨fun env _ h => execPorstNRelease_starts env h, fun _ _ h => execPorstNAssert_long h, fun _ _ h => execPorstNAssert_short h,
    fun _ env h => acts_sysrstNAssert_long env h, fun _ env h => acts_sysrstNAssert_short env h, commits_swReset, acts_pllLock,
    does_keeperStart, does_initPassComplete_opens, does_initPassComplete_fails, writes_bootGo⟩

/-- Settles O31: the requests of domains are writes of their route, and a condition of the environment acts on its own detector. -/
theorem powerCommandsComplete : Obligations.PowerCommandsComplete :=
  ⟨writes_pdOn, writes_pdOff, does_domainSwitchDone, acts_clockOutOfRange, acts_xtal25Fault, does_tjWarnExceeded,
    does_overTemperature, acts_supplyOutOfWindow, acts_vmonFltClear, does_envHoldEnd⟩

/-- Settles O32: a fault of Keeper that runs takes it down, a restart needs a good digest and few restarts before it. -/
theorem keeperFaultsComplete : Obligations.KeeperFaultsComplete :=
  ⟨.of_keeperFault execKeeperLockstepMismatch (fun _ => rfl) fun _ => rfl,
    .of_keeperFault execKeeperWatchdog (fun _ => rfl) fun _ => rfl,
    .of_keeperFault execKeeperMachineCheck (fun _ => rfl) fun _ => rfl,
    does_keeperRestart_runs, does_keeperRestart_badDigest, does_dramStackFailure, acts_trngHealthFail⟩

end Sys2Proof.Proofs
end

section
/-! PROOFS. The commands of memory protection (chapter 14): scrubbers, passes, the error log, weights and flip masks; and of the PCIe link
and the host (chapter 15). -/
namespace Sys2Proof.Machine

/-! ### Scrubbers and passes (R408, R411, R413) -/

theorem does_scrubberSlot (k : Fin 3) (c : Fin 16) (m : BitVec 144) :
    Does (.scrubberSlot k c m)
      (fun s => s.scrubberOwns k.val c.val = true ∧ (k.val = 2 → c.val < 2) ∧ (k.val = 1 → s.variant ≠ 1) ∧ s.mem.verify = none ∧
        s.storeOpen (if k.val = 2 then 166 else k.val) = true)
      fun s => s.scrubSlot k.val c.val m.toNat := by
  refine Does.of_meaning (execScrubberSlot k c m) (fun _ => rfl) (fun _ => rfl) fun s ⟨howns, hplate, hsecond, hverify, hopen⟩ => ?_
  have hchannel : (decide (k.val = 2) && decide (2 ≤ c.val)) = false := by
    by_cases hk : k.val = 2
    · simp [Nat.not_le_of_lt (hplate hk)]
    · simp [hk]
  have hstack : (decide (k.val = 1) && decide (s.variant = 1)) = false := by
    by_cases hk : k.val = 1
    · simp [hsecond hk]
    · simp [hk]
  simp only [howns, hchannel, hstack, hverify, hopen]
  simp

theorem writes_scrubReq (r : Route) (d : Bytes) : Writes (.scrubReq r d) r.val 0x2C00 0x0C d fun s => s.scrubReq d :=
  .of_meaning (execScrubReq r d) (fun _ => rfl) fun _ => rfl

theorem does_scrubPassEnd (q : PassReq) (l : List PassReq) :
    Does .scrubPassEnd (fun s => s.mem.passes = q :: l) fun s => s.endPass q l :=
  Does.of_meaning execScrubPassEnd (fun _ => rfl) (fun _ => rfl) fun s hpasses => by simp only [hpasses]

theorem does_scrubPassEnd_none : Does .scrubPassEnd (fun s => s.mem.passes = []) fun s => s :=
  Does.of_meaning execScrubPassEnd (fun _ => rfl) (fun _ => rfl) fun s hnone => by simp only [hnone]

/-! ### The error log, weights and flip masks (R414, R418, R419) -/

theorem reads_errPop (r : Route) : Reads (.errPop r) r.val 0x2C00 3 State.errPop :=
  .of_meaning (execErrPop r) (fun _ => rfl) fun _ => rfl

theorem writesKeeper_wtClear (r : Route) (i : BitVec 16) :
    WritesKeeper (.wtClear r i) r.val 0x2C00 7 (toLe 2 i.toNat) fun s => s.wtClear i.toNat :=
  .of_meaning (execWtClear r i) (fun _ => rfl) (.wtClear i.toNat) fun _ => rfl

theorem does_wtVerifyDone (i : Nat) : Does .wtVerifyDone (fun s => s.mem.verify = some i) fun s => s.endVerify i :=
  Does.of_meaning execWtVerifyDone (fun _ => rfl) (fun _ => rfl) fun s hverify => by simp only [hverify]

theorem does_degradedEnd :
    Does .degradedEnd (fun s => s.mem.degradedEnds = true) fun s =>
      let t := { s with mem := { s.mem with degradedEnds := false } }.wr R.WT_STATE 0
      (if t.rd R.DEV_STATE = 3 then t.setDev 2 else t).event 0x2C04 0 [] :=
  Does.of_meaning execDegradedEnd (fun _ => rfl) (fun _ => rfl) fun s hends => if_neg (by simp [hends])

theorem commits_flipMask (r : Route) (c : Fin 12) (cr : CommitRec) :
    Commits (.flipMask r c cr) r.val (0x2C10 + c.val) 1 cr flipMaskCheck (flipMaskApply c.val) :=
  .of_meaning (execFlipMask r c cr) (fun _ => rfl) fun _ => rfl

/-! ### The PCIe link (R428 to R430, R442) -/

theorem acts_pcieReset (k : PcieResetKind) : Acts (.pcieReset k) fun s => s.pcieReset k :=
  .of_meaning (execPcieReset k) (fun _ => rfl) fun _ => rfl

theorem does_pcieTrained (g : Fin 5) (w : Fin 9) :
    Does (.pcieTrained g w) (fun s => g.val ≠ 0 ∧ laneWidth w.val = true ∧ s.entryPowered 0x2D00 = true) fun s =>
      let t := ((s.wr R.PCIE_STATE 2).wr R.PCIE_SPEED g.val).wr R.PCIE_WIDTH w.val
      if g.val < 4 ∨ w.val < 8 then t.event 0x2D02 0 [] else t :=
  Does.of_meaning (execPcieTrained g w) (fun _ => rfl) (fun _ => rfl) fun s ⟨hgen, hwidth, hpowered⟩ => by
    simp only [hgen, hwidth, hpowered, Bool.or_eq_true, decide_eq_true_eq]
    rfl

theorem acts_pcieUncorrectable : Acts .pcieUncorrectable fun s => ((s.injHere 32 0).bump R.AER_UE).detect 32 0 [] :=
  .of_meaning execPcieUncorrectable (fun _ => rfl) fun _ => rfl

theorem acts_correctableAerError : Acts .correctableAerError fun s => s.bump R.AER_CE :=
  .of_meaning execCorrectableAerError (fun _ => rfl) fun _ => rfl

theorem acts_busMasterEnable (b d : Bool) :
    Acts (.busMasterEnable b d) fun s => (s.mapHost fun h => { h with bme := b, d3hot := !d }).sendHeld :=
  .of_meaning (execBusMasterEnable b d) (fun _ => rfl) fun _ => rfl

theorem acts_msixUnmask (v : Fin 256) :
    Acts (.msixUnmask v) fun s =>
      (s.mapHost fun h => { h with vecMask := smSet (fun _ => true) h.vecMask v.val false }).sendHeld :=
  .of_meaning (execMsixUnmask v) (fun _ => rfl) fun _ => rfl

/-! ### The host's heartbeat (R452) -/

theorem writes_hostHb (r : Route) : Writes (.hostHb r) r.val 0x2D00 5 [1] fun s => (s.hostBeat, 0) :=
  .of_meaning (execHostHb r) (fun _ => rfl) fun _ => rfl

theorem does_hostTmo_late (t : Nat) :
    Does .hostTmo (fun s => s.host.hbTime = some t ∧ t + s.rd R.HOST_TMO * tclkUs < s.tclk)
      fun s => s.mapHost fun h => { h with hbTime := none } :=
  Does.of_meaning execHostTmo (fun _ => rfl) (fun _ => rfl) fun s ⟨hbeat, hlate⟩ => by simp [hbeat, Nat.not_le_of_lt hlate]

theorem does_hostTmo_early (t : Nat) :
    Does .hostTmo (fun s => s.host.hbTime = some t ∧ s.tclk ≤ t + s.rd R.HOST_TMO * tclkUs) fun s => s :=
  Does.of_meaning execHostTmo (fun _ => rfl) (fun _ => rfl) fun s ⟨hbeat, hearly⟩ => by simp [hbeat, hearly]

end Sys2Proof.Machine

namespace Sys2Proof.Proofs
open Sys2Proof.Machine

/-- Settles O53: a scrubber works in a slot it owns, a pass or a verification ends what waits for it. -/
theorem memoryCommandsComplete : Obligations.MemoryCommandsComplete :=
  ⟨does_scrubberSlot, writes_scrubReq, does_scrubPassEnd, does_scrubPassEnd_none, reads_errPop, writesKeeper_wtClear,
    does_wtVerifyDone, does_degradedEnd, commits_flipMask⟩

/-- Settles O54: the link's conditions act at once, and the heartbeat ends when its time has passed. -/
theorem hostLinkComplete : Obligations.HostLinkComplete :=
  ⟨acts_pcieReset, does_pcieTrained, acts_pcieUncorrectable, acts_correctableAerError, acts_busMasterEnable, acts_msixUnmask,
    writes_hostHb, does_hostTmo_late, does_hostTmo_early⟩

end Sys2Proof.Proofs
end

section
/-! PROOFS. Requests of any entry on a route, deferred requests and the counter record (R461, R465, R467, R473, R475, R477, R481), and
the CANopen and UDP routes (R469 to R471). -/
namespace Sys2Proof.Machine

/-! ### Write requests of any entry (R461, R467, R473, R477) -/

section
variable {s t : State} {r idx sub c : Nat} {d : Bytes}

theorem State.routeWrite_answered (htakes : s.routeTakes r) (hreq : s.reqWrite r idx sub d (.write idx sub d) = (t, c)) :
    s.routeWrite r idx sub d = (t.answer r idx sub c).applySettings := by
  obtain ⟨hup, hturn⟩ := htakes
  simp [State.routeWrite, hup, hturn, hreq]

/-- Outside the `DW_GO` entries a write acts on its own entry. -/
theorem State.reqWrite_entry (q : DefReq) (hother : idx < 0x2010 ∨ 0x2013 < idx ∨ sub ≠ 9) :
    s.reqWrite r idx sub d q = s.writeEntry r idx sub d q :=
  if_neg (by simp only [Bool.and_eq_true, decide_eq_true_eq]; omega)

/-- A write of `DW_GO` of buffer `k` that no check refuses acts on the buffer's target. -/
theorem State.reqWrite_dwGo {k : Nat} (q : DefReq) (hk : k < 4) (hreason : s.writeReason (0x2010 + k) 9 d = 0) :
    s.reqWrite r (0x2010 + k) 9 d q = s.dwGo r k (leNat d) := by
  have hlast : 0x2010 + k ≤ 0x2013 := by omega
  simp [State.reqWrite, hlast, hreason]

theorem State.writeEntry_cw (q : DefReq) (hcw : isCw idx sub = true) (hreason : s.writeReason idx sub d = 0) :
    s.writeEntry r idx sub d q = (s.setShadow r (some (entryKey idx sub, d)), 0) := by
  simp [State.writeEntry, hcw, State.shadowWrite, hreason]

theorem State.answer_ok : s.answer r idx sub 0 = s.succeed r := by
  simp [State.answer]

end

theorem does_registerWrite (r : Route) (i : BitVec 16) (b : BitVec 8) (d : Bytes) (t : State) (c : Nat) :
    Does (.registerWrite r i b d)
      (fun s => s.routeTakes r.val ∧ s.reqWrite r.val i.toNat b.toNat d (.write i.toNat b.toNat d) = (t, c))
      fun _ => (t.answer r.val i.toNat b.toNat c).applySettings :=
  Does.of_meaning (execRegisterWrite r i b d) (fun _ => rfl) (fun _ => rfl) fun _ ⟨htakes, hreq⟩ =>
    State.routeWrite_answered htakes hreq

theorem does_cwShadowWrite (r : Route) (i : BitVec 16) (b : BitVec 8) (d : Bytes) (hcw : isCw i.toNat b.toNat = true)
    (hother : i.toNat < 0x2010 ∨ 0x2013 < i.toNat ∨ b.toNat ≠ 9) :
    Does (.cwShadowWrite r i b d) (fun s => s.takesWrite r.val i.toNat b.toNat d)
      fun s => ((s.setShadow r.val (some (entryKey i.toNat b.toNat, d))).succeed r.val).applySettings :=
  Does.of_meaning (execCwShadowWrite r i b d) (fun _ => rfl) (fun _ => rfl) fun s ⟨hup, hturn, hreason⟩ => by
    have hreq := (s.reqWrite_entry (r := r.val) (d := d) (.write i.toNat b.toNat d) hother).trans (State.writeEntry_cw _ hcw hreason)
    rw [if_pos hcw, State.routeWrite_answered ⟨hup, hturn⟩ hreq, State.answer_ok]

/-- A write of `v` to a route's own `DW_GO`. -/
theorem State.routeWrite_dwGo {s t : State} {r : Route} {d : Bytes} {c : Nat} (htaken : s.takesWrite r.val (0x2010 + r.val) 9 d)
    (hgo : s.dwGo r.val r.val (leNat d) = (t, c)) :
    s.routeWrite r.val (0x2010 + r.val) 9 d = (t.answer r.val (0x2010 + r.val) 9 c).applySettings := by
  obtain ⟨hup, hturn, hreason⟩ := htaken
  exact State.routeWrite_answered ⟨hup, hturn⟩ ((State.reqWrite_dwGo _ r.isLt hreason).trans hgo)

theorem does_dwGoRead (r : Route) (t : State) (c : Nat) :
    Does (.dwGoRead r) (fun s => s.takesWrite r.val (0x2010 + r.val) 9 [1] ∧ s.dwGo r.val r.val 1 = (t, c))
      fun _ => (t.answer r.val (0x2010 + r.val) 9 c).applySettings :=
  Does.of_meaning (execDwGoRead r) (fun _ => rfl) (fun _ => rfl) fun _ ⟨htaken, hgo⟩ => State.routeWrite_dwGo htaken hgo

theorem does_dwGoWrite (r : Route) (t : State) (c : Nat) :
    Does (.dwGoWrite r) (fun s => s.takesWrite r.val (0x2010 + r.val) 9 [2] ∧ s.dwGo r.val r.val 2 = (t, c))
      fun _ => (t.answer r.val (0x2010 + r.val) 9 c).applySettings :=
  Does.of_meaning (execDwGoWrite r) (fun _ => rfl) (fun _ => rfl) fun _ ⟨htaken, hgo⟩ => State.routeWrite_dwGo htaken hgo

/-! ### Deferred requests (R475) -/

/-- A request that writes nothing leaves its effect to its end, whatever the draw. -/
theorem does_deferredStart_read (r k : Nat) (q : DefReq) (l : List (Nat × DefReq × Nat)) (hread : q.writes = false) :
    Does .deferredStart
      (fun s => s.routes.queue = (r, q, k) :: l ∧ s.keeperUp = true ∧ s.routes.started = none ∧ s.dome.waitCommit = none)
      fun s => ({ s with routes := { s.routes with queue := l } } : State).draw.2.setStarted (some (r, q, none)) :=
  Does.of_meaning execDeferredStart (fun _ => rfl) (fun _ => rfl) fun s ⟨hqueue, hup, hidle, hcommit⟩ => by
    simp [hqueue, hup, hidle, hcommit, hread]

theorem does_deferredDone (r : Nat) (q : DefReq) (a : ReadAns) (hdone : a.reason ≠ queuedReason) :
    Does .deferredDone
      (fun s => s.routes.started = some (r, q, none) ∧ s.keeperUp = true ∧ s.dome.waitCommit = none ∧ s.runDef r q = a)
      fun s => s.defEnd r q a :=
  Does.of_meaning execDeferredDone (fun _ => rfl) (fun _ => rfl) fun s ⟨hstarted, hup, hcommit, hrun⟩ => by
    simp [hstarted, hup, hcommit, hrun, hdone]

theorem does_deferredDone_none : Does .deferredDone (fun s => s.routes.started = none) fun s => s :=
  Does.of_meaning execDeferredDone (fun _ => rfl) (fun _ => rfl) fun s hnone => by simp only [hnone]

theorem acts_defTimeout :
    Acts .defTimeout fun s => ((defExpire s.routes.queue { s with routes := { s.routes with queue := [] } }).applySettings).dpResume :=
  .of_meaning execDefTimeout (fun _ => rfl) fun _ => rfl

/-! ### The counter record (R481) -/

theorem does_flashWriteDone (r i b : Nat) (cr : CommitRec) :
    Does .flashWriteDone (fun s => s.dome.waitCommit = some (r, i, b, cr)) fun s => (s.wr R.FLASH_BUSY 0).finishCommit r i b cr :=
  Does.of_meaning execFlashWriteDone (fun _ => rfl) (fun _ => rfl) fun s hwaits => by simp only [hwaits]

theorem does_flashWriteDone_none : Does .flashWriteDone (fun s => s.dome.waitCommit = none) fun s => s.wr R.FLASH_BUSY 0 :=
  Does.of_meaning execFlashWriteDone (fun _ => rfl) (fun _ => rfl) fun s hnone => by simp only [hnone]

/-! ### CANopen (R469) -/

section
variable (i : BitVec 16) (b : BitVec 8) (d : Bytes)

theorem does_usdoDownload_whole :
    Does (.usdoDownload i b d true) (fun s => s.usdoUp = true ∧ s.usdoOpen = false) fun s => s.routeWrite 2 i.toNat b.toNat d :=
  Does.of_meaning (execUsdoDownload i b d true) (fun _ => rfl) (fun _ => rfl) fun s ⟨hup, hclosed⟩ => by simp [hup, hclosed]

theorem does_usdoDownload_opens :
    Does (.usdoDownload i b d false) (fun s => s.usdoUp = true ∧ s.usdoOpen = false)
      fun s => s.setUsdo (some { idx := i.toNat, sub := b.toNat, download := true, data := d, last := s.tclk }) :=
  Does.of_meaning (execUsdoDownload i b d false) (fun _ => rfl) (fun _ => rfl) fun s ⟨hup, hclosed⟩ => by simp [hup, hclosed]

theorem does_usdoDownload_busy (l : Bool) :
    Does (.usdoDownload i b d l) (fun s => s.usdoUp = true ∧ s.usdoOpen = true) fun s => s.usdoBusy :=
  Does.of_meaning (execUsdoDownload i b d l) (fun _ => rfl) (fun _ => rfl) fun s ⟨hup, hopen⟩ => by simp [hup, hopen]

theorem does_usdoUpload :
    Does (.usdoUpload i b)
      (fun s => s.usdoUp = true ∧ s.usdoOpen = false ∧ s.fenceWaits i.toNat b.toNat = false ∧ s.readReason i.toNat b.toNat = 0 ∧
        entryDeferred i.toNat b.toNat = false ∧ ownEntry 2 i.toNat = false)
      fun s => (s.readEntry 2 i.toNat b.toNat).s.readReply 2 (s.readEntry 2 i.toNat b.toNat).data (s.readEntry 2 i.toNat b.toNat).poison :=
  Does.of_meaning (execUsdoUpload i b) (fun _ => rfl) (fun _ => rfl) fun s ⟨hup, hclosed, hfence, hreason, hdeferred, hown⟩ => by
    simp [hup, hclosed, hfence, hreason, hdeferred, hown]

end

section
variable (d : Bytes) (x : UsdoSession)

theorem does_usdoSegment_last :
    Does (.usdoSegment d true) (fun s => s.usdoUp = true ∧ s.routes.usdo = some x ∧ s.tclk ≤ x.last + tclkSec / 10)
      fun s => (s.setUsdo none).routeWrite 2 x.idx x.sub (x.data ++ d) :=
  Does.of_meaning (execUsdoSegment d true) (fun _ => rfl) (fun _ => rfl) fun s ⟨hup, hsession, hearly⟩ => by
    simp only [hup, hsession, if_neg (Nat.not_lt_of_le hearly)]
    rfl

theorem does_usdoSegment_more :
    Does (.usdoSegment d false) (fun s => s.usdoUp = true ∧ s.routes.usdo = some x ∧ s.tclk ≤ x.last + tclkSec / 10)
      fun s => s.setUsdo (some { x with data := x.data ++ d, last := s.tclk }) :=
  Does.of_meaning (execUsdoSegment d false) (fun _ => rfl) (fun _ => rfl) fun s ⟨hup, hsession, hearly⟩ => by
    simp only [hup, hsession, if_neg (Nat.not_lt_of_le hearly)]
    rfl

theorem does_usdoSessionTimeout :
    Does .usdoSessionTimeout (fun s => s.routes.usdo = some x ∧ x.last + tclkSec / 10 < s.tclk)
      fun s => ((s.setUsdo none).emit (.usdo false 0x05040000 [])).applySettings :=
  Does.of_meaning execUsdoSessionTimeout (fun _ => rfl) (fun _ => rfl) fun s ⟨hsession, hlate⟩ => by
    simp only [hsession, if_neg (Nat.not_le_of_lt hlate)]

end

section
variable {c : Instr} {v : Nat} (m : State → Host.Outcome State Fault Refusal) (hexec : ∀ s, exec c s = m s)
  (hrun : ∀ s, m s = s.run fun s => s.nmtSet v)
include hexec hrun

/-- A command of the node takes it into its state while the server is enabled and its port is up. -/
theorem Does.of_nmtSet :
    Does c (fun s => s.rd R.USDO_EN = 1 ∧ s.usdoPort = true) fun s => { s with routes := { s.routes with nmt := v } } :=
  Does.of_meaning m hexec hrun fun s ⟨hon, hport⟩ => by simp [State.nmtSet, hon, hport]

end

theorem does_nmtResetCommunication :
    Does .nmtResetCommunication (fun s => s.rd R.USDO_EN = 1 ∧ s.usdoPort = true)
      fun s => ((s.setUsdo none).nmtSet 127).applySettings :=
  Does.of_meaning execNmtResetCommunication (fun _ => rfl) (fun _ => rfl) fun s ⟨hon, hport⟩ => by simp [hon, hport]

theorem does_heartbeat :
    Does .heartbeat
      (fun s => s.rd R.HEARTBEAT ≠ 0 ∧ s.usdoPort = true ∧ s.routes.lastBeat + s.rd R.HEARTBEAT * (tclkUs * 1000) ≤ s.tclk)
      fun s => ({ s with routes := { s.routes with lastBeat := s.tclk } }).emit (.nmt s.routes.nmt) :=
  Does.of_meaning execHeartbeat (fun _ => rfl) (fun _ => rfl) fun s ⟨hperiod, hport, hdue⟩ => by
    simp [hperiod, hport, Nat.not_lt_of_le hdue]

/-! ### UDP (R470, R471) -/

/-- The response that is kept for the sender of a datagram. -/
def State.udpKept (s : State) (q : UdpReq) : UdpLast :=
  smGet (fun _ => ({ txn := 2 ^ 32, resp := [] } : UdpLast)) s.routes.udpLast (udpKey q)

theorem State.udpTake_fresh {s : State} {q : UdpReq} (htakes : s.routeTakes 3) (hgood : s.udpBad q = false)
    (hnew : (s.udpKept q).txn ≠ q.txn.toNat) (f : State → State) : s.udpTake q f = (f s).applySettings := by
  obtain ⟨hup, hturn⟩ := htakes
  simp only [State.udpTake, hup, hgood, hturn]
  exact if_neg hnew

section
variable (q : UdpReq)

theorem does_udpRead :
    Does (.udpRead q)
      (fun s => s.fenceWaits q.index.toNat q.sub.toNat = false ∧ s.routeTakes 3 ∧ s.udpBad q = false ∧
        (s.udpKept q).txn ≠ q.txn.toNat)
      fun s => (s.udpReadRun q).applySettings :=
  Does.of_meaning (execUdpRead q) (fun _ => rfl) (fun _ => rfl) fun _ ⟨hfence, htakes, hgood, hnew⟩ =>
    (if_neg (by simp [hfence])).trans (State.udpTake_fresh htakes hgood hnew _)

theorem does_udpWrite :
    Does (.udpWrite q) (fun s => s.routeTakes 3 ∧ s.udpBad q = false ∧ (s.udpKept q).txn ≠ q.txn.toNat)
      fun s => (s.udpWriteRun q).applySettings :=
  Does.of_meaning (execUdpWrite q) (fun _ => rfl) (fun _ => rfl) fun _ ⟨htakes, hgood, hnew⟩ =>
    State.udpTake_fresh htakes hgood hnew _

theorem does_udpWrite_bad : Does (.udpWrite q) (fun s => s.routeUp 3 = true ∧ s.udpBad q = true) fun s => s.udpDiscard q :=
  Does.of_meaning (execUdpWrite q) (fun _ => rfl) (fun _ => rfl) fun s ⟨hup, hbad⟩ => by simp [State.udpTake, hup, hbad]

end

end Sys2Proof.Machine

namespace Sys2Proof.Proofs
open Sys2Proof.Machine

/-- Settles O57: a request takes its entry's outcome to its route's answer, and what waited for Keeper or the flash ends. -/
theorem routeCommandsComplete : Obligations.RouteCommandsComplete :=
  ⟨does_registerWrite, does_cwShadowWrite, does_dwGoRead, does_dwGoWrite, does_deferredStart_read, does_deferredDone,
    does_deferredDone_none, acts_defTimeout, does_flashWriteDone, does_flashWriteDone_none⟩

/-- Settles O58: a transfer, a node's command or a datagram takes the branch that the session, the port or its checks decide. -/
theorem fieldRoutesComplete : Obligations.FieldRoutesComplete :=
  ⟨does_usdoDownload_whole, does_usdoDownload_opens, does_usdoDownload_busy, does_usdoUpload, does_usdoSegment_last,
    does_usdoSegment_more, does_usdoSessionTimeout, .of_nmtSet execNmtStart (fun _ => rfl) fun _ => rfl,
    .of_nmtSet execNmtStop (fun _ => rfl) fun _ => rfl, .of_nmtSet execNmtEnterPreOperational (fun _ => rfl) fun _ => rfl,
    does_nmtResetCommunication, does_heartbeat, does_udpRead, does_udpWrite, does_udpWrite_bad⟩

end Sys2Proof.Proofs
end

section
/-! PROOFS. Dome's commands (chapter 17): rollback, keys, measurements, quotes, envelopes and JTAG. -/
namespace Sys2Proof.Machine

section
variable (r : Route) (d : Bytes)

/-! ### Rollback and firmware keys (R488, R495) -/

theorem commits_rbAdv (cr : CommitRec) : Commits (.rbAdv r cr) r.val 0x2E00 0x0A cr rbAdvCheck rbAdvApply :=
  .of_meaning (execRbAdv r cr) (fun _ => rfl) fun _ => rfl

theorem does_fuseBurnDone (i n : Nat) :
    Does .fuseBurnDone (fun s => s.dome.burn = some (i, n)) fun s =>
      { s with nv := { s.nv with rollback := smSet (fun _ => 0) s.nv.rollback i n },
               dome := { s.dome with burn := none } }.event 0x2E09 0 [(8, i), (8, n)] :=
  Does.of_meaning execFuseBurnDone (fun _ => rfl) (fun _ => rfl) fun s hburn => by simp only [hburn]

theorem commits_fkRevoke (i : Fin 4) (cr : CommitRec) :
    Commits (.fkRevoke r i cr) r.val (0x2E04 + i.val) 4 cr (fkRevokeCheck i.val) (fkRevokeApply i.val) :=
  .of_meaning (execFkRevoke r i cr) (fun _ => rfl) fun _ => rfl

/-! ### Measurements and quotes (R496, R497) -/

theorem writes_mr7Extend : Writes (.mr7Extend r d) r.val 0x2E02 9 d fun s => (s.extendMr 7 d, 0) :=
  .of_meaning (execMr7Extend r d) (fun _ => rfl) fun _ => rfl

theorem writes_attGo : Writes (.attGo r) r.val 0x2E02 0x0B (toLe 1 1) State.attGo :=
  .of_meaning (execAttGo r) (fun _ => rfl) fun _ => rfl

theorem does_quoteReady (b : Bytes) :
    Does .quoteReady (fun s => s.dome.quote = some b) fun s =>
      ({ s with dome := { s.dome with quote := none } }.wr R.ATT_QUOTE (leNat (b ++ edSign s.idSeed (shake256 b 64)))).wr R.ATT_STATE 2 :=
  Does.of_meaning execQuoteReady (fun _ => rfl) (fun _ => rfl) fun s hquote => by simp only [hquote]

/-! ### Key envelopes (R498, R499) -/

theorem writes_keyEnv : Writes (.keyEnv r d) r.val 0x2E01 1 d fun s => s.keyEnv d :=
  .of_meaning (execKeyEnv r d) (fun _ => rfl) fun _ => rfl

theorem does_keyEnvelopeDone_installs (e : Bytes) :
    Does .keyEnvelopeDone
      (fun s => s.dome.envelope = some e ∧ ({ s with dome := { s.dome with envelope := none } } : State).envelopeReason e = 0)
      fun s => ({ s with dome := { s.dome with envelope := none } } : State).installKey e :=
  Does.of_meaning execKeyEnvelopeDone (fun _ => rfl) (fun _ => rfl) fun s ⟨henvelope, hgood⟩ => by
    simp only [henvelope, hgood]
    rfl

theorem does_keyEnvelopeDone_refused (e : Bytes) (c : Nat) (hc : c ≠ 0) :
    Does .keyEnvelopeDone
      (fun s => s.dome.envelope = some e ∧ ({ s with dome := { s.dome with envelope := none } } : State).envelopeReason e = c)
      fun s => (({ s with dome := { s.dome with envelope := none } } : State).wr R.KEY_STATUS c).event 0x2E06 0 [(8, c)] :=
  Does.of_meaning execKeyEnvelopeDone (fun _ => rfl) (fun _ => rfl) fun s ⟨henvelope, hbad⟩ => by
    simp only [henvelope, hbad]
    exact if_pos hc

/-! ### JTAG (R500, R501) -/

theorem writes_jtagReq (l : Fin 3) : Writes (.jtagReq r l) r.val 0x2E03 2 (toLe 1 l.val) fun s => s.jtagReq l.val :=
  .of_meaning (execJtagReq r l) (fun _ => rfl) fun _ => rfl

theorem writes_jtagRelock : Writes (.jtagRelock r) r.val 0x2E03 2 (toLe 1 0) fun s => (s.jtagRelock, 0) :=
  .of_meaning (execJtagRelock r) (fun _ => rfl) fun _ => rfl

theorem writes_jtagResp : Writes (.jtagResp r d) r.val 0x2E03 4 d fun s => s.jtagResp d :=
  .of_meaning (execJtagResp r d) (fun _ => rfl) fun _ => rfl

end

section
variable (b : Bytes) (l t : Nat)

theorem does_jtagChallengeExpire_due :
    Does .jtagChallengeExpire (fun s => s.dome.chal = some (b, l, t) ∧ t + 60 * tclkSec ≤ s.tclk)
      fun s => { s with dome := { s.dome with chal := none } } :=
  Does.of_meaning execJtagChallengeExpire (fun _ => rfl) (fun _ => rfl) fun s ⟨hchal, hdue⟩ => by
    simp only [hchal]
    exact if_pos hdue

theorem does_jtagChallengeExpire_early :
    Does .jtagChallengeExpire (fun s => s.dome.chal = some (b, l, t) ∧ s.tclk < t + 60 * tclkSec) fun s => s :=
  Does.of_meaning execJtagChallengeExpire (fun _ => rfl) (fun _ => rfl) fun s ⟨hchal, hearly⟩ => by
    simp only [hchal]
    exact if_neg (Nat.not_le_of_lt hearly)

end

section
variable (i : JtagInstr)

theorem does_jtagInstructionLoad_granted :
    Does (.jtagInstructionLoad i) (fun s => jtagLevelOf i ≤ s.dome.jtagLevel ∧ s.rd R.SNT_STATE ≠ 2)
      fun s => { s with dome := { s.dome with jtagInstr := i } } :=
  Does.of_meaning (execJtagInstructionLoad i) (fun _ => rfl) (fun _ => rfl) fun s ⟨hlevel, hsnt⟩ => by
    simp [Nat.not_lt_of_le hlevel, hsnt]

theorem does_jtagInstructionLoad_locked :
    Does (.jtagInstructionLoad i) (fun s => s.dome.jtagLevel < jtagLevelOf i)
      fun s => { s with dome := { s.dome with jtagInstr := .bypass } } :=
  Does.of_meaning (execJtagInstructionLoad i) (fun _ => rfl) (fun _ => rfl) fun s hlevel => by simp only [if_pos hlevel]

end

end Sys2Proof.Machine

namespace Sys2Proof.Proofs
open Sys2Proof.Machine

/-- Settles O59: commits and writes of their route, and ends of what Dome has in hand. -/
theorem domeComplete : Obligations.DomeComplete :=
  ⟨commits_rbAdv, does_fuseBurnDone, commits_fkRevoke, writes_mr7Extend, writes_attGo, does_quoteReady, writes_keyEnv,
    does_keyEnvelopeDone_installs, does_keyEnvelopeDone_refused, writes_jtagReq, writes_jtagRelock, writes_jtagResp,
    does_jtagChallengeExpire_due, does_jtagChallengeExpire_early, does_jtagInstructionLoad_granted,
    does_jtagInstructionLoad_locked⟩

end Sys2Proof.Proofs
end

section
/-! PROOFS. Diagnostics and the Logbook (chapter 18): the event log, an injection that acts, and the commands of the chapter. -/
namespace Sys2Proof.Machine

/-! ### What leaves the event log alone

A record that is logged may be pushed to a queue, which writes memory and may signal a cairn; none of it touches the log. -/

/-- The event log and its mark of a loss. -/
def State.logged (s : State) : List EventRecord × Bool := (s.diag.log, s.diag.lost)

section
variable (s : State)

theorem State.logged_foldl {β : Type} {f : State → β → State} (hf : ∀ s b, (f s b).logged = s.logged) (l : List β) :
    ∀ s, (l.foldl f s).logged = s.logged := by
  induction l with
  | nil => exact fun _ => rfl
  | cons b l ih => exact fun s => (ih (f s b)).trans (hf s b)

@[simp] theorem State.logged_wr (k v : Nat) : (s.wr k v).logged = s.logged := rfl
@[simp] theorem State.logged_bump (k : Nat) : (s.bump k).logged = s.logged := rfl
@[simp] theorem State.logged_emit (o : Out) : (s.emit o).logged = s.logged := rfl
@[simp] theorem State.logged_setCairn (c : Nat) (v : Cairn) : (s.setCairn c v).logged = s.logged := rfl
@[simp] theorem State.logged_setWaiter (w : Nat) (v : Option Waiter) : (s.setWaiter w v).logged = s.logged := rfl
@[simp] theorem State.logged_setQueue (q : Nat) (v : Queue) : (s.setQueue q v).logged = s.logged := rfl
@[simp] theorem State.logged_setWerr (a : Nat) (e : WordErr) : (s.setWerr a e).logged = s.logged := rfl
@[simp] theorem State.logged_qStat (q b : Nat) : (s.qStat q b).logged = s.logged := rfl
@[simp] theorem State.logged_sendFlit (typ g d tag a : Nat) (p : Bool) (b : Bytes) :
    (s.sendFlit typ g d tag a p b).logged = s.logged := rfl

@[simp] theorem State.logged_event (c a : Nat) (l : List (Nat × Nat)) : (s.event c a l).logged = s.logged := by
  unfold State.event; split <;> rfl

@[simp] theorem State.logged_detect (n a : Nat) (l : List (Nat × Nat)) : (s.detect n a l).logged = s.logged :=
  s.logged_event _ a l

@[simp] theorem State.logged_msix (v : Nat) : (s.msix v).logged = s.logged := by
  unfold State.msix; split <;> rfl

@[simp] theorem State.logged_disarmCairn (c : Nat) : (s.disarmCairn c).logged = s.logged := by
  obtain h | h := s.disarmCairn_cases c <;> simp [h]

/-! #### Words of memory -/

@[simp] theorem State.logged_setBytes (a : Nat) (d : Bytes) : (s.setBytes a d).logged = s.logged := by
  obtain ⟨m, hm⟩ := State.setBytes_cases d s a
  rw [hm]
  rfl

@[simp] theorem State.logged_logError (a g x c k n : Nat) : (s.logError a g x c k n).logged = s.logged := by
  unfold State.logError
  dsimp only
  split
  · rfl
  · split
    · rfl
    · rw [State.logged_event]; rfl

@[simp] theorem State.logged_repairCandidate (r n : Nat) (u : Bool) : (s.repairCandidate r n u).logged = s.logged := by
  unfold State.repairCandidate
  dsimp only
  split
  · rfl
  · split
    · rw [State.logged_event]; rfl
    · rfl

@[simp] theorem State.logged_countRow (r : Nat) : (s.countRow r).logged = s.logged := by
  unfold State.countRow
  dsimp only
  split
  · rw [State.logged_repairCandidate]; rfl
  · rfl

@[simp] theorem State.logged_setDev (n : Nat) : (s.setDev n).logged = s.logged := by
  unfold State.setDev
  dsimp only
  split <;> simp

@[simp] theorem State.logged_weightsHit (a : Nat) : (s.weightsHit a).logged = s.logged := by
  have hstate : ∀ t : State, (if t.rd R.WT_STATE = 0 then t.wr R.WT_STATE 1 else t).logged = t.logged := fun t => by
    split <;> simp
  have hdev : ∀ t : State, (if t.rd R.DEV_STATE = 2 then t.setDev 3 else t).logged = t.logged := fun t => by
    split <;> simp
  unfold State.weightsHit
  extract_lets id
  split
  · split
    · rfl
    · next ids s1 s2 s3 _ _ _ _ _ =>
      split
      · rfl
      · have hs1 : s1.logged = s.logged := by
          simp only [s1]
          split <;> simp
        have hs3 : s3.logged = s.logged := (hdev s2).trans ((hstate s1).trans hs1)
        rw [State.logged_event]
        clear_value s3
        exact hs3
  · rfl

@[simp] theorem State.logged_detectWord (a g : Nat) (o : WordOutcome) : (s.detectWord a g o).logged = s.logged := by
  cases o <;> simp only [State.detectWord] <;> repeat' split
  all_goals simp

@[simp] theorem State.logged_writeWord (g w o : Nat) (d : Bytes) (p : Bool) : (s.writeWord g w o d p).logged = s.logged := by
  unfold State.writeWord
  extract_lets n cls whole outcome e0 s1
  have hs1 : s1.logged = s.logged := by
    simp only [s1]
    split
    · simp
    · split
      · simp
      · cases outcome <;> simp
  split <;> simpa using hs1

/-! #### Signals of a cairn -/

@[simp] theorem State.logged_endWait (a : Nat) (v : Option Nat) (st : WaitStatus) : (s.endWait a v st).logged = s.logged := by
  unfold State.endWait
  split
  · dsimp only
    split <;> simp
  · rfl

@[simp] theorem State.logged_wakeWaiter (w : Nat) (st : WaitStatus) : (s.wakeWaiter w st).logged = s.logged := by
  unfold State.wakeWaiter
  split <;> simp

@[simp] theorem State.logged_testWaiters (c : Nat) : (s.testWaiters c).logged = s.logged := by
  refine State.logged_foldl (fun t w => ?_) _ s
  split
  · split <;> simp
  · rfl

@[simp] theorem State.logged_testNotify (c : Nat) : (s.testNotify c).logged = s.logged := by
  unfold State.testNotify
  dsimp only
  repeat' split
  all_goals simp

theorem State.logged_applySignal (g c : Nat) (a : Bool) (v : Nat) : (s.applySignal g c a v).1.logged = s.logged := by
  unfold State.applySignal
  dsimp only
  split <;> simp

theorem State.logged_forwardTest (c : Nat) : (s.forwardTest c).1.logged = s.logged := by
  have hfar : ∀ (p : CairnPlan) (t : State) (r : Nat),
      (if t.reachable r = true then t.sendFlit 5 0xC008 r 0 p.fwdCairn false (toLe 4 p.fwdAdd)
        else t.event 0x2A06 0 [(14, c), (14, p.fwdCairn)]).logged = t.logged := fun p t r => by
    split <;> simp
  unfold State.forwardTest
  dsimp only
  split
  · rfl
  · next p _ =>
    repeat' split
    · rfl
    · rfl
    · rfl
    all_goals simp [State.logged_foldl (hfar p)]

theorem State.logged_runCairnItems (n : Nat) (l : List CairnItem) : (runCairnItems n l s).logged = s.logged := by
  induction n generalizing l s with
  | zero => rfl
  | succ n ih =>
    match l with
    | [] => rfl
    | .sig g c a v src :: t =>
      have happlied := s.logged_applySignal g c a v
      simp only [runCairnItems]
      split
      · next s1 heq => rw [ih]; rwa [heq] at happlied
      · next s1 heq =>
        rw [heq] at happlied
        split
        · rw [ih, State.logged_event, happlied]
        · rw [ih, happlied]
    | .test c :: t => simp only [runCairnItems]; rw [ih, State.logged_forwardTest]

@[simp] theorem State.logged_sigAdd (g c v : Nat) : (s.sigAdd g c v).logged = s.logged := s.logged_runCairnItems _ _

/-! #### Pushes and commits -/

@[simp] theorem State.logged_qStore (q : Nat) (w : Bytes) (p : Bool) : (s.qStore q w p).logged = s.logged := by
  simp [State.qStore]

@[simp] theorem State.logged_qOverrun (q : Nat) : (s.qOverrun q).logged = s.logged := by
  unfold State.qOverrun
  dsimp only
  repeat' split
  all_goals simp

@[simp] theorem State.logged_qPushWord (q : Nat) (w : Bytes) (p : Bool) : (s.qPushWord q w p).logged = s.logged := by
  unfold State.qPushWord
  repeat' split
  all_goals simp

@[simp] theorem State.logged_qSignal (q : Nat) : (s.qSignal q).logged = s.logged := by
  unfold State.qSignal
  dsimp only
  split <;> simp

@[simp] theorem State.logged_qPush (q a : Nat) (d : Bytes) (p : Bool) : (s.qPush q a d p).logged = s.logged := by
  have hwords : ((words8 d).foldl (fun t w => t.qPushWord q w p) s).logged = s.logged :=
    State.logged_foldl (fun t w => t.logged_qPushWord q w p) _ s
  unfold State.qPush State.qForeign
  dsimp only
  repeat' split
  all_goals simp [hwords]

@[simp] theorem State.logged_qCommit (q : Nat) : (s.qCommit q).logged = s.logged := by
  unfold State.qCommit State.qRewindBad
  dsimp only
  repeat' split
  all_goals simp

@[simp] theorem State.logged_qPacket (q a : Nat) (d : Bytes) : (s.qPacket q a d).logged = s.logged := by
  unfold State.qPacket
  dsimp only
  split <;> simp

end

/-! ### The event log (R508) -/

section
variable (s : State)

theorem State.evtPop_cons {e : EventRecord} {t : List EventRecord} (h : s.diag.log = e :: t) :
    s.evtPop = (toLe 32 e, { s with diag := { s.diag with log := t } }) := by
  simp only [State.evtPop, h]

theorem State.evtPop_nil (h : s.diag.log = []) : s.evtPop = (toLe 32 0, s) := by
  simp only [State.evtPop, h]

theorem State.logEvent_full {x : Nat} (h : 256 ≤ s.diag.log.length) :
    s.logEvent x = { s with diag := { s.diag with lost := true } }.bump R.EVT_LOST := if_neg (Nat.not_lt_of_le h)

theorem State.logEvent_logs {x : Nat} (h : s.diag.log.length < 256) :
    let s1 : State := { s with diag := { s.diag with log := s.diag.log ++ [x], lost := false } }
    s.logEvent x =
      if s.rd R.EVT_QUEUE < 64 ∧ s.rd (R.Q_PROD (s.rd R.EVT_QUEUE)) = 0xA000 then
        (if 4 ≤ s1.qFree (s.rd R.EVT_QUEUE) then s1.qPacket (s.rd R.EVT_QUEUE) 0xA000 (toLe 32 x) else s1.bump R.EVT_QLOST)
      else s1 := by
  simp only [State.logEvent, h, if_true, Bool.and_eq_true, decide_eq_true_eq]

/-- A record with room is logged, and the mark of a loss is taken by it; where it is pushed does not matter. -/
theorem State.logged_logEvent {x : Nat} (h : s.diag.log.length < 256) : (s.logEvent x).logged = (s.diag.log ++ [x], false) := by
  rw [s.logEvent_logs h]
  split
  · split
    · rw [State.logged_qPacket]; rfl
    · rfl
  · rfl

theorem State.logged_queueEventFrame (x : Nat) : (s.queueEventFrame x).logged = s.logged := by
  unfold State.queueEventFrame
  split
  · rfl
  · split <;> rfl

/-- Bit 5 of a record tells of a loss before it (R504). -/
theorem State.eventRecord_lost (e : RawEvent) (n sev : Nat) (lost : Bool) : bitsOf 5 5 (s.eventRecord e n sev lost) = boolNat lost := by
  have hlost : boolNat lost < 2 := by cases lost <;> decide
  rw [bitsOf_field 5 0, State.eventRecord]
  omega

/-- An event that no hold-off suppresses and whose route logs it puts its record at the end of a log that has room. -/
theorem State.takeEvent_logs {e : RawEvent} (hhold : s.diag.hold = []) (hroute : (s.evtRoute e.code).testBit 11 = true)
    (hroom : s.diag.log.length < 256) :
    ∃ x, (s.takeEvent e).logged = (s.diag.log ++ [x], false) ∧ bitsOf 5 5 x = boolNat s.diag.lost := by
  unfold State.takeEvent
  extract_lets route s1 s2 key hold last n rec0 diag2 s3 s4 s5
  have hdiag : s2.diag = s.diag := by
    have hs1 : s1.diag = s.diag := by
      simp only [s1]
      split <;> rfl
    simp only [s2]
    split
    · exact hs1
    · exact hs1
  have hlast : last = 0 := by
    simp only [last, hdiag, hhold]
    rfl
  have hs4 : s4.logged = (s.diag.log ++ [rec0], false) := by
    have hlog : s3.diag.log = s.diag.log := (congrArg Diag.log hdiag :)
    simp only [s4, route, hroute, if_true]
    rw [s3.logged_logEvent (by rw [hlog]; exact hroom), hlog]
  have hs5 : s5.logged = s4.logged := by
    simp only [s5]
    split
    · exact s4.logged_msix _
    · rfl
  rw [hlast]
  refine ⟨rec0, ?_, ?_⟩
  · show State.logged (if route.testBit 12 = true then s5.queueEventFrame rec0 else s5) = _
    split
    · rw [State.logged_queueEventFrame, hs5, hs4]
    · rw [hs5, hs4]
  · exact (State.eventRecord_lost ..).trans (by rw [hdiag])

end

/-! ### An injection that acts (R515) -/

section
variable {s : State} {nn i : Nat}

theorem State.injHere_armed (h : s.injArmed nn i = true) :
    ∃ a, s.injHere nn i = ({ s with diag := { s.diag with inj := none } }.wr R.INJ_STATE 2).event 0x2F76 0 a := by
  rw [State.injHere, if_pos h]
  unfold State.injFire
  split
  · exact ⟨_, rfl⟩
  · next hnone => simp [State.injArmed, hnone] at h

theorem State.event_inj (s : State) (c g : Nat) (a : List (Nat × Nat)) : (s.event c g a).diag.inj = s.diag.inj := by
  unfold State.event; split <;> rfl

theorem State.injArmed_of_none (h : s.diag.inj = none) : s.injArmed nn i = false := by
  simp only [State.injArmed, h]

end

/-! ### The commands (R508, R509, R514 to R522) -/

theorem reads_evtPop (r : Route) : Reads (.evtPop r) r.val 0x2F00 1 State.evtPop :=
  .of_meaning (execEvtPop r) (fun _ => rfl) fun _ => rfl

theorem does_eventFrameTx (e : EventRecord) (l : List EventRecord) :
    Does .eventFrameTx
      (fun s => s.diag.canQ = e :: l ∧ s.replaying = false ∧ s.portUp (0x22A0 + s.rd R.EVT_CAN_PORT) = true ∧
        s.siu.busOff.testBit (s.rd R.EVT_CAN_PORT) = false)
      fun s => { s with diag := { s.diag with canQ := l } }.emit
        (.canFrame (s.rd R.EVT_CAN_PORT) (s.rd R.EVT_CAN_ID) (eventFrame e)) :=
  Does.of_meaning execEventFrameTx (fun _ => rfl) (fun _ => rfl) fun s ⟨hhead, hlive, hport, hbus⟩ => by
    simp [hhead, hlive, hport, hbus]

theorem does_eventFrameTx_replay : Does .eventFrameTx (fun s => s.replaying = true) fun s => s :=
  Does.of_meaning execEventFrameTx (fun _ => rfl) (fun _ => rfl) fun s hreplay => by simp [hreplay]

theorem commits_injReq (r : Route) (cr : CommitRec) : Commits (.injReq r cr) r.val 0x2F00 0x0E cr injReqCheck injReqApply :=
  .of_meaning (execInjReq r cr) (fun _ => rfl) fun _ => rfl

theorem does_injectionExpire (d i t : Nat) :
    Does .injectionExpire (fun s => s.diag.inj = some (d, i, t) ∧ t + tclkSec ≤ s.tclk)
      fun s => { s with diag := { s.diag with inj := none } }.wr R.INJ_STATE 3 :=
  Does.of_meaning execInjectionExpire (fun _ => rfl) (fun _ => rfl) fun s ⟨hinj, hdue⟩ => by
    simp only [hinj]
    exact if_neg (Nat.not_lt_of_le hdue)

/-! #### The Logbook (R516 to R519) -/

theorem writes_lbEn (r : Route) (v : Bool) :
    Writes (.lbEn r v) r.val 0x2F60 1 (toLe 1 (boolNat v)) fun s => s.lbEnable (boolNat v) :=
  .of_meaning (execLbEn r v) (fun _ => rfl) fun _ => rfl

section
variable (e : LbRec) (l : List LbRec)

theorem does_hostRingWrite_fits :
    Does .hostRingWrite (fun s => s.lb.ring = e :: l ∧ s.ringFits e = true) fun s =>
      let t : State := { s with lb := { s.lb with ring := l } }
      (if s.ringPadLen e = 0 then t else t.ringPad (s.ringPadLen e)).ringPut (lbRecBytes e) :=
  Does.of_meaning execHostRingWrite (fun _ => rfl) (fun _ => rfl) fun s ⟨hring, hfits⟩ => by
    simp only [hring, hfits]
    rfl

theorem does_hostRingWrite_waits : Does .hostRingWrite (fun s => s.lb.ring = e :: l ∧ s.ringFits e = false) fun s => s :=
  Does.of_meaning execHostRingWrite (fun _ => rfl) (fun _ => rfl) fun s ⟨hring, hfull⟩ => by
    simp only [hring, hfull]
    rfl

theorem does_timebaseRecord :
    Does .timebaseRecord (fun s => s.rd R.LB_EN ≠ 0 ∧ s.lb.lastBase + 500000 ≤ s.tclk)
      fun s => { s with lb := { s.lb with lastBase := s.tclk } }.lbTimebase :=
  Does.of_meaning execTimebaseRecord (fun _ => rfl) (fun _ => rfl) fun s ⟨hon, hdue⟩ =>
    if_neg (by simp [hon, Nat.not_lt_of_le hdue])

/-! #### Replay (R520 to R522) -/

theorem commits_rpGo (r : Route) (cr : CommitRec) : Commits (.rpGo r cr) r.val 0x2F70 1 cr rpGoCheck rpGoApply :=
  .of_meaning (execRpGo r cr) (fun _ => rfl) fun _ => rfl

theorem does_replayRecordApply :
    Does .replayRecordApply
      (fun s => s.lb.rpRecs = e :: l ∧ s.replaying = true ∧ s.lb.rpStart + (e.tclk - s.lb.rpFirst) ≤ s.tclk)
      fun s => ({ s with lb := { s.lb with rpRecs := l } }).replayRecord e :=
  Does.of_meaning execReplayRecordApply (fun _ => rfl) (fun _ => rfl) fun s ⟨hrecs, hreplay, hdue⟩ => by
    simp only [hrecs]
    exact if_neg (by simp [hreplay, Nat.not_lt_of_le hdue])

theorem writes_rpStop (r : Route) : Writes (.rpStop r) r.val 0x2F70 2 [1] fun s => s.rpStop 1 :=
  .of_meaning (execRpStop r) (fun _ => rfl) fun _ => rfl

theorem does_replayUnderrun : Does .replayUnderrun (fun s => s.replaying = true ∧ s.lb.rpRecs = []) fun s => s.replayEnd 4 :=
  Does.of_meaning execReplayUnderrun (fun _ => rfl) (fun _ => rfl) fun s ⟨hreplay, hempty⟩ => by simp [hreplay, hempty]

theorem does_replayUnderrun_live : Does .replayUnderrun (fun s => s.replaying = false) fun s => s :=
  Does.of_meaning execReplayUnderrun (fun _ => rfl) (fun _ => rfl) fun s hlive => by simp [hlive]

theorem does_replayRingRead :
    Does (.replayRingRead (some l)) (fun s => lbBytes l ≤ (s.rd R.RP_HOST_WR + 2 ^ 64 - s.rd R.RP_HOST_RD) % 2 ^ 64)
      fun s => { s with lb := { s.lb with rpRecs := s.lb.rpRecs ++ l } }.wr R.RP_HOST_RD
        ((s.rd R.RP_HOST_RD + lbBytes l) % 2 ^ 64) :=
  Does.of_meaning (execReplayRingRead (some l)) (fun _ => rfl) (fun _ => rfl) fun _ hheld => if_neg (Nat.not_lt_of_le hheld)

end

theorem acts_replayRingRead_none : Acts (.replayRingRead none) fun s => s.replayEnd 5 :=
  .of_meaning (execReplayRingRead none) (fun _ => rfl) fun _ => rfl

end Sys2Proof.Machine

namespace Sys2Proof.Proofs
open Sys2Proof.Machine

/-- Settles O27: the log takes a record at its end while it has room, and what pushes the record leaves the log alone. -/
theorem eventLog : Obligations.EventLog := by
  refine fun s x => ⟨fun _ _ => s.evtPop_cons, s.evtPop_nil, fun hfull => ?_, fun e hhold hroute hroom => ?_, s.logEvent_logs⟩
  · rw [s.logEvent_full hfull]
    exact ⟨rfl, State.rd_bump_same _ _, rfl⟩
  · obtain ⟨rec0, hlogged, hlost⟩ := s.takeEvent_logs hhold hroute hroom
    exact ⟨rec0, congrArg Prod.fst hlogged, hlost, congrArg Prod.snd hlogged⟩

/-- Settles O29: the evaluation that meets the injection takes it away before it reports. -/
theorem injectionActsOnce : Obligations.InjectionActsOnce := by
  refine fun s nn i => ⟨fun harmed => ?_, State.injHere_unarmed s⟩
  obtain ⟨a, hacts⟩ := State.injHere_armed harmed
  have hnone : (s.injHere nn i).diag.inj = none := by rw [hacts, State.event_inj]; rfl
  refine ⟨hnone, ?_, ?_, State.injArmed_of_none hnone, ?_⟩
  · rw [hacts, State.rd_event, State.rd_wr_same]
  · rw [hacts, State.event_codes]; rfl
  · rw [hacts, State.event_mem, State.wr_mem]

/-- Settles O60: pops, commits and writes of their route, and what acts when its time or its room has come. -/
theorem diagnosticsComplete : Obligations.DiagnosticsComplete :=
  ⟨reads_evtPop, does_eventFrameTx, does_eventFrameTx_replay, commits_injReq, does_injectionExpire, writes_lbEn,
    does_hostRingWrite_fits, does_hostRingWrite_waits, does_timebaseRecord, commits_rpGo, does_replayRecordApply, writes_rpStop,
    does_replayUnderrun, does_replayUnderrun_live, does_replayRingRead, acts_replayRingRead_none⟩

end Sys2Proof.Proofs
end

section
/-! PROOFS. Requests that are refused (R465, R467) and the checks of a commit (R480, R482): which commands are a request of a route,
what a refusal writes, the order of the checks, and the lockout. -/
namespace Sys2Proof.Machine

/-! ### The commands that are one request of a route -/

/-- Every command that carries a write request is that request, with an effect of its own. -/
theorem exec_of_writeRequest {c : Instr} {r idx sub : Nat} {d : Bytes} (h : writeRequest c = some (r, idx, sub, d)) :
    ∃ f, ∀ s, exec c s = s.run fun s => s.hostWrite r idx sub d f := by
  unfold writeRequest at h
  split at h <;> cases h
  all_goals
    apply Exists.intro
    intro s
    unfold exec
    rfl

/-- Every command that carries a commit is that commit, with its target's check and effect. -/
theorem exec_of_commitRequest {c : Instr} {r idx sub : Nat} {cr : CommitRec} (h : commitRequest c = some (r, idx, sub, cr)) :
    ∃ check apply, ∀ s, exec c s = s.run fun s => s.commit r idx sub cr check apply := by
  unfold commitRequest at h
  split at h <;> cases h
  all_goals
    apply Exists.intro
    apply Exists.intro
    intro s
    unfold exec
    rfl

/-! ### What a refusal writes (R467) -/

section
variable (s : State) (r idx sub x : Nat)

/-- The four registers of a route that a refusal writes, with the abort code `ab`. -/
def State.refusedRegs (ab : Nat) : State :=
  (((s.wr (R.R_REASON r) x).wr (R.R_ENTRY r) (idx * 65536 + sub * 256)).wr (R.R_ABORT r) ab).bump (R.R_ABORTS r)

/-- A refusal writes the registers of its route; on route 2 it is also sent. -/
theorem State.refuse_cases :
    ∃ ab, s.refuse r idx sub x = s.refusedRegs r idx sub x ab ∨
      s.refuse r idx sub x = (s.refusedRegs r idx sub x ab).emit (.usdo false ab []) := by
  unfold State.refuse
  extract_lets ab s1
  split
  · exact ⟨ab, .inr rfl⟩
  · exact ⟨ab, .inl rfl⟩

theorem State.refuse_frame : s.refuse r idx sub x = { s with dict := (s.refuse r idx sub x).dict, out := (s.refuse r idx sub x).out } := by
  have hregs : ∀ ab, ∃ m, s.refusedRegs r idx sub x ab = { s with dict := m } := fun _ => ⟨_, rfl⟩
  obtain ⟨ab, h | h⟩ := s.refuse_cases r idx sub x <;> obtain ⟨m, hm⟩ := hregs ab
  · rw [h, hm]
  · rw [h, hm]
    rfl

theorem R.refusedRegs_ne :
    R.R_REASON r ≠ R.R_ENTRY r ∧ R.R_REASON r ≠ R.R_ABORT r ∧ R.R_REASON r ≠ R.R_ABORTS r ∧ R.R_ENTRY r ≠ R.R_ABORT r ∧
      R.R_ENTRY r ≠ R.R_ABORTS r ∧ R.R_ABORTS r ≠ R.R_ABORT r := by
  unfold R.R_REASON R.R_ENTRY R.R_ABORT R.R_ABORTS
  omega

theorem State.rd_refusedRegs (ab : Nat) :
    (s.refusedRegs r idx sub x ab).rd (R.R_REASON r) = x ∧ (s.refusedRegs r idx sub x ab).rd (R.R_ENTRY r) = idx * 65536 + sub * 256 ∧
      (s.refusedRegs r idx sub x ab).rd (R.R_ABORTS r) = min (s.rd (R.R_ABORTS r) + 1) (2 ^ 32 - 1) := by
  obtain ⟨hre, hra, hrc, hea, hec, hca⟩ := R.refusedRegs_ne r
  refine ⟨?_, ?_, ?_⟩ <;> rw [State.refusedRegs]
  · rw [State.rd_bump_ne _ hrc, State.rd_wr_ne _ _ hra, State.rd_wr_ne _ _ hre, State.rd_wr_same]
  · rw [State.rd_bump_ne _ hec, State.rd_wr_ne _ _ hea, State.rd_wr_same]
  · rw [State.rd_bump_same, State.rd_wr_ne _ _ hca, State.rd_wr_ne _ _ hec.symm, State.rd_wr_ne _ _ hrc.symm]

theorem State.rd_refusedRegs_ne {k : Nat} (hreason : k ≠ R.R_REASON r) (hentry : k ≠ R.R_ENTRY r) (habort : k ≠ R.R_ABORT r)
    (hcount : k ≠ R.R_ABORTS r) (ab : Nat) : (s.refusedRegs r idx sub x ab).rd k = s.rd k := by
  rw [State.refusedRegs, State.rd_bump_ne _ hcount, State.rd_wr_ne _ _ habort, State.rd_wr_ne _ _ hentry, State.rd_wr_ne _ _ hreason]

/-- What is sent changes no register. -/
theorem State.rd_refuse_eq : ∃ ab, ∀ k, (s.refuse r idx sub x).rd k = (s.refusedRegs r idx sub x ab).rd k := by
  obtain ⟨ab, h | h⟩ := s.refuse_cases r idx sub x
  · exact ⟨ab, fun k => by rw [h]⟩
  · exact ⟨ab, fun k => by rw [h, State.rd_emit]⟩

theorem State.rd_refuse :
    (s.refuse r idx sub x).rd (R.R_REASON r) = x ∧ (s.refuse r idx sub x).rd (R.R_ENTRY r) = idx * 65536 + sub * 256 ∧
      (s.refuse r idx sub x).rd (R.R_ABORTS r) = min (s.rd (R.R_ABORTS r) + 1) (2 ^ 32 - 1) := by
  obtain ⟨ab, h⟩ := s.rd_refuse_eq r idx sub x
  simp only [h]
  exact s.rd_refusedRegs r idx sub x ab

theorem State.rd_refuse_ne {k : Nat} (hreason : k ≠ R.R_REASON r) (hentry : k ≠ R.R_ENTRY r) (habort : k ≠ R.R_ABORT r)
    (hcount : k ≠ R.R_ABORTS r) : (s.refuse r idx sub x).rd k = s.rd k := by
  obtain ⟨ab, h⟩ := s.rd_refuse_eq r idx sub x
  rw [h, State.rd_refusedRegs_ne _ _ _ _ _ hreason hentry habort hcount]

/-- A refusal reaches no register above those of the routes. -/
theorem State.rd_refuse_other {k : Nat} (hr : r < 4) (hk : 0x201404 < k) : (s.refuse r idx sub x).rd k = s.rd k := by
  obtain ⟨hreason, hentry, habort, hcount⟩ : k ≠ R.R_REASON r ∧ k ≠ R.R_ENTRY r ∧ k ≠ R.R_ABORT r ∧ k ≠ R.R_ABORTS r := by
    unfold R.R_REASON R.R_ENTRY R.R_ABORT R.R_ABORTS
    omega
  exact s.rd_refuse_ne r idx sub x hreason hentry habort hcount

end

/-! ### The order of the checks (R480, R483) -/

section
variable {s : State} {r idx sub : Nat} {cr : CommitRec}

/-- What the checks of a commit make of its shadow's target and value, from step 2 on. -/
def State.shadowReason (s : State) (idx sub : Nat) (cr : CommitRec) : Option (Nat × Bytes) → Nat
  | none => 0x2E02
  | some (k, v) =>
    if k ≠ entryKey idx sub then 0x2E02
    else if !s.keyCovers cr.keyId.toNat idx then 0x2E03
    else if s.rd R.CMD_CTR = 2 ^ 64 - 1 then 0x2E04
    else if cr.counter.toNat ≤ s.rd R.CMD_CTR then 0x2E05
    else if s.commitTag cr.keyId.toNat idx sub v cr.counter.toNat ≠ toLe 16 cr.tag.toNat then 0x2E06
    else if s.inLockout then 0x2E07
    else 0

theorem State.commitReason_live (h : s.replaying = false) :
    s.commitReason r idx sub cr =
      if cr.rsvd ≠ 0 ∨ isCw idx sub = false ∨ resourcePresent s.variant idx sub = false then 0x2E01
      else s.shadowReason idx sub cr (s.shadow r) := by
  unfold State.commitReason isCw
  cases entryOf idx sub with
  | none => simp [h]
  | some e => cases s.shadow r <;> simp [h, State.shadowReason]

/-- In lockout the last of the checks gives 0x2E07, and the others give a reason of their own. -/
theorem State.commitReason_lockout (h : s.inLockout = true) : s.commitReason r idx sub cr ≠ 0 := by
  cases hreplay : s.replaying with
  | true => simp [State.commitReason, hreplay]
  | false =>
    rw [State.commitReason_live hreplay]
    split
    · decide
    · match s.shadow r with
      | none => simp [State.shadowReason]
      | some (k, v) =>
        simp only [State.shadowReason, h, if_true]
        repeat' split
        all_goals decide

end

/-! ### A failure and the lockout (R480, R482) -/

section
variable (s : State) (r idx sub x : Nat)

/-- A failure is shown and reported. -/
def State.failShown : State :=
  (s.wr R.CMT_STATUS x).event 0x2E02 0 [(8, r), (24, entryArg idx sub), (16, x)]

/-- A failure at step 6 is also counted in `CMT_FAILS`. -/
def State.failCounted : State :=
  (s.failShown r idx sub 0x2E06).bump R.CMT_FAILS

theorem State.failShown_routes : (s.failShown r idx sub x).routes = s.routes := by
  rw [State.failShown, State.event_routes, State.wr_routes]

theorem State.failShown_codes :
    (s.failShown r idx sub x).diag.raised.map RawEvent.code = s.diag.raised.map RawEvent.code ++ [0x2E02] := by
  rw [State.failShown, State.event_codes, State.wr_diag]

theorem State.rd_failShown_ne {k : Nat} (hk : k ≠ R.CMT_STATUS) : (s.failShown r idx sub x).rd k = s.rd k := by
  rw [State.failShown, State.rd_event, State.rd_wr_ne _ _ hk]

theorem State.rd_failShown_status : (s.failShown r idx sub x).rd R.CMT_STATUS = x := by
  rw [State.failShown, State.rd_event, State.rd_wr_same]

theorem State.failCounted_routes : (s.failCounted r idx sub).routes = s.routes := by
  rw [State.failCounted, State.bump_routes, State.failShown_routes]

theorem State.failCounted_tclk : (s.failCounted r idx sub).tclk = s.tclk := by
  rw [State.failCounted, State.bump_tclk, State.failShown, State.event_tclk, State.wr_tclk]

theorem State.failCounted_codes :
    (s.failCounted r idx sub).diag.raised.map RawEvent.code = s.diag.raised.map RawEvent.code ++ [0x2E02] := by
  rw [State.failCounted, State.bump_diag, State.failShown_codes]

theorem State.rd_failCounted_fails : (s.failCounted r idx sub).rd R.CMT_FAILS = min (s.rd R.CMT_FAILS + 1) (2 ^ 32 - 1) := by
  rw [State.failCounted, State.rd_bump_same, State.rd_failShown_ne _ _ _ _ _ (by decide)]

/-- The run of failures at step 6, in a state that has counted one more of them. -/
def State.failEnd (t : State) : State :=
  if t.routes.failRun < 15 then { t with routes := { t.routes with failRun := t.routes.failRun + 1 } }
  else ({ t with routes := { t.routes with failRun := 0, lockUntil := some (t.tclk + 500000000) } }).event 0x2E03 0 []

theorem State.commitFail_other (h : x ≠ 0x2E06) : s.commitFail r idx sub x = s.failShown r idx sub x := if_pos h

theorem State.commitFail_tag : s.commitFail r idx sub 0x2E06 = (s.failCounted r idx sub).failEnd := by
  have hrun : ∀ t : State, (t.routes.failRun + 1 < 16) = (t.routes.failRun < 15) := fun t => propext (by omega)
  unfold State.commitFail
  rw [if_neg (by decide)]
  simp only [hrun]
  rfl

section
variable (t : State)

theorem State.failEnd_early (h : t.routes.failRun < 15) :
    t.failEnd = { t with routes := { t.routes with failRun := t.routes.failRun + 1 } } := if_pos h

theorem State.failEnd_sixteenth (h : 15 ≤ t.routes.failRun) :
    t.failEnd = ({ t with routes := { t.routes with failRun := 0, lockUntil := some (t.tclk + 500000000) } }).event 0x2E03 0 [] :=
  if_neg (Nat.not_lt.mpr h)

theorem State.rd_failEnd (k : Nat) : t.failEnd.rd k = t.rd k := by
  rcases Nat.lt_or_ge t.routes.failRun 15 with hearly | hlast
  · rw [t.failEnd_early hearly]
    rfl
  · rw [t.failEnd_sixteenth hlast, State.rd_event]
    rfl

/-- The end of a run of failures changes no more of a state than the run, its lockout and the events raised. -/
theorem State.failEnd_keeps :
    t.failEnd.routes.shadow = t.routes.shadow ∧ t.failEnd.mem = t.mem ∧ t.failEnd.clock = t.clock ∧ t.failEnd.nv = t.nv ∧
      t.failEnd.dome = t.dome := by
  rcases Nat.lt_or_ge t.routes.failRun 15 with hearly | hlast
  · rw [t.failEnd_early hearly]
    exact ⟨rfl, rfl, rfl, rfl, rfl⟩
  · rw [t.failEnd_sixteenth hlast, State.event_routes, State.event_mem, State.event_clock, State.event_nv, State.event_dome]
    exact ⟨rfl, rfl, rfl, rfl, rfl⟩

end

theorem State.rd_commitFail :
    (s.commitFail r idx sub x).rd R.CMD_CTR = s.rd R.CMD_CTR ∧ (s.commitFail r idx sub x).rd R.CMT_STATUS = x := by
  by_cases hx : x = 0x2E06
  · rw [hx, s.commitFail_tag, State.rd_failEnd, State.rd_failEnd, State.failCounted, State.rd_bump_ne _ (by decide),
      State.rd_bump_ne _ (by decide), State.rd_failShown_status]
    exact ⟨State.rd_failShown_ne _ _ _ _ _ (by decide), rfl⟩
  · rw [s.commitFail_other r idx sub x hx]
    exact ⟨State.rd_failShown_ne _ _ _ _ _ (by decide), s.rd_failShown_status r idx sub x⟩

theorem State.failShown_keeps :
    (s.failShown r idx sub x).mem = s.mem ∧ (s.failShown r idx sub x).clock = s.clock ∧ (s.failShown r idx sub x).nv = s.nv ∧
      (s.failShown r idx sub x).dome = s.dome := by
  simp [State.failShown]

theorem State.commitFail_keeps :
    (s.commitFail r idx sub x).routes.shadow = s.routes.shadow ∧ (s.commitFail r idx sub x).mem = s.mem ∧
      (s.commitFail r idx sub x).clock = s.clock ∧ (s.commitFail r idx sub x).nv = s.nv ∧ (s.commitFail r idx sub x).dome = s.dome := by
  obtain ⟨hmem, hclock, hnv, hdome⟩ := s.failShown_keeps r idx sub x
  by_cases hx : x = 0x2E06
  · subst hx
    obtain ⟨hshadow', hmem', hclock', hnv', hdome'⟩ := (s.failCounted r idx sub).failEnd_keeps
    rw [s.commitFail_tag, hshadow', hmem', hclock', hnv', hdome', State.failCounted_routes]
    exact ⟨rfl, hmem, hclock, hnv, hdome⟩
  · rw [s.commitFail_other r idx sub x hx, State.failShown_routes]
    exact ⟨rfl, hmem, hclock, hnv, hdome⟩

/-- What a target writes when it refuses a commit itself: `ALM_ERR` at most, and an event. -/
theorem State.targetRefused_cases :
    s.targetRefused idx sub x = s ∨ s.targetRefused idx sub x = s.event 0x2109 0 [] ∨
      ∃ v l, s.targetRefused idx sub x = (s.wr R.ALM_ERR v).event 0x2702 0 l := by
  unfold State.targetRefused
  split
  · split
    · exact .inl rfl
    · exact .inr (.inl rfl)
  · split
    · exact .inr (.inr ⟨_, _, rfl⟩)
    · exact .inl rfl

theorem State.targetRefused_keeps :
    (s.targetRefused idx sub x).rd R.CMD_CTR = s.rd R.CMD_CTR ∧ (s.targetRefused idx sub x).routes = s.routes ∧
      (s.targetRefused idx sub x).mem = s.mem ∧ (s.targetRefused idx sub x).clock = s.clock ∧ (s.targetRefused idx sub x).nv = s.nv ∧
      (s.targetRefused idx sub x).dome = s.dome := by
  have hne : R.CMD_CTR ≠ R.ALM_ERR := by decide
  obtain h | h | ⟨v, l, h⟩ := s.targetRefused_cases idx sub x <;> rw [h]
  · exact ⟨rfl, rfl, rfl, rfl, rfl, rfl⟩
  · simp
  · simp [State.rd_wr_ne _ _ hne]

theorem State.lbRecord_routes (g t : Nat) (p : Bytes) : (s.lbRecord g t p).routes = s.routes := by
  unfold State.lbRecord State.lbAppend
  dsimp only
  repeat' split
  all_goals simp

/-- In replay the target refuses before the failure is shown (R483). -/
theorem State.targetRefused_before_keeps :
    let u := if x = 0x2008 then s.targetRefused idx sub 0x2008 else s
    u.rd R.CMD_CTR = s.rd R.CMD_CTR ∧ u.routes = s.routes ∧ u.mem = s.mem ∧ u.clock = s.clock ∧ u.nv = s.nv ∧ u.dome = s.dome := by
  extract_lets u
  by_cases hx : x = 0x2008
  · rw [show u = s.targetRefused idx sub 0x2008 from if_pos hx]
    exact s.targetRefused_keeps idx sub 0x2008
  · rw [show u = s from if_neg hx]
    exact ⟨rfl, rfl, rfl, rfl, rfl, rfl⟩

theorem State.commitAccept_failRun (cr : CommitRec) (v : Bytes) : (s.commitAccept r idx sub cr v).routes.failRun = 0 := by
  rw [State.commitAccept, State.lbRecord_routes]

theorem State.inLockout_iff {t : Nat} (h : s.routes.lockUntil = some t) : s.inLockout = true ↔ s.tclk < t := by
  simp [State.inLockout, h]

end

end Sys2Proof.Machine

namespace Sys2Proof.Proofs
open Sys2Proof.Machine

/-- Settles O9: such a command is a write on its route, and a refusal writes the route's registers alone. -/
theorem refusedWriteFrame : Obligations.RefusedWriteFrame := by
  intro c r idx sub d hrequest
  obtain ⟨f, hexec⟩ := exec_of_writeRequest hrequest
  exact ⟨Does.of_run hexec fun s ⟨htakes, hreason⟩ => s.hostWrite_refused htakes hreason,
    Does.of_run hexec fun s hwaits => s.hostWrite_waits hwaits,
    fun s x _ => ⟨(s.rd_refuse r idx sub x).1, (s.rd_refuse r idx sub x).2.1, (s.rd_refuse r idx sub x).2.2,
      fun _ hreason hentry habort hcount => s.rd_refuse_ne r idx sub x hreason hentry habort hcount, s.refuse_frame r idx sub x⟩⟩

/-- Settles O11: the checks are one chain of conditions. -/
theorem commitChecksInOrder : Obligations.CommitChecksInOrder := by
  intro s r idx sub cr k v hlive
  have hreason := State.commitReason_live (r := r) (idx := idx) (sub := sub) (cr := cr) hlive
  refine ⟨⟨fun hrsvd => ?_, fun _ htarget => ?_⟩, fun hrsvd hcw hpresent => ?_⟩
  · rw [hreason, if_pos (.inl hrsvd)]
  · rw [hreason, if_pos (.inr htarget)]
  · rw [hreason, if_neg (by simp [hrsvd, hcw, hpresent])]
    refine ⟨fun hnone => by rw [hnone]; rfl, fun hsome => ?_⟩
    rw [hsome]
    refine ⟨fun hk => if_pos hk, fun hk => ⟨fun hkey => ?_, fun hkey => ⟨fun hlast => ?_, fun hlast => ⟨fun hold => ?_, fun hnew => ?_⟩⟩⟩⟩
    · simp [State.shadowReason, hk, hkey]
    · simp [State.shadowReason, hk, hkey, hlast]
    · rw [State.shadowReason, if_neg (not_not.mpr hk), if_neg (by simp [hkey]), if_neg hlast, if_pos hold]
    · have hfresh := Nat.not_le_of_lt hnew
      refine ⟨fun htag => ?_, fun htag => ?_⟩
      · rw [State.shadowReason, if_neg (not_not.mpr hk), if_neg (by simp [hkey]), if_neg hlast, if_neg hfresh, if_pos htag]
      · rw [State.shadowReason, if_neg (not_not.mpr hk), if_neg (by simp [hkey]), if_neg hlast, if_neg hfresh, if_neg (not_not.mpr htag)]

/-- Settles O10: the refusal of the route comes after the target's own and the failure shown, and each keeps the counter, the
shadows and the units. -/
theorem refusedCommitFrame : Obligations.RefusedCommitFrame := by
  intro c r idx sub cr hrequest
  obtain ⟨check, apply, hexec⟩ := exec_of_commitRequest hrequest
  refine ⟨Does.of_run hexec fun s ⟨htakes, hup, hfree, hreason⟩ => s.commit_refused htakes hup hfree hreason, fun s x hr => ?_⟩
  extract_lets t
  obtain ⟨hctr, hroutes, hmem, hclock, hnv, hdome⟩ := s.targetRefused_before_keeps idx sub x
  set u := if x = 0x2008 then s.targetRefused idx sub 0x2008 else s
  obtain ⟨hctr', hstatus⟩ := u.rd_commitFail r idx sub x
  obtain ⟨hshadow', hmem', hclock', hnv', hdome'⟩ := u.commitFail_keeps r idx sub x
  have hrefused : t = { u.commitFail r idx sub x with dict := t.dict, out := t.out } := State.refuse_frame _ r idx sub x
  have hkept : ∀ k, 0x201404 < k → t.rd k = (u.commitFail r idx sub x).rd k := fun k hk =>
    State.rd_refuse_other _ r idx sub x hr hk
  refine ⟨?_, ?_, ?_, (State.rd_refuse _ r idx sub x).1, ?_, ?_, ?_, ?_⟩
  · rw [hkept _ (by decide), hctr', hctr]
  · rw [hrefused, hshadow', hroutes]
  · rw [hkept _ (by decide), hstatus]
  · rw [hrefused, hmem', hmem]
  · rw [hrefused, hclock', hclock]
  · rw [hrefused, hnv', hnv]
  · rw [hrefused, hdome', hdome]

/-- Settles O12: a failure at step 6 counts and ends a run of sixteen in a lockout; no other failure touches the run. -/
theorem lockoutAfterSixteen : Obligations.LockoutAfterSixteen := by
  intro s r idx sub cr v x
  have hroutes := s.failCounted_routes r idx sub
  have hcodes := s.failCounted_codes r idx sub
  rw [s.commitFail_tag]
  refine ⟨?_, fun hearly => ⟨?_, ?_⟩, fun hlast => ⟨?_, ?_⟩, fun hx => ?_, s.commitAccept_failRun r idx sub cr v, fun t => s.inLockout_iff,
    State.commitReason_lockout⟩
  · rw [State.rd_failEnd, s.rd_failCounted_fails]
  · rw [State.failEnd_early _ (by rwa [hroutes]), hroutes]
  · rw [State.failEnd_early _ (by rwa [hroutes]), hcodes]
  · rw [State.failEnd_sixteenth _ (by rwa [hroutes]), State.event_routes, hroutes, s.failCounted_tclk]
  · rw [State.failEnd_sixteenth _ (by rwa [hroutes]), State.event_codes, hcodes, List.append_assoc]
    rfl
  · rw [s.commitFail_other r idx sub x hx, s.failShown_routes]
    exact ⟨rfl, s.rd_failShown_ne r idx sub x (by decide)⟩

end Sys2Proof.Proofs
end
